-- ==== Sys2Proof/Word.lean ====
section
/-!
DEFINITION. The word types of the machine: 32-bit register words (R15) and bytes, with the plainest helpers on them.
-/
namespace Sys2Proof

/-- A register word (R15). -/
abbrev Word := BitVec 32

/-- A byte of a packet, a block or a memory. -/
abbrev Byte := BitVec 8

end Sys2Proof
end

