-- ==== Sys2Proof/Syntax.lean ====
section
/-!
DEFINITION. The commands of the block: `Cmd`, a command packet's decoded content (R280), and `Instr`, one constructor
per row of the opcode table (the 46 opcodes as their executor performs them, then every event of the part).
-/
namespace Sys2Proof

/-- The path a packet came by (R247); `device` for the device's own writes (R328). -/
inductive Source where
  | spi | linkA | linkB | device
  deriving DecidableEq, Repr

/-- The five command queues (R261), in the order of their numbers. -/
inductive Queue where
  | system | display | cellar | test | safety
  deriving DecidableEq, Repr

/-- What the command engine remembers of a packet while its command runs: the source path (R248), the content that
the reply store records (R258), the handle of a queued command (0 for an immediate one) and CQ_SKIP (R251). -/
structure Ctx where
  src : Source
  seq : Nat
  ptype : Nat
  len : Nat
  crc : Nat
  handle : Nat
  cqSkip : Bool
  deriving DecidableEq, Repr

/-- A decoded command (R280 to R319), with the parameters its layout names. -/
inductive Cmd where
  | nop
  | identify
  | status
  | regRead (addr n : Nat) (fixed : Bool)
  | regWrite (addr : Nat) (fixed : Bool) (data : List Word)
  | regModify (addr : Nat) (mask value : Word)
  | fence (qmask : Nat) (all : Bool) (handles : List Nat)
  | fenceTick (qmask mode value : Nat)
  | queryHandle (h : Nat)
  | readCompletions (max : Nat)
  | cancel (h : Nat)
  | setPowerState (st op retain wake wakeMs : Nat)
  | shutdown (storeCfg force : Bool) (next : Nat)
  | resetDevice (kind key : Nat)
  | layerCommit (mask : Nat)
  | rack (beam mask bgW bgC : Nat)
  | caskSelect (mask beam : Nat)
  | cutWindowSet (win y0 y1 g0 g1 : Nat)
  | cutWindowClear (mask : Nat)
  | symbolLoad (index : Nat) (first last : Bool) (offset width height warm cool format crc doff : Nat) (data : List Byte)
  | coefLoad (set : Nat) (coef : List Byte)
  | rampLoad (ramp : List Nat)
  | mixLoad (table : Nat) (entries : List (Nat × Nat))
  | regionSigSet (index : Nat) (en check : Bool) (point x0 y0 x1 y1 expect : Nat)
  | cellarRead (src region offset n : Nat)
  | cellarWrite (soff : Nat) (data : List Byte)
  | cellarStore (region offset len : Nat)
  | cellarInfo
  | firmwareStage (slot : Nat) (first last : Bool) (offset total crc : Nat) (data : List Byte)
  | firmwareActivate (slot : Nat) (reboot : Bool)
  | calibrate (mode colours strips maxFrames : Nat)
  | bistPlan (plan : Nat) (quick : Bool)
  | bistResult (which : Nat)
  | scanCheck (space alg : Nat) (compare : Bool) (start len expect : Nat)
  | monitorConfig (mon : Nat) (en log2 : Bool) (source shift x0 y0 x1 y1 frames : Nat)
  | monitorRead (mon : Nat) (clear : Bool)
  | faultMapRead (start max : Nat) (clear : Bool)
  | rowKill (row op : Nat) (persist : Bool)
  | sealRead
  | sealConfirm (code : Nat)
  | passwordUnlock (op len : Nat) (pw : List Byte)
  | changeLogRead (first max : Nat)
  | safeStateRelease
  | groupConfig (role member count : Nat)
  | groupStatus
  | satConfig (len timing : Nat) (en tcomp : Bool)
  | satWrite (first : Nat) (words : List (BitVec 48))
  deriving DecidableEq, Repr

/-- A hardware update that reaches a register in the same core cycle as a write (R337): a field's place and the value
it takes, or the step of a counter. -/
structure HwUpd where
  lo : Nat
  w : Nat
  value : Nat
  count : Bool
  deriving DecidableEq, Repr

/-- The commands of the block: one constructor per row of the opcode table. The first 46 are the opcodes, as their
executor performs them in a context `x`; the others are the events of the part, with what the outside world supplies. -/
inductive Instr where
  /-- NOP: R280 -/
  | nop (x : Ctx)
  /-- IDENTIFY: R282 -/
  | identify (x : Ctx)
  /-- STATUS: R283 -/
  | status (x : Ctx)
  /-- REG_READ: R285 -/
  | regRead (x : Ctx) (addr n : Nat) (fixed : Bool)
  /-- REG_WRITE: R286 -/
  | regWrite (x : Ctx) (addr : Nat) (fixed : Bool) (data : List Word)
  /-- REG_MODIFY: R287 -/
  | regModify (x : Ctx) (addr : Nat) (mask value : Word) (hw : List HwUpd)
  /-- FENCE: R268 -/
  | fence (x : Ctx) (qmask : Nat) (all : Bool) (handles : List Nat)
  /-- FENCE_TICK: R270 -/
  | fenceTick (x : Ctx) (qmask mode value : Nat)
  /-- QUERY_HANDLE: R288 -/
  | queryHandle (x : Ctx) (h : Nat)
  /-- READ_COMPLETIONS: R289 -/
  | readCompletions (x : Ctx) (max : Nat)
  /-- CANCEL: R272 -/
  | cancel (x : Ctx) (h : Nat)
  /-- SET_POWER_STATE: R291 -/
  | setPowerState (x : Ctx) (st op retain wake wakeMs : Nat)
  /-- SHUTDOWN: R292 -/
  | shutdown (x : Ctx) (storeCfg force : Bool) (next : Nat)
  /-- RESET_DEVICE: R293 -/
  | resetDevice (x : Ctx) (kind key : Nat)
  /-- LAYER_COMMIT: R143 -/
  | layerCommit (x : Ctx) (mask : Nat)
  /-- RACK: R170 -/
  | rack (x : Ctx) (beam mask bgW bgC : Nat)
  /-- CASK_SELECT: R174 -/
  | caskSelect (x : Ctx) (mask beam : Nat)
  /-- CUT_WINDOW_SET: R295 -/
  | cutWindowSet (x : Ctx) (win y0 y1 g0 g1 : Nat)
  /-- CUT_WINDOW_CLEAR: R295 -/
  | cutWindowClear (x : Ctx) (mask : Nat)
  /-- SYMBOL_LOAD: R161 -/
  | symbolLoad (x : Ctx) (index : Nat) (first last : Bool) (offset width height warm cool format crc doff : Nat) (data : List Byte)
  /-- COEF_LOAD: R153 -/
  | coefLoad (x : Ctx) (set : Nat) (coef : List Byte)
  /-- RAMP_LOAD: R60 -/
  | rampLoad (x : Ctx) (ramp : List Nat)
  /-- MIX_LOAD: R95 -/
  | mixLoad (x : Ctx) (table : Nat) (entries : List (Nat × Nat))
  /-- REGION_SIG_SET: R299 -/
  | regionSigSet (x : Ctx) (index : Nat) (en check : Bool) (point x0 y0 x1 y1 expect : Nat)
  /-- CELLAR_READ: R304 -/
  | cellarRead (x : Ctx) (src region offset n : Nat)
  /-- CELLAR_WRITE: R302 -/
  | cellarWrite (x : Ctx) (soff : Nat) (data : List Byte)
  /-- CELLAR_STORE: R303 -/
  | cellarStore (x : Ctx) (region offset len : Nat)
  /-- CELLAR_INFO: R305 -/
  | cellarInfo (x : Ctx)
  /-- FIRMWARE_STAGE: R306 -/
  | firmwareStage (x : Ctx) (slot : Nat) (first last : Bool) (offset total crc : Nat) (data : List Byte)
  /-- FIRMWARE_ACTIVATE: R307 -/
  | firmwareActivate (x : Ctx) (slot : Nat) (reboot : Bool)
  /-- CALIBRATE: R308 -/
  | calibrate (x : Ctx) (mode colours strips maxFrames : Nat)
  /-- BIST_PLAN: R309 -/
  | bistPlan (x : Ctx) (plan : Nat) (quick : Bool)
  /-- BIST_RESULT: R310 -/
  | bistResult (x : Ctx) (which : Nat)
  /-- SCAN_CHECK: R311 -/
  | scanCheck (x : Ctx) (space alg : Nat) (compare : Bool) (start len expect : Nat)
  /-- MONITOR_CONFIG: R312 -/
  | monitorConfig (x : Ctx) (mon : Nat) (en log2 : Bool) (source shift x0 y0 x1 y1 frames : Nat)
  /-- MONITOR_READ: R312 -/
  | monitorRead (x : Ctx) (mon : Nat) (clear : Bool)
  /-- FAULT_MAP_READ: R313 -/
  | faultMapRead (x : Ctx) (start max : Nat) (clear : Bool)
  /-- ROW_KILL: R314 -/
  | rowKill (x : Ctx) (row op : Nat) (persist : Bool)
  /-- SEAL_READ: R315 -/
  | sealRead (x : Ctx)
  /-- SEAL_CONFIRM: R240 -/
  | sealConfirm (x : Ctx) (code : Nat)
  /-- PASSWORD_UNLOCK: R242 -/
  | passwordUnlock (x : Ctx) (op len : Nat) (pw : List Byte)
  /-- CHANGE_LOG_READ: R317 -/
  | changeLogRead (x : Ctx) (first max : Nat)
  /-- SAFE_STATE_RELEASE: R229 -/
  | safeStateRelease (x : Ctx)
  /-- GROUP_CONFIG: R440 -/
  | groupConfig (x : Ctx) (role member count : Nat)
  /-- GROUP_STATUS: R319 -/
  | groupStatus (x : Ctx)
  /-- SAT_CONFIG: R452 -/
  | satConfig (x : Ctx) (len timing : Nat) (en tcomp : Bool)
  /-- SAT_WRITE: R453 -/
  | satWrite (x : Ctx) (first : Nat) (words : List (BitVec 48))
  /-- SPI_FRAME: R252 -/
  | spiFrame (bytes : List Byte)
  /-- REPLY_FETCH: R255 -/
  | replyFetch (src : Source) (seq : Nat) (inFlight : Bool)
  /-- QUEUE_ENTRY_START: R262 -/
  | queueEntryStart (q : Queue)
  /-- BARRIER_RELEASE: R268 -/
  | barrierRelease (h : Nat)
  /-- FENCE_TICK_RELEASE: R270 -/
  | fenceTickRelease (h : Nat)
  /-- RESET_DEVICE_START: R293 -/
  | resetDeviceStart (lost : Nat)
  /-- REGISTER_WRITE: R326 -/
  | registerWrite (src : Source) (addr : Nat) (v : Word) (hw : List HwUpd)
  /-- RC_STATUS_READ: R336 -/
  | rcStatusRead (src : Source) (addr : Nat)
  /-- REJ_FIFO_POP: R328 -/
  | rejFifoPop (src : Source)
  /-- TIME_BASE_READ_LO: R52 -/
  | timeBaseReadLo (src : Source) (stamp : Bool)
  /-- SYS_KEY_WRITE: R332 -/
  | sysKeyWrite (src : Source) (v : Word)
  /-- UNLOCK_LAPSE: R333 -/
  | unlockLapse
  /-- TIME_BASE_LOAD: R53 -/
  | timeBaseLoad (src : Source) (v : Word)
  /-- CUT_COLS_WRITE: R75 -/
  | cutColsWrite (src : Source) (w : Nat) (v : Word)
  /-- CUT_ROWS_STAGE: R75 -/
  | cutRowsStage (src : Source) (w : Nat) (v : Word)
  /-- LAYER_DISABLE: R140 -/
  | layerDisable (src : Source) (n : Nat) (v : Word)
  /-- SE_STOP: R122 -/
  | seStop (src : Source) (v : Word)
  /-- SE_START: R122 -/
  | seStart (src : Source) (v : Word)
  /-- LANE_DISABLE: R200 -/
  | laneDisable (src : Source) (v : Word)
  /-- LANE_ENABLE: R200 -/
  | laneEnable (src : Source) (v : Word)
  /-- RL_DISABLE: R202 -/
  | rlDisable (src : Source) (v : Word)
  /-- RL_ENABLE: R202 -/
  | rlEnable (src : Source) (v : Word)
  /-- RL_BURST_REQUEST: R202 -/
  | rlBurstRequest (src : Source) (v : Word)
  /-- GOV_SCALE_WRITE: R105 -/
  | govScaleWrite (src : Source) (v : Word)
  /-- CELLAR_EN_WRITE: R325 -/
  | cellarEnWrite (src : Source) (v : Word)
  /-- SCAN_DISABLE: R324 -/
  | scanDisable (src : Source) (v : Word)
  /-- CRC_UNIT_INIT: R430 -/
  | crcUnitInit (src : Source) (k : Nat) (v : Word)
  /-- CRC_UNIT_DATA: R430 -/
  | crcUnitData (src : Source) (k : Nat) (v : Word)
  /-- MEM_INMAP_WRITE: R351 -/
  | memInmapWrite (src : Source) (v : Word)
  /-- OP_REQUEST_WRITE: R374 -/
  | opRequestWrite (src : Source) (v : Word)
  /-- OP_STEP_DONE: R373 -/
  | opStepDone
  /-- TICK: R42 -/
  | tick
  /-- PREDICTION_PASS_START: R501 -/
  | predictionPassStart
  /-- PREDICTION_PASS_DONE: R104 -/
  | predictionPassDone
  /-- VLED_TARGET_HANDOVER: R378 -/
  | vledTargetHandover
  /-- DECISION_POINT: R125 -/
  | decisionPoint
  /-- COMPOSITION_DONE: R27 -/
  | compositionDone (cp : Nat)
  /-- RACK_DONE: R173 -/
  | rackDone
  /-- SLOT_START: R116 -/
  | slotStart
  /-- WRITE_WINDOW_OPEN: R63 -/
  | writeWindowOpen (bank : Nat)
  /-- ROW_SLOT: R65 -/
  | rowSlot (y : Nat) (shorts opens : List (Nat × Bool)) (progress : List Nat)
  /-- WRITE_WINDOW_END: R63 -/
  | writeWindowEnd (bank : Nat)
  /-- DARK_SLOT_START: R48 -/
  | darkSlotStart
  /-- DARK_SLOT_END: R71 -/
  | darkSlotEnd
  /-- CAL_SAMPLE: R412 -/
  | calSample (sub i : Nat) (readings : List Nat)
  /-- CAL_FIT_DONE: R414 -/
  | calFitDone
  /-- FSYNC_EDGE: R45 -/
  | fsyncEdge
  /-- FSYNC_WINDOW_MISS: R45 -/
  | fsyncWindowMiss
  /-- GUARD_DEADLINE: R216 -/
  | guardDeadline
  /-- SAFE_INPUT_EDGE: R223 -/
  | safeInputEdge (ch : Nat) (level : Bool)
  /-- SAFE_INPUT_FAULT: R224 -/
  | safeInputFault (dk : Bool)
  /-- FAULTN_MISMATCH: R213 -/
  | faultnMismatch
  /-- SC_WDOG: R235 -/
  | scWdog
  /-- SF_WDOG: R236 -/
  | sfWdog
  /-- SEAL_CHECK: R241 -/
  | sealCheck
  /-- SEAL_STORE_DONE: R240 -/
  | sealStoreDone
  /-- LOCKOUT_END: R242 -/
  | lockoutEnd
  /-- CHANGE_LOG_WRITE: R245 -/
  | changeLogWrite
  /-- SCRUB_CHECK: R340 -/
  | scrubCheck (addr : Nat) (bad : Bool)
  /-- LIMP_RECORD_ACCEPT: R231 -/
  | limpRecordAccept
  /-- LIMP_TABLE_RECOMPUTE: R231 -/
  | limpTableRecompute
  /-- VIDEO_BLOCK: R131 -/
  | videoBlock (lane seq : Nat) (payload : List Byte)
  /-- GUARD_BLOCK: R194 -/
  | guardBlock (lane seq : Nat) (payload : List Byte)
  /-- CONTROL_BLOCK: R195 -/
  | controlBlock (lane seq : Nat) (payload : List Byte)
  /-- IDLE_BLOCK: R190 -/
  | idleBlock (lane seq : Nat) (payload : List Byte)
  /-- PATTERN: R188 -/
  | pattern (lane seq : Nat) (payload : List Byte)
  /-- RATE_REQ: R205 -/
  | rateReq (lane seq : Nat) (payload : List Byte)
  /-- RATE_GO: R185 -/
  | rateGo (lane seq : Nat) (payload : List Byte)
  /-- RESTRIPE: R193 -/
  | restripe (lane seq : Nat) (payload : List Byte)
  /-- EI_ENTER: R198 -/
  | eiEnter (lane seq : Nat) (payload : List Byte)
  /-- EI_EXIT: R198 -/
  | eiExit (lane seq : Nat) (payload : List Byte)
  /-- RETRAIN: R182 -/
  | retrain (lane seq : Nat) (payload : List Byte)
  /-- INVALID_BLOCK: R182 -/
  | invalidBlock (lane : Nat) (groups : List Nat)
  /-- LOSS_OF_SIGNAL: R182 -/
  | lossOfSignal (lane : Nat) (squelch : Bool)
  /-- COMMA_RUN: R182 -/
  | commaRun (lane : Nat)
  /-- HUNT_TIMEOUT: R182 -/
  | huntTimeout (lane : Nat)
  /-- TRAIN_TIMEOUT: R189 -/
  | trainTimeout (lane : Nat)
  /-- TAP_REQ_REPEAT: R188 -/
  | tapReqRepeat (lane : Nat)
  /-- RATE_STEP_TIMEOUT: R186 -/
  | rateStepTimeout (link : Nat)
  /-- EI_EXIT_TIMEOUT: R198 -/
  | eiExitTimeout (lane : Nat)
  /-- IDLE_RETENTION_EXPIRY: R199 -/
  | idleRetentionExpiry (lane : Nat)
  /-- DESKEW_WAIT_EXPIRY: R191 -/
  | deskewWaitExpiry (link : Nat)
  /-- RL_BLOCK_BOUNDARY: R202 -/
  | rlBlockBoundary
  /-- POWER_HANDSHAKE_ANSWER: R386 -/
  | powerHandshakeAnswer (block : Nat) (busy : Bool)
  /-- HANDSHAKE_TIMEOUT: R386 -/
  | handshakeTimeout
  /-- WAKE_EVENT: R388 -/
  | wakeEvent (source : Nat)
  /-- WAKE_STAGE_READY: R389 -/
  | wakeStageReady (lost count : Nat)
  /-- WAKE_STAGE_TIMEOUT: R389 -/
  | wakeStageTimeout
  /-- TRIM_RELOAD_DONE: R357 -/
  | trimReloadDone
  /-- LED_REGULATION_REACHED: R382 -/
  | ledRegulationReached
  /-- RELEASE_SUPPLY_TIMEOUT: R229 -/
  | releaseSupplyTimeout
  /-- LED_REG_LOSS: R382 -/
  | ledRegLoss
  /-- LED_FOLDBACK: R380 -/
  | ledFoldback (sum : Nat)
  /-- VLED_OVERVOLTAGE: R381 -/
  | vledOvervoltage
  /-- VBAT_LOW: R381 -/
  | vbatLow (level : Nat)
  /-- VBAT_HIGH: R381 -/
  | vbatHigh
  /-- HEADROOM_TRIM_DECAY: R379 -/
  | headroomTrimDecay
  /-- SENSOR_CONVERSION: R399 -/
  | sensorConversion (conv : List (Option Int))
  /-- NTC_MEASUREMENT: R400 -/
  | ntcMeasurement (k ohms : Nat)
  /-- THROTTLE_HOLD_EXPIRY: R407 -/
  | throttleHoldExpiry
  /-- SFCLK_MEASUREMENT: R393 -/
  | sfclkMeasurement (dev : Int)
  /-- CELLAR_COMMIT_DONE: R361 -/
  | cellarCommitDone
  /-- COPYBACK_DONE: R361 -/
  | copybackDone
  /-- SCAN_DONE: R431 -/
  | scanDone
  /-- BIST_RUN_DONE: R422 -/
  | bistRunDone (fails : List (Nat × Nat)) (duration : Nat)
  /-- HOLD_TIMEOUT: R353 -/
  | holdTimeout (bank req port : Nat)
  /-- STARVE: R354 -/
  | starve (bank req port : Nat)
  /-- GSYNC_EDGE: R446 -/
  | gsyncEdge
  /-- GSYNC_EDGE_MISSED: R447 -/
  | gsyncEdgeMissed
  /-- GROUP_SLOT_SEND: R441 -/
  | groupSlotSend (collision : Bool)
  /-- GROUP_SLOT_WORD: R441; the 82 levels sampled in the slot -/
  | groupSlotWord (m : Nat) (levels : List Bool)
  /-- GROUP_EXCHANGE_END: R449 -/
  | groupExchangeEnd
  /-- SAT_FRAME_START: R453 -/
  | satFrameStart
  /-- SAT_FRAME_END: R453 -/
  | satFrameEnd
  /-- RESET_PIN: R460 -/
  | resetPin (resetN testEn : Bool)
  /-- POWER_ON: R482 -/
  | powerOn (vaon : Bool)
  /-- BROWN_OUT: R371 -/
  | brownOut
  /-- RAIL_FAULT: R371 -/
  | railFault (rail : Nat)
  /-- CLOCK_LOSS: R392 -/
  | clockLoss
  /-- VAON_LOSS: R358 -/
  | vaonLoss
  /-- JTAG_RESET: R459 -/
  | jtagReset
  /-- STAGE1_RELEASE: R482 -/
  | stage1Release (count : Nat)
  /-- BOOT_STAGE_DONE: R462 -/
  | bootStageDone (fails : List (Nat × Nat))
  /-- BOOT_TIMEOUT: R464 -/
  | bootTimeout
  /-- NEAR_MISS_WINDOW_EXPIRY: R225 -/
  | nearMissWindowExpiry (dk : Bool)
  /-- VSYS_LOW: R371 -/
  | vsysLow (rail : Nat)
  /-- LED_SUPPLY_RESUME: R381 -/
  | ledSupplyResume (cause : Nat)
  /-- XTAL32_LOSS: R395 -/
  | xtal32Loss
  /-- XTAL32_QUALIFIED: R395 -/
  | xtal32Qualified
  /-- RC_OSCILLATOR_MEASUREMENT: R396 -/
  | rcOscillatorMeasurement (cycles : Nat)
  /-- SYMBOL_LIBRARY_RELOAD_DONE: R357 -/
  | symbolLibraryReloadDone
  /-- FIRMWARE_PAGE_WRITE_DONE: R306 -/
  | firmwarePageWriteDone
  /-- RECORD_SLOT_WRITE_DONE: R363 -/
  | recordSlotWriteDone
  /-- TABLE_LOAD_DONE: R61 -/
  | tableLoadDone
  deriving DecidableEq, Repr

end Sys2Proof
end

