-- ==== Sys2Proof/Decode.lean ====
section
/-!
DEFINITION. The table of commands gives no row any bits, so a word of the table's kind spells no command. What the part
decodes for itself, packets and blocks, is in Machine/Operands.lean and Machine/Link.lean.
-/
namespace Sys2Proof

/-- The command that a word of `nbits` bits spells by the table: none, since no row of the table has bits. -/
def decodeTableWord (_nbits _w : Nat) : Option Instr := none

end Sys2Proof
end

