-- ==== Sys2Proof/Config.lean ====
section
/-!
DEFINITION. What the spec fixes per unit or leaves open, as constants with no body: nothing in Lean can evaluate them,
so a statement about them holds for every value. The argument named `n` is the state's counter `free`.
-/
namespace Sys2Proof.Config

/-- The unit's 64-bit serial number (R5). -/
opaque serial : BitVec 64

/-- The unit's grade is 'L' rather than 'A' (R5). -/
opaque gradeL : Bool

/-- The unit's window code is '2' rather than '1' (R5). -/
opaque window2 : Bool

/-- Content of SRAM byte `a` when nothing has been written there since the content of its bank was last lost (R458);
`epoch` counts those losses. -/
opaque sramByte (epoch a : Nat) : Byte

/-- Content of a cellar byte whose layout the spec does not give (CONFIG snapshot, seal records, journal, BIST, boot and
fault records), after `writes` writes of its page (R360). -/
opaque cellarByte (writes a : Nat) : Byte

/-- A page that was left undefined in the middle of its write (R364): the number of bit errors it reads with. -/
opaque tornErrors (n : Nat) : Nat

/-- Whether the header of a firmware image is good, and the version and compatibility level it holds (R306); the spec
gives no layout. -/
opaque headerGood (image : List Byte) : Bool
opaque headerMajor (image : List Byte) : Byte
opaque headerMinor (image : List Byte) : Byte
opaque headerPatch (image : List Byte) : Byte
opaque headerCompat (image : List Byte) : Byte

/-- Temperature in 1/16 degrees C of an NTC where the beta equation of R400 gives none, as with beta = 0. -/
opaque ntcTemp (beta nominal ohms : Nat) : Int

/-- One step of the 31-bit LFSR that draws the sampling instants of calibration (R412); the spec gives no polynomial. -/
opaque lfsr (r : BitVec 31) : BitVec 31

/-- A free bit: the choice numbered `n`. -/
opaque bit (n : Nat) : Bool

/-- A free natural number: the value numbered `n`. -/
opaque value (n : Nat) : Nat

/-- Period of the RC oscillator in ps when no measurement is complete (R396). -/
opaque rcPeriod : Nat

end Sys2Proof.Config
end

