-- ==== Sys2Proof/Machine/Operands.lean ====
section
/-!
DEFINITION. The forms in which values travel: little-endian fields (R14), the check values (R180, R429, R444), SHA-256
(R242), the packet layouts (R249 to R251) and the parameter layout of every opcode (R278 to R319).
-/
namespace Sys2Proof.Machine

/-! ## Little-endian fields -/

/-- `n` bytes of `v`, least significant first (R14). -/
def leBytes (n v : Nat) : List Byte := (List.range n).map fun i => BitVec.ofNat 8 (v / 256 ^ i)

/-- The number spelled by bytes, least significant first (R14). -/
def leNat : List Byte → Nat
  | [] => 0
  | b :: r => b.toNat + 256 * leNat r

/-- Byte `i`; 0 past the end. -/
def u8 (p : List Byte) (i : Nat) : Nat := (p.getD i 0).toNat

/-- 16-bit field at byte `i`. -/
def u16 (p : List Byte) (i : Nat) : Nat := leNat ((p.drop i).take 2)

/-- 32-bit field at byte `i`. -/
def u32 (p : List Byte) (i : Nat) : Nat := leNat ((p.drop i).take 4)

/-- Every named byte is 0. -/
def zeros (p : List Byte) (is : List Nat) : Bool := is.all fun i => u8 p i == 0

/-- Bits `lo` to `lo + w - 1` of a number. -/
def bits (v lo w : Nat) : Nat := v / 2 ^ lo % 2 ^ w

/-- Bit `i` of a number. -/
def bitN (v i : Nat) : Bool := v / 2 ^ i % 2 == 1

/-- The 32-bit words of a byte list. -/
def words32 : List Byte → List Word
  | a :: b :: c :: d :: r => BitVec.ofNat 32 (leNat [a, b, c, d]) :: words32 r
  | _ => []

/-- The 16-bit entries of a byte list. -/
def words16 : List Byte → List Nat
  | a :: b :: r => leNat [a, b] :: words16 r
  | _ => []

/-- Pairs of consecutive entries. -/
def pairUp : List Nat → List (Nat × Nat)
  | a :: b :: r => (a, b) :: pairUp r
  | _ => []

/-- The 48-bit words of a byte list. -/
def words48 : List Byte → List (BitVec 48)
  | a :: b :: c :: d :: e :: f :: r => BitVec.ofNat 48 (leNat [a, b, c, d, e, f]) :: words48 r
  | _ => []

/-! ## Check values (R429) -/

/-- One bit of a CRC-16/CCITT-FALSE. -/
def crc16Bit (c : Nat) : Nat := if 32768 ≤ c then Nat.xor (c * 2 % 65536) 0x1021 else c * 2

/-- One byte of a CRC-16/CCITT-FALSE. -/
def crc16Byte (c : Nat) (b : Byte) : Nat :=
  crc16Bit (crc16Bit (crc16Bit (crc16Bit (crc16Bit (crc16Bit (crc16Bit (crc16Bit (Nat.xor c (b.toNat * 256)))))))))

/-- CRC-16/CCITT-FALSE (R180, R429). -/
def crc16 (bs : List Byte) : Nat := bs.foldl crc16Byte 0xFFFF

/-- One bit of a reflected 32-bit CRC. -/
def crc32Bit (poly c : Nat) : Nat := if c % 2 = 1 then Nat.xor (c / 2) poly else c / 2

/-- One byte of a reflected 32-bit CRC. -/
def crc32Byte (poly c : Nat) (b : Byte) : Nat :=
  let f := crc32Bit poly
  f (f (f (f (f (f (f (f (Nat.xor c b.toNat))))))))

/-- The reflected polynomial of ALG 0, and of ALG 1 for every other code (R429, R438). -/
def crcPoly (alg : Nat) : Nat := if alg = 0 then 0xEDB88320 else 0x82F63B78

/-- Initial value of an algorithm (R429). -/
def crcInit (alg : Nat) : Nat := if alg = 2 then 0xFFFF else 0xFFFFFFFF

/-- One byte through the running register of an algorithm. -/
def crcByte (alg c : Nat) (b : Byte) : Nat := if alg = 2 then crc16Byte c b else crc32Byte (crcPoly alg) c b

/-- The running register with the final XOR applied (R429). -/
def crcOut (alg c : Nat) : Nat := if alg = 2 then c else Nat.xor c 0xFFFFFFFF

/-- The value of an algorithm over bytes. -/
def crcOf (alg : Nat) (bs : List Byte) : Nat := crcOut alg (bs.foldl (crcByte alg) (crcInit alg))

/-- CRC-32C (R429). -/
def crc32c (bs : List Byte) : Nat := crcOf 1 bs

/-- One bit of CRC-8/SMBUS. -/
def crc8Bit (c : Nat) : Nat := if 128 ≤ c then Nat.xor (c * 2 % 256) 7 else c * 2

/-- CRC-8/SMBUS (R444). -/
def crc8 (bs : List Byte) : Nat :=
  bs.foldl (fun c b => crc8Bit (crc8Bit (crc8Bit (crc8Bit (crc8Bit (crc8Bit (crc8Bit (crc8Bit (Nat.xor c b.toNat))))))))) 0

/-! ## SHA-256 (R242)

The constants are computed from what defines them: the first 32 bits after the binary point of the square and cube roots of
the first primes. The working words are held as two histories, newest first: the values of `a` and those of `e`, since b, c
and d are earlier values of a, and f, g and h of e. -/

/-- The largest n below 2^k with n^e at most the bound, added to `acc` from the top bit down. -/
def rootBits (e bound : Nat) : Nat → Nat → Nat
  | 0, acc => acc
  | k + 1, acc => rootBits e bound k (if (acc + 2 ^ k) ^ e ≤ bound then acc + 2 ^ k else acc)

/-- The first 32 bits of the fraction of the e-th root of p. -/
def rootFraction (e p : Nat) : Word := BitVec.ofNat 32 (rootBits e (p * 2 ^ (32 * e)) 37 0)

/-- The primes below 312: 64 of them. -/
def primes64 : List Nat := (List.range 312).filter fun n => 2 ≤ n && (List.range 18).all fun d => d < 2 || n % d != 0 || n == d

/-- Three rotations combined; the third is a shift where `shift` holds. -/
def mixWord (x : Word) (i j k : Nat) (shift : Bool) : Word :=
  x.rotateRight i ^^^ x.rotateRight j ^^^ (if shift then x >>> k else x.rotateRight k)

/-- Extend a schedule, newest word first, by `n` words. -/
def extendSchedule : Nat → List Word → List Word
  | 0, ws => ws
  | n + 1, ws =>
    let old (i : Nat) : Word := ws.getD (i - 1) 0
    extendSchedule n ((old 16 + old 7 + mixWord (old 15) 7 18 3 true + mixWord (old 2) 17 19 10 true) :: ws)

/-- One round: the histories of a and of e each gain a word; `kw` is the constant plus the schedule word. -/
def hashRound (hist : List Word × List Word) (kw : Word) : List Word × List Word :=
  let a (i : Nat) : Word := hist.1.getD i 0
  let e (i : Nat) : Word := hist.2.getD i 0
  let choice := e 2 ^^^ (e 0 &&& (e 1 ^^^ e 2))
  let majority := (a 0 &&& (a 1 ||| a 2)) ||| (a 1 &&& a 2)
  let sum := kw + e 3 + choice + mixWord (e 0) 6 11 25 false
  ((sum + majority + mixWord (a 0) 2 13 22 false) :: hist.1, (sum + a 3) :: hist.2)

/-- The hash of one 64-byte block, from the initial value. -/
def hashBlock (blk : List Byte) : List Word :=
  let word (i : Nat) : Word := BitVec.ofNat 32 (leNat ((blk.drop (4 * i)).take 4).reverse)
  let ws := (extendSchedule 48 ((List.range 16).reverse.map word)).reverse
  let iv := (primes64.take 8).map (rootFraction 2)
  let out := ((primes64.map (rootFraction 3)).zipWith (· + ·) ws).foldl hashRound (iv.take 4, iv.drop 4)
  iv.zipWith (· + ·) (out.1.take 4 ++ out.2.take 4)

/-- SHA-256 of at most 55 bytes (a password has at most 16, R242), as 32 bytes. -/
def sha256 (m : List Byte) : List Byte :=
  let blk := m ++ [0x80] ++ List.replicate (55 - m.length) 0 ++ (leBytes 8 (8 * m.length)).reverse
  (hashBlock blk).flatMap fun w => (leBytes 4 w.toNat).reverse

/-! ## Opcodes (R280) -/

/-- The opcode of a command. -/
def opcodeOf : Cmd → Nat
  | .nop => 0x01 | .identify => 0x02 | .status => 0x03 | .regRead .. => 0x04 | .regWrite .. => 0x05
  | .regModify .. => 0x06 | .fence .. => 0x08 | .fenceTick .. => 0x09 | .queryHandle .. => 0x0A
  | .readCompletions .. => 0x0B | .cancel .. => 0x0C | .setPowerState .. => 0x0D | .shutdown .. => 0x0E
  | .resetDevice .. => 0x0F | .layerCommit .. => 0x20 | .rack .. => 0x21 | .caskSelect .. => 0x22
  | .cutWindowSet .. => 0x23 | .cutWindowClear .. => 0x24 | .symbolLoad .. => 0x25 | .coefLoad .. => 0x26
  | .rampLoad .. => 0x27 | .mixLoad .. => 0x28 | .regionSigSet .. => 0x29 | .cellarRead .. => 0x40
  | .cellarWrite .. => 0x41 | .cellarStore .. => 0x42 | .cellarInfo => 0x44 | .firmwareStage .. => 0x45
  | .firmwareActivate .. => 0x46 | .calibrate .. => 0x60 | .bistPlan .. => 0x62 | .bistResult .. => 0x63
  | .scanCheck .. => 0x64 | .monitorConfig .. => 0x65 | .monitorRead .. => 0x66 | .faultMapRead .. => 0x67
  | .rowKill .. => 0x68 | .sealRead => 0x70 | .sealConfirm .. => 0x71 | .passwordUnlock .. => 0x72
  | .changeLogRead .. => 0x73 | .safeStateRelease => 0x74 | .groupConfig .. => 0x78 | .groupStatus => 0x79
  | .satConfig .. => 0x7C | .satWrite .. => 0x7D

/-- Every opcode that R280 lists. -/
def opcodes : List Nat :=
  [0x01, 0x02, 0x03, 0x04, 0x05, 0x06, 0x08, 0x09, 0x0A, 0x0B, 0x0C, 0x0D, 0x0E, 0x0F, 0x20, 0x21, 0x22, 0x23, 0x24,
   0x25, 0x26, 0x27, 0x28, 0x29, 0x40, 0x41, 0x42, 0x44, 0x45, 0x46, 0x60, 0x62, 0x63, 0x64, 0x65, 0x66, 0x67, 0x68,
   0x70, 0x71, 0x72, 0x73, 0x74, 0x78, 0x79, 0x7C, 0x7D]

/-- The queue of an opcode (R280). -/
def queueOf (op : Nat) : Nat :=
  if op < 0x20 then 0 else if op < 0x40 then 1 else if op < 0x60 then 2 else if op < 0x70 then 3 else 4

/-- The opcodes that execute at once in a command packet (R280). The register opcodes do so in a register packet. -/
def immediateOp (op : Nat) : Bool :=
  [0x02, 0x03, 0x0A, 0x0B, 0x0C, 0x0F, 0x23, 0x24, 0x40, 0x44, 0x63, 0x66, 0x67, 0x70, 0x73, 0x79].contains op

/-- The opcodes of a held boot (R466). The register opcodes count as register packets. -/
def heldOp (ptype op : Nat) : Bool :=
  if [0x04, 0x05, 0x06].contains op then ptype == 1 else [0x02, 0x03, 0x0F, 0x40, 0x44, 0x45, 0x46].contains op

/-- The number of a queue (R280). -/
def queueNum : Queue → Nat
  | .system => 0 | .display => 1 | .cellar => 2 | .test => 3 | .safety => 4

/-- The SOURCE code of a path (R328, R244). -/
def srcCode : Source → Nat
  | .spi => 0 | .linkA => 1 | .linkB => 2 | .device => 3

/-- The packet came over a link (R248). -/
def isLink : Source → Bool
  | .linkA => true | .linkB => true | _ => false

/-! ## Parameter layouts -/

/-- The SYSTEM opcodes' parameters `p` (R268, R270, R285 to R293); `none` is a malformed packet (R278). -/
def decodeSystem (op : Nat) (p : List Byte) : Option Cmd :=
  match op with
  | 0x01 => if p.length = 0 then some .nop else none
  | 0x02 => if p.length = 0 then some .identify else none
  | 0x03 => if p.length = 0 then some .status else none
  | 0x04 => if p.length = 8 ∧ u8 p 6 ≤ 1 ∧ u8 p 7 = 0 then some (.regRead (u32 p 0) (u16 p 4) (bitN (u8 p 6) 0)) else none
  | 0x05 => if 8 ≤ p.length ∧ p.length = 8 + 4 * u16 p 4 ∧ u8 p 6 ≤ 1 ∧ u8 p 7 = 0 then
      some (.regWrite (u32 p 0) (bitN (u8 p 6) 0) (words32 (p.drop 8))) else none
  | 0x06 => if p.length = 12 then some (.regModify (u32 p 0) (BitVec.ofNat 32 (u32 p 4)) (BitVec.ofNat 32 (u32 p 8))) else none
  | 0x08 => if 3 ≤ p.length ∧ p.length = 3 + 2 * u8 p 2 ∧ u8 p 0 < 32 ∧ u8 p 1 ≤ 1 then
      some (.fence (u8 p 0) (bitN (u8 p 1) 0) (words16 (p.drop 3))) else none
  | 0x09 => if p.length = 6 ∧ u8 p 0 < 32 then some (.fenceTick (u8 p 0) (u8 p 1) (u32 p 2)) else none
  | 0x0A => if p.length = 2 then some (.queryHandle (u16 p 0)) else none
  | 0x0B => if p.length = 1 then some (.readCompletions (u8 p 0)) else none
  | 0x0C => if p.length = 2 then some (.cancel (u16 p 0)) else none
  | 0x0D => if p.length = 12 ∧ u32 p 2 < 2 ^ 28 ∧ u16 p 6 < 256 then
      some (.setPowerState (u8 p 0) (u8 p 1) (u32 p 2) (u16 p 6) (u32 p 8)) else none
  | 0x0E => if p.length = 4 ∧ u8 p 0 < 4 ∧ zeros p [2, 3] then
      some (.shutdown (bitN (u8 p 0) 0) (bitN (u8 p 0) 1) (u8 p 1)) else none
  | 0x0F => if p.length = 4 ∧ zeros p [2, 3] then some (.resetDevice (u8 p 0) (u8 p 1)) else none
  | _ => none

/-- The DISPLAY opcodes' parameters (R294 to R299). -/
def decodeDisplay (op : Nat) (p : List Byte) : Option Cmd :=
  match op with
  | 0x20 => if p.length = 2 ∧ u8 p 1 = 0 then some (.layerCommit (u8 p 0)) else none
  | 0x21 => if p.length = 6 ∧ u8 p 0 ≤ 1 then some (.rack (u8 p 0) (u8 p 1) (u16 p 2) (u16 p 4)) else none
  | 0x22 => if p.length = 2 ∧ u8 p 1 ≤ 1 then some (.caskSelect (u8 p 0) (u8 p 1)) else none
  | 0x23 => if p.length = 6 ∧ bits (u16 p 0) 10 2 = 0 ∧ u16 p 2 < 1024 ∧ u8 p 4 < 128 ∧ u8 p 5 < 128 then
      some (.cutWindowSet (bits (u16 p 0) 12 4) (bits (u16 p 0) 0 10) (u16 p 2) (u8 p 4) (u8 p 5)) else none
  | 0x24 => if p.length = 2 then some (.cutWindowClear (u16 p 0)) else none
  | 0x25 => if 30 ≤ p.length ∧ p.length = 30 + u16 p 28 ∧ u8 p 1 < 4 ∧ zeros p [2, 3, 17, 18, 19] then
      some (.symbolLoad (u8 p 0) (bitN (u8 p 1) 0) (bitN (u8 p 1) 1) (u32 p 4) (u16 p 8) (u16 p 10) (u16 p 12)
        (u16 p 14) (u8 p 16) (u32 p 20) (u32 p 24) (p.drop 30)) else none
  | 0x26 => if p.length = 1026 ∧ u8 p 1 = 0 then some (.coefLoad (u8 p 0) (p.drop 2)) else none
  | 0x27 => if p.length = 2050 ∧ zeros p [0, 1] then some (.rampLoad (words16 (p.drop 2))) else none
  | 0x28 => if p.length = 1026 ∧ u8 p 1 = 0 then some (.mixLoad (u8 p 0) (pairUp (words16 (p.drop 2)))) else none
  | 0x29 => if p.length = 14 ∧ u8 p 1 < 16 then
      some (.regionSigSet (u8 p 0) (bitN (u8 p 1) 0) (bitN (u8 p 1) 1) (bits (u8 p 1) 2 2) (u16 p 2) (u16 p 4) (u16 p 6)
        (u16 p 8) (u32 p 10)) else none
  | _ => none

/-- The CELLAR opcodes' parameters (R302 to R307). -/
def decodeCellar (op : Nat) (p : List Byte) : Option Cmd :=
  match op with
  | 0x40 => if p.length = 10 ∧ zeros p [2, 3] then some (.cellarRead (u8 p 0) (u8 p 1) (u32 p 4) (u16 p 8)) else none
  | 0x41 => if 8 ≤ p.length ∧ p.length = 8 + u16 p 4 ∧ zeros p [6, 7] then some (.cellarWrite (u32 p 0) (p.drop 8)) else none
  | 0x42 => if p.length = 12 ∧ zeros p [1, 2, 3] then some (.cellarStore (u8 p 0) (u32 p 4) (u32 p 8)) else none
  | 0x44 => if p.length = 0 then some .cellarInfo else none
  | 0x45 => if 20 ≤ p.length ∧ p.length = 20 + u16 p 8 ∧ u8 p 1 < 4 ∧ zeros p [2, 3, 10, 11] then
      some (.firmwareStage (u8 p 0) (bitN (u8 p 1) 0) (bitN (u8 p 1) 1) (u32 p 4) (u32 p 12) (u32 p 16) (p.drop 20)) else none
  | 0x46 => if p.length = 4 ∧ u8 p 1 ≤ 1 ∧ zeros p [2, 3] then some (.firmwareActivate (u8 p 0) (bitN (u8 p 1) 0)) else none
  | _ => none

/-- The TEST opcodes' parameters (R308 to R314). Unnamed bits of COLOURS and of the MONITOR_READ flags count as
reserved (log entry 8). -/
def decodeTest (op : Nat) (p : List Byte) : Option Cmd :=
  match op with
  | 0x60 => if p.length = 6 ∧ u8 p 3 = 0 ∧ u8 p 1 < 4 then some (.calibrate (u8 p 0) (u8 p 1) (u8 p 2) (u16 p 4)) else none
  | 0x62 => if p.length = 8 ∧ u8 p 4 ≤ 1 ∧ zeros p [5, 6, 7] then some (.bistPlan (u32 p 0) (bitN (u8 p 4) 0)) else none
  | 0x63 => if p.length = 4 ∧ zeros p [1, 2, 3] then some (.bistResult (u8 p 0)) else none
  | 0x64 => if p.length = 16 ∧ u8 p 2 ≤ 1 ∧ u8 p 3 = 0 then
      some (.scanCheck (u8 p 0) (u8 p 1) (bitN (u8 p 2) 0) (u32 p 4) (u32 p 8) (u32 p 12)) else none
  | 0x65 => if p.length = 14 ∧ u8 p 1 < 4 then
      some (.monitorConfig (u8 p 0) (bitN (u8 p 1) 0) (bitN (u8 p 1) 1) (u8 p 2) (u8 p 3) (u16 p 4) (u16 p 6) (u16 p 8)
        (u16 p 10) (u16 p 12)) else none
  | 0x66 => if p.length = 2 ∧ u8 p 1 ≤ 1 then some (.monitorRead (u8 p 0) (bitN (u8 p 1) 0)) else none
  | 0x67 => if p.length = 4 ∧ u8 p 3 ≤ 1 then some (.faultMapRead (u16 p 0) (u8 p 2) (bitN (u8 p 3) 0)) else none
  | 0x68 => if p.length = 4 ∧ u8 p 3 ≤ 1 then some (.rowKill (u16 p 0) (u8 p 2) (bitN (u8 p 3) 0)) else none
  | _ => none

/-- The SAFETY opcodes' parameters (R315 to R319). Password bytes beyond LEN must be 0 (log entry 8). -/
def decodeSafety (op : Nat) (p : List Byte) : Option Cmd :=
  match op with
  | 0x70 => if p.length = 0 then some .sealRead else none
  | 0x71 => if p.length = 4 then some (.sealConfirm (u32 p 0)) else none
  | 0x72 => if p.length = 20 ∧ zeros p [2, 3] ∧ (p.drop (4 + u8 p 1)).all (· == 0) then
      some (.passwordUnlock (u8 p 0) (u8 p 1) ((p.drop 4).take (u8 p 1))) else none
  | 0x73 => if p.length = 4 ∧ u8 p 3 = 0 then some (.changeLogRead (u16 p 0) (u8 p 2)) else none
  | 0x74 => if p.length = 0 then some .safeStateRelease else none
  | 0x78 => if p.length = 4 ∧ u8 p 3 = 0 then some (.groupConfig (u8 p 0) (u8 p 1) (u8 p 2)) else none
  | 0x79 => if p.length = 0 then some .groupStatus else none
  | 0x7C => if p.length = 4 ∧ u8 p 2 < 4 ∧ u8 p 3 = 0 then
      some (.satConfig (u8 p 0) (u8 p 1) (bitN (u8 p 2) 0) (bitN (u8 p 2) 1)) else none
  | 0x7D => if 4 ≤ p.length ∧ p.length = 4 + 6 * u8 p 1 ∧ zeros p [2, 3] then some (.satWrite (u8 p 0) (words48 (p.drop 4))) else none
  | _ => none

/-- The command that an opcode's parameters spell; `none` is a malformed packet (R278). -/
def decodeParams (op : Nat) (p : List Byte) : Option Cmd :=
  match queueOf op with
  | 0 => decodeSystem op p
  | 1 => decodeDisplay op p
  | 2 => decodeCellar op p
  | 3 => decodeTest op p
  | _ => decodeSafety op p

/-! ## Packets (R249, R256) -/

/-- A packet as received: its first bytes and what follows, as far as the frame carried them. `crc` is its CRC as it is with
RETRY = 0, by which a resent packet is known as the same (R258, log entry 31). -/
structure Packet where
  ptype : Nat
  seq : Nat
  flags : Nat
  len : Nat
  payload : List Byte
  crc : Nat
  crcOk : Bool
  deriving DecidableEq, Repr

/-- The outcome of stage 1 of R256. -/
inductive Framed where
  /-- no SYNC, or too short to carry a SEQ -/
  | nothing
  /-- incomplete or too long, with the SEQ byte -/
  | badLength (seq : Nat)
  | packet (p : Packet)
  deriving DecidableEq, Repr

/-- Stages 1 and 2 of R256 on the bytes of a frame. Bytes after the CRC are ignored (R252). -/
def frame (bs : List Byte) : Framed :=
  if bs.length < 3 then .nothing
  else
    let seq := u8 bs 2
    let len := u16 bs 4
    if bs.length < 6 ∨ 2080 < len ∨ bs.length < len + 8 then .badLength seq
    else
      let crc := u16 bs (6 + len)
      let b := bs.take (6 + len)
      let id := if u8 bs 3 % 2 = 0 then crc else crc16 (b.set 3 (BitVec.ofNat 8 (u8 bs 3 - 1)))
      .packet ⟨u8 bs 1, seq, u8 bs 3, len, (bs.drop 6).take len, id, crc == crc16 b⟩

/-- Stage 5 of R256: the command of a register or command packet with its CQ_SKIP bit, or the failing status. -/
def decodePacket (p : Packet) : Cmd × Bool ⊕ Nat :=
  match p.payload with
  | [] => .inr 0x11
  | o :: r =>
    let op := o.toNat
    let known := if p.ptype = 1 then [0x04, 0x05, 0x06].contains op else opcodes.contains op
    if !known then .inr 0x12
    else if 2 ≤ p.flags then .inr 0x11
    else if p.ptype = 1 then
      match decodeParams op r with
      | some c => .inl (c, false)
      | none => .inr 0x11
    else
      match r with
      | [] => .inr 0x11
      | f :: q =>
        if 2 ≤ f.toNat then .inr 0x11
        else match decodeParams op q with
          | some c => .inl (c, f.toNat == 1)
          | none => .inr 0x11

end Sys2Proof.Machine
end

