-- ==== Sys2Proof/Machine/Map.lean ====
section
/-!
DEFINITION. Sparse data in one canonical form: an association list with strictly rising keys that lists no entry equal
to what an unlisted key reads as. Registers, the SRAM, the cellar and the in-pixel codes are held so.
-/
namespace Sys2Proof.Machine

/-- Sparse data by key. -/
abbrev SMap (α : Type) := List (Nat × α)

/-- The value at `k`; an unlisted key reads as `d k`. -/
def SMap.get {α : Type} (d : Nat → α) : SMap α → Nat → α
  | [], k => d k
  | (j, v) :: r, k => if j = k then v else SMap.get d r k

/-- Write `v` at `k`; writing what an unlisted key reads as removes the entry. -/
def SMap.put {α : Type} [DecidableEq α] (d : Nat → α) (m : SMap α) (k : Nat) (v : α) : SMap α :=
  (m.filter fun e => e.1 < k) ++ (if v = d k then [] else [(k, v)]) ++ m.filter fun e => k < e.1

/-- The canonical form: keys rise strictly and no entry equals what an unlisted key reads as. -/
abbrev SMap.Wf {α : Type} (d : Nat → α) (m : SMap α) : Prop :=
  m.Pairwise (fun a b => a.1 < b.1) ∧ ∀ e ∈ m, e.2 ≠ d e.1

/-- Bytes `vs` written at rising keys from `k`. -/
def SMap.putAll {α : Type} [DecidableEq α] (d : Nat → α) (m : SMap α) (k : Nat) : List α → SMap α
  | [] => m
  | v :: vs => SMap.putAll d (SMap.put d m k v) (k + 1) vs

/-- `n` values read at rising keys from `k`. -/
def SMap.getAll {α : Type} (d : Nat → α) (m : SMap α) (k n : Nat) : List α := (List.range n).map fun i => SMap.get d m (k + i)

end Sys2Proof.Machine
end

