-- ==== Sys2Proof/Machine/Pixel.lean ====
section
/-!
DEFINITION. The arithmetic from a composed value to an in-pixel code (R56 to R62, R69, R94 to R117): rounding, ramps,
the six stages, the governor's tables and search, and the background fill. Pure functions on numbers.

Formats: a 16.4 value is a `Nat` in sixteenths; a target of lit steps (10.6) is a `Nat` in 64ths; 1.15 factors are
`Nat` with 32768 for 1.0; temperatures are `Int` in 1/16 degrees C.
-/
namespace Sys2Proof.Machine

/-- a / b rounded half up (R13). -/
def rdiv (a b : Nat) : Nat := (2 * a + b) / (2 * b)

/-- a / b rounded half up, halves toward positive infinity (R13). -/
def rdivI (a : Int) (b : Nat) : Int := (2 * a + b) / (2 * b)

/-- Clamp to the range lo to hi (R13). -/
def clampN (lo hi v : Nat) : Nat := max lo (min hi v)

/-- Clamp to the range lo to hi (R13). -/
def clampI (lo hi v : Int) : Int := max lo (min hi v)

/-- ceil(a / b). -/
def cdiv (a b : Nat) : Nat := (a + b - 1) / b

/-- Two's complement reading of a `w`-bit field. -/
def sext (w v : Nat) : Int := if v % 2 ^ w < 2 ^ (w - 1) then (v % 2 ^ w : Int) else (v % 2 ^ w : Int) - (2 ^ w : Nat)

/-- Two's complement coding of a number in a `w`-bit field, saturated at the ends (R13). -/
def codeI (w : Nat) (v : Int) : Nat :=
  (clampI (-(2 ^ (w - 1) : Nat)) ((2 ^ (w - 1) : Nat) - 1) v % (2 ^ w : Nat)).toNat

/-! ## Ramps -/

/-- N_W = ceil(6.0 us x f_R), with f_R = 1024 f_SF (the trellis table of ch. 01). -/
def nWof (fsf : Nat) : Nat := cdiv (6 * 1024 * fsf) 1000000

/-- A combination is legal (R33). -/
def rateLegal (hz nsf : Nat) : Bool :=
  50 ≤ hz && hz ≤ 240 && (nsf == 2 || nsf == 4 || nsf == 8) && 400 ≤ hz * nsf && hz * nsf ≤ 1920

/-- The default ramp table (R59). -/
def defaultRamp (nW : Nat) : List Nat := (List.range (1024 - nW)).map fun k => k * 1024 / (1024 - nW)

/-- on_steps(LEVEL): lit steps in which the counter is below LEVEL (R57). -/
def onSteps (ramp : List Nat) (nW level : Nat) : Nat := ((ramp.take (1024 - nW)).filter (· < level)).length

/-- L_lit = on_steps(1,023) (R113). -/
def litSteps (ramp : List Nat) (nW : Nat) : Nat := onSteps ramp nW 1023

/-- INV[n]: the smallest LEVEL with on_steps(LEVEL) at least n (R114). -/
def inv (ramp : List Nat) (nW n : Nat) : Nat :=
  ((List.range 1024).find? fun l => n ≤ onSteps ramp nW l).getD 1023

/-! ## Guard ceiling (R97) -/

/-- The largest n below 2^k with n^16 at most bound, found from the top bit down. -/
def root16 (bound : Nat) : Nat → Nat → Nat
  | 0, acc => acc
  | k + 1, acc => root16 bound k (if (acc + 2 ^ k) ^ 16 ≤ bound then acc + 2 ^ k else acc)

/-- L(g) for g below 255: L(0) = 0, otherwise floor(2^((g + 1) / 16)); 255 is no limit (R97). -/
def guardL (g : Nat) : Nat :=
  if g = 0 then 0 else if 255 ≤ g then 65535 else root16 (2 ^ (g + 1)) 17 0

/-! ## Tint mix (R94, R95) -/

/-- Default mix weights (R95). -/
def defaultMix (t : Nat) : Nat × Nat := (rdiv (32768 * (255 - t)) 255, rdiv (32768 * t) 255)

/-- Expansion of a Y sample to 16 bits: depth code 0, 1, 2 for 8, 10, 12 bits (R94). -/
def expandY (depth y : Nat) : Nat :=
  match depth with
  | 0 => y * 257
  | 1 => y * 64 + y / 16
  | _ => y * 16 + y / 256

/-- One colour of the tint mix (R94). -/
def mixOne (y16 weight : Nat) : Nat := min 65535 (rdiv (y16 * weight) 32768)

/-! ## References (R69, R99) -/

/-- BASE as the product uses it: 1 to 319 are taken as 320 (R69). -/
def baseEff (base : Nat) : Nat := if base = 0 then 0 else max base 320

/-- The numerator of P = BASE x G x TC x TRIM, over 2^45 (R69, R99). -/
def refNum (base g tc trim : Nat) : Nat := baseEff base * g * tc * trim

/-- The rounded product of R69 before its limits. -/
def refRound (base g tc trim : Nat) : Nat := rdiv (refNum base g tc trim) (2 ^ 45)

/-- The effective reference code (R69). -/
def refEff (base g tc trim : Nat) : Nat :=
  if base = 0 then 0 else clampN 320 3840 (refRound base g tc trim)

/-- The reference was raised to the floor, so IREF_FLOOR is set (R69). -/
def refFloor (base g tc trim : Nat) : Bool := base != 0 && refRound base g tc trim < 320

/-- The code factor F, 1.15 (R99). -/
def codeFactor (base g tc trim : Nat) : Nat :=
  if base = 0 ∨ 320 * 2 ^ 45 ≤ refNum base g tc trim then 32768
  else rdiv (32768 * refNum base g tc trim) (320 * 2 ^ 45)

/-! ## Stages 1 to 6 -/

/-- Saturation of an unsigned 16.4 result (R93). -/
def sat164 (v : Nat) : Nat := min v 1048575

/-- Stage 2: 16.0 to 16.4 (R99). -/
def stage2 (v f : Nat) : Nat := sat164 (rdiv (v * 16 * f) 32768)

/-- Stage 3 (R108). -/
def stage3 (v te gs : Nat) : Nat := sat164 (rdiv (v * (384 + te) * gs) (512 * 32768))

/-- Stage 4 (R111). -/
def stage4 (v k : Nat) : Nat := sat164 (rdiv (v * k) 32768)

/-- The temperature factor 32,768 + round(ALPHA x delta / 512), clamped (R111, R112). -/
def tempFactor (alpha : Nat) (delta : Int) : Nat :=
  (clampI 24576 40960 (32768 + rdivI ((alpha : Int) * delta) 512)).toNat

/-- ISEL and the target of lit steps in 64ths (R113). -/
def stage5 (split lit v4 : Nat) : Bool × Nat :=
  let isel := 16 * split ≤ v4
  let q := min (1023 * 1024) (if isel then v4 else v4 * 64)
  (isel, min (lit * 64) (rdiv (q * lit * 64) (1023 * 1024)))

/-- The step count of sub-frame k for a target (R115). -/
def stage6 (dither rotate : Bool) (nsf tickCount x y k target : Nat) : Nat :=
  if dither then
    let n0 := target / 64
    let m := rdiv ((target % 64) * nsf) 64
    let f := if rotate then tickCount % nsf else 0
    let p := (x + 3 * y + f) % nsf
    if (k + p) % nsf < m then n0 + 1 else n0
  else rdiv target 64

/-- The 11-bit code {ISEL, LEVEL} (R56, R114). -/
def codeOf (isel : Bool) (level : Nat) : BitVec 11 := BitVec.ofNat 11 ((if isel then 1024 else 0) + level)

/-- The interpolated tile temperature (R111): 16 sensor values, row-major by quarter, at column group g and tile row t. -/
def tileTemp (temps : List Int) (g t : Nat) : Int :=
  let xn : Int := 16 * g - 248
  let yn : Int := 8 * t - 76
  let p := (clampI 0 2 (xn / 512)).toNat
  let q := (clampI 0 2 (yn / 160)).toNat
  let wx := clampI 0 512 (xn - 512 * p)
  let wy := clampI 0 160 (yn - 160 * q)
  let at' (i j : Nat) : Int := temps.getD (4 * j + i) 0
  rdivI ((512 - wx) * (160 - wy) * at' p q + wx * (160 - wy) * at' (p + 1) q
    + (512 - wx) * wy * at' p (q + 1) + wx * wy * at' (p + 1) (q + 1)) (512 * 160)

/-- The mean of the 16 latched values, rounded (R110). -/
def meanTemp (temps : List Int) : Int := rdivI temps.sum 16

/-! ## Governor (R100 to R104) -/

/-- The weight an emitter adds to table entry i (R100). -/
def wEntry (isel : Bool) (level i : Nat) : Nat := if 16 * i + 1 ≤ level then (if isel then 64 else 1) else 0

/-- Pointwise sum of two weighted tables of 64 entries. -/
def addW (a b : List Nat) : List Nat := (List.range 64).map fun i => a.getD i 0 + b.getD i 0

/-- The terms of one frame: per strip, bank and colour (index 16 s + 2 b + c) a weighted table, per bank and colour
(index 2 b + c) an effective reference, and the ramp and N_W in force. -/
structure Terms where
  w : List (List Nat)
  eff : List Nat
  ramp : List Nat
  nW : Nat
  deriving DecidableEq, Repr

/-- The table W_bc summed over the 8 strips. -/
def Terms.wSum (t : Terms) (b c bin : Nat) : Nat :=
  ((List.range 8).map fun s => (t.w.getD (16 * s + 2 * b + c) []).getD bin 0).sum

/-- The current of bank b at array step k, times 64 x 10^8 / 625, in mA (R101). -/
def Terms.bankCurrent (t : Terms) (k b : Nat) : Nat :=
  let s := (k + 1024 - (128 * (b + 1)) % 1024) % 1024
  if 1024 - t.nW ≤ s then 0 else
    let bin := t.ramp.getD s 0 / 16
    t.eff.getD (2 * b) 0 * t.wSum b 0 bin + t.eff.getD (2 * b + 1) 0 * t.wSum b 1 bin

/-- i(k) of R101, in the unit of `Terms.bankCurrent`. -/
def Terms.profile (t : Terms) (k : Nat) : Nat := ((List.range 8).map (t.bankCurrent k)).sum

/-- m(k) of R102: banks whose sub-frame has begun take the new terms, the others the old. -/
def mixedProfile (new old : Terms) (k : Nat) : Nat :=
  ((List.range 8).map fun b => if 128 * (b + 1) ≤ k then new.bankCurrent k b else old.bankCurrent k b).sum

/-- The maximum over the 1,024 steps. -/
def peakOf (f : Nat → Nat) : Nat := ((List.range 1024).map f).foldl max 0

/-- A current in the unit of `Terms.bankCurrent` is within a budget of `mA` milliamperes. -/
def within (cur mA : Nat) : Bool := cur * 625 ≤ mA * 6400000000

/-- A current in mA, rounded and saturated at 65,535 (R123). -/
def toMilliamp (cur : Nat) : Nat := min 65535 (rdiv (cur * 625) 6400000000)

/-- The largest acceptable grid value below 1.0, as a multiple of 2^-12, by a 12-step binary search (R104); 0 if none. -/
def searchScale (ok : Nat → Bool) : Nat → Nat → Nat
  | 0, acc => acc
  | k + 1, acc => searchScale ok k (if ok (acc + 2 ^ k) then acc + 2 ^ k else acc)

/-- The chosen scale in 1.15 and whether the budget was met (R104). -/
def chooseScale (ok : Nat → Bool) : Nat × Bool :=
  if ok 4096 then (32768, true)
  else
    let m := searchScale ok 12 0
    if m = 0 then (8, false) else (m * 8, true)

end Sys2Proof.Machine
end

