-- ==== Sys2Proof/Machine/Regs.lean ====
section
/-!
DEFINITION. The register map: one constant per named field (the places of the spec's field maps) and the table of
register descriptors with every field's access code (R17) and reset entry. Generated from the offset tables and the
field maps of spec/ (R55, R92, R123, R149, R175, R176, R208, R246, R277, R343, R369, R370, R409, R410, R436 to R439,
R456, R457, R474).
-/
namespace Sys2Proof.Machine

/-- The place of one register field: the register's address, its lowest bit and its width (R15). -/
structure Fld where
  addr : Nat
  lo : Nat
  w : Nat
  deriving DecidableEq, Repr

/-- The access code of a field (R17, R18). `cnt`, `req` and `rwh` are the three classes of R337 that an RW/H field
can have: a counter, a request bit that hardware clears, a hardware-maintained value. -/
inductive Acc where
  | ro | rw | rwh | cnt | req | rws | rwk | w1c | rc | wo1
  deriving DecidableEq, Repr

/-- The Reset column: a number, C with the value read when the cellar holds none (R19), or P. -/
inductive Rst where
  | num (v : Nat) | c (dflt : Nat) | p
  deriving DecidableEq, Repr

/-- One field of a register descriptor. -/
structure FDesc where
  lo : Nat
  w : Nat
  acc : Acc
  rst : Rst
  deriving DecidableEq, Repr

/-- A register, or a row of `count` registers `stride` bytes apart that share one field map. -/
structure RDesc where
  base : Nat
  stride : Nat
  count : Nat
  fields : List FDesc
  deriving DecidableEq, Repr

/-! ## Block TICK -/

def TICK_CTRL.SRC : Fld := ⟨0x2000, 0, 2⟩
def TICK_CTRL.FSYNC_POL : Fld := ⟨0x2000, 2, 1⟩
def TICK_RATE.FRAME_HZ : Fld := ⟨0x2004, 0, 8⟩
def TICK_RATE.SUBFRAMES : Fld := ⟨0x2004, 8, 2⟩
def TICK_LEAD.PRED_LEAD : Fld := ⟨0x2008, 0, 11⟩
def TICK_LEAD.EFF_LEAD : Fld := ⟨0x2008, 16, 11⟩
def TICK_DARK.LEN : Fld := ⟨0x200c, 0, 10⟩
def TICK_DARK.OFFSET : Fld := ⟨0x200c, 16, 15⟩
def TICK_OUT_CFG.MODE : Fld := ⟨0x2010, 0, 2⟩
def TICK_OUT_CFG.POL : Fld := ⟨0x2010, 2, 1⟩
def TICK_OUT_CFG.PULSE : Fld := ⟨0x2010, 8, 8⟩
def TICK_STATUS.TICK_EV : Fld := ⟨0x2014, 0, 1⟩
def TICK_STATUS.COMP_OVERRUN : Fld := ⟨0x2014, 1, 1⟩
def TICK_STATUS.RATE_REJECT : Fld := ⟨0x2014, 2, 1⟩
def TICK_STATUS.FSYNC_LOST : Fld := ⟨0x2014, 3, 1⟩
def TICK_STATUS.FSYNC_LOCK : Fld := ⟨0x2014, 4, 1⟩
def TICK_STATUS.FSYNC_STATE : Fld := ⟨0x2014, 5, 2⟩
def TICK_STATUS.LEAD_RAISED : Fld := ⟨0x2014, 7, 1⟩
def TICK_STATUS.REPEAT : Fld := ⟨0x2014, 8, 1⟩
def TICK_IRQ_EN.TICK_EV : Fld := ⟨0x2018, 0, 1⟩
def TICK_IRQ_EN.COMP_OVERRUN : Fld := ⟨0x2018, 1, 1⟩
def TICK_IRQ_EN.RATE_REJECT : Fld := ⟨0x2018, 2, 1⟩
def TICK_IRQ_EN.FSYNC_LOST : Fld := ⟨0x2018, 3, 1⟩
def TICK_PHASE.SUBFRAME : Fld := ⟨0x201c, 0, 3⟩
def TICK_PHASE.SLOT : Fld := ⟨0x201c, 4, 6⟩
def TICK_PHASE.STEP0 : Fld := ⟨0x201c, 16, 10⟩
def TICK_COUNT.COUNT : Fld := ⟨0x2020, 0, 32⟩
def TICK_OVERRUN_CNT.COUNT : Fld := ⟨0x2024, 0, 16⟩
def TICK_FSYNC_ERR.ERR : Fld := ⟨0x2028, 0, 32⟩
def TICK_PERIOD.NS : Fld := ⟨0x202c, 0, 32⟩
def TICK_TB_LO.TB : Fld := ⟨0x2030, 0, 32⟩
def TICK_TB_HI.TB : Fld := ⟨0x2034, 0, 32⟩
def TICK_TSTAMP_LO.TB : Fld := ⟨0x2038, 0, 32⟩
def TICK_TSTAMP_HI.TB : Fld := ⟨0x203c, 0, 32⟩
def TICK_TB_SET_LO.TB : Fld := ⟨0x2040, 0, 32⟩
def TICK_TB_SET_HI.TB : Fld := ⟨0x2044, 0, 32⟩
def TICK_EPOCH.EPOCH : Fld := ⟨0x2048, 0, 16⟩

/-! ## Block ARRAY -/

def ARRAY_CTRL.FAULT_CONFIRM : Fld := ⟨0x3000, 0, 4⟩
def ARRAY_STATUS.FAULT_NEW : Fld := ⟨0x3004, 0, 1⟩
def ARRAY_STATUS.FAULT_OVF : Fld := ⟨0x3004, 1, 1⟩
def ARRAY_STATUS.HEADROOM : Fld := ⟨0x3004, 2, 1⟩
def ARRAY_STATUS.ROWKILL_EV : Fld := ⟨0x3004, 3, 1⟩
def ARRAY_STATUS.STUCK_UNKILLED : Fld := ⟨0x3004, 4, 1⟩
def ARRAY_STATUS.IREF_FLOOR : Fld := ⟨0x3004, 5, 1⟩
def ARRAY_STATUS.RAMP_REJECT : Fld := ⟨0x3004, 6, 1⟩
def ARRAY_STATUS.WRITE_LOST : Fld := ⟨0x3004, 7, 1⟩
def ARRAY_STATUS.CUT_EMPTY : Fld := ⟨0x3004, 8, 1⟩
def ARRAY_IRQ_EN.EN : Fld := ⟨0x3008, 0, 9⟩
def ARRAY_RAMP_CTRL.SEL : Fld := ⟨0x300c, 0, 1⟩
def ARRAY_RAMP_CTRL.LOADED : Fld := ⟨0x300c, 1, 1⟩
def ARRAY_RAMP_CTRL.IN_USE : Fld := ⟨0x300c, 2, 1⟩
def ARRAY_CUT_CTRL.RELEASE_SYNC : Fld := ⟨0x3010, 0, 1⟩
def ARRAY_CUT_CTRL.ACTIVE : Fld := ⟨0x3010, 16, 16⟩
def ARRAY_ROWKILL_CFG.POLICY : Fld := ⟨0x3014, 0, 2⟩
def ARRAY_ROWKILL_CFG.MAX : Fld := ⟨0x3014, 8, 5⟩
def ARRAY_ROWKILL_CFG.COUNT : Fld := ⟨0x3014, 16, 5⟩
def ARRAY_FAULT_CNT.OPEN : Fld := ⟨0x3018, 0, 16⟩
def ARRAY_FAULT_CNT.SHORT : Fld := ⟨0x3018, 16, 16⟩
def ARRAY_FAULT_LIST.COUNT : Fld := ⟨0x301c, 0, 11⟩
def ARRAY_IREF_BASE.WARM (n : Nat) : Fld := ⟨0x3040 + 0x4 * n, 0, 12⟩
def ARRAY_IREF_BASE.COOL (n : Nat) : Fld := ⟨0x3040 + 0x4 * n, 16, 12⟩
def ARRAY_IREF_TRIM.WARM (n : Nat) : Fld := ⟨0x3060 + 0x4 * n, 0, 16⟩
def ARRAY_IREF_TRIM.COOL (n : Nat) : Fld := ⟨0x3060 + 0x4 * n, 16, 16⟩
def ARRAY_IREF_TC.WARM (n : Nat) : Fld := ⟨0x3080 + 0x4 * n, 0, 16⟩
def ARRAY_IREF_TC.COOL (n : Nat) : Fld := ⟨0x3080 + 0x4 * n, 16, 16⟩
def ARRAY_IREF_EFF.WARM (n : Nat) : Fld := ⟨0x30a0 + 0x4 * n, 0, 12⟩
def ARRAY_IREF_EFF.COOL (n : Nat) : Fld := ⟨0x30a0 + 0x4 * n, 16, 12⟩
def ARRAY_CUT_ROWS.Y0 (n : Nat) : Fld := ⟨0x3100 + 0x8 * n, 0, 10⟩
def ARRAY_CUT_ROWS.Y1 (n : Nat) : Fld := ⟨0x3100 + 0x8 * n, 16, 10⟩
def ARRAY_CUT_COLS.G0 (n : Nat) : Fld := ⟨0x3104 + 0x8 * n, 0, 7⟩
def ARRAY_CUT_COLS.G1 (n : Nat) : Fld := ⟨0x3104 + 0x8 * n, 16, 7⟩
def ARRAY_CUT_COLS.EN (n : Nat) : Fld := ⟨0x3104 + 0x8 * n, 31, 1⟩
def ARRAY_ROWKILL.ROW (n : Nat) : Fld := ⟨0x3180 + 0x4 * n, 0, 10⟩
def ARRAY_ROWKILL.SRC (n : Nat) : Fld := ⟨0x3180 + 0x4 * n, 12, 1⟩
def ARRAY_ROWKILL.VALID (n : Nat) : Fld := ⟨0x3180 + 0x4 * n, 15, 1⟩

/-! ## Block PIPE -/

def PIPE_SE_CTRL.RUN : Fld := ⟨0x4000, 0, 8⟩
def PIPE_SE_CTRL.ACTIVE : Fld := ⟨0x4000, 8, 8⟩
def PIPE_STATUS.FILL : Fld := ⟨0x4004, 0, 1⟩
def PIPE_STATUS.GOV_LIMIT : Fld := ⟨0x4004, 1, 1⟩
def PIPE_STATUS.GOV_UNMET : Fld := ⟨0x4004, 2, 1⟩
def PIPE_STATUS.WRITE_LOST : Fld := ⟨0x4004, 3, 1⟩
def PIPE_STATUS.TRIM_INVALID : Fld := ⟨0x4004, 4, 1⟩
def PIPE_STATUS.SE_OFF : Fld := ⟨0x4004, 5, 1⟩
def PIPE_STATUS.LIMP_DRIVE : Fld := ⟨0x4004, 6, 1⟩
def PIPE_STATUS.FLOOR_CODE : Fld := ⟨0x4004, 7, 1⟩
def PIPE_STATUS.TCOMP_SUBST : Fld := ⟨0x4004, 8, 1⟩
def PIPE_IRQ_EN.EN : Fld := ⟨0x4008, 0, 9⟩
def PIPE_ENC.SPLIT : Fld := ⟨0x400c, 0, 11⟩
def PIPE_ENC.DITHER_EN : Fld := ⟨0x400c, 16, 1⟩
def PIPE_ENC.ROTATE : Fld := ⟨0x400c, 17, 1⟩
def PIPE_GOV_CTRL.BUDGET : Fld := ⟨0x4010, 0, 14⟩
def PIPE_GOV_CTRL.EFF_BUDGET : Fld := ⟨0x4010, 16, 14⟩
def PIPE_GOV_SCALE.SCALE : Fld := ⟨0x4014, 0, 16⟩
def PIPE_GOV_STATUS.PEAK : Fld := ⟨0x4018, 0, 16⟩
def PIPE_GOV_STATUS.PEAK1 : Fld := ⟨0x4018, 16, 16⟩
def PIPE_TCOMP.ALPHA_WARM : Fld := ⟨0x401c, 0, 12⟩
def PIPE_TCOMP.ALPHA_COOL : Fld := ⟨0x401c, 12, 12⟩
def PIPE_TCOMP.EN : Fld := ⟨0x401c, 24, 1⟩
def PIPE_TCOMP_STATUS.MEAN : Fld := ⟨0x4020, 0, 16⟩
def PIPE_TCOMP_STATUS.SUBST : Fld := ⟨0x4020, 16, 16⟩
def PIPE_MIX_STATUS.LOADED : Fld := ⟨0x4024, 0, 4⟩
def PIPE_FILL_STATUS.LIMP_SCALE : Fld := ⟨0x4028, 0, 16⟩
def PIPE_FILL_STATUS.BEAM_VALID : Fld := ⟨0x4028, 16, 1⟩
def PIPE_TCOMP_REF.T_REF : Fld := ⟨0x402c, 0, 16⟩
def PIPE_SGAIN.WARM (n : Nat) : Fld := ⟨0x4040 + 0x4 * n, 0, 16⟩
def PIPE_SGAIN.COOL (n : Nat) : Fld := ⟨0x4040 + 0x4 * n, 16, 16⟩
def PIPE_FILL_CNT.ROWS (n : Nat) : Fld := ⟨0x4060 + 0x4 * n, 0, 32⟩

/-! ## Block LAYER -/

def LAYER_CTRL.EN (n : Nat) : Fld := ⟨0x5000 + 0x100 * n, 0, 1⟩
def LAYER_CTRL.KIND (n : Nat) : Fld := ⟨0x5000 + 0x100 * n, 1, 3⟩
def LAYER_CTRL.SCALE (n : Nat) : Fld := ⟨0x5000 + 0x100 * n, 4, 1⟩
def LAYER_CTRL.LINK (n : Nat) : Fld := ⟨0x5000 + 0x100 * n, 5, 1⟩
def LAYER_CTRL.MIX_SEL (n : Nat) : Fld := ⟨0x5000 + 0x100 * n, 6, 2⟩
def LAYER_CTRL.Y_DEPTH (n : Nat) : Fld := ⟨0x5000 + 0x100 * n, 8, 2⟩
def LAYER_CTRL.T_SUB (n : Nat) : Fld := ⟨0x5000 + 0x100 * n, 10, 2⟩
def LAYER_CTRL.MASK_DEPTH (n : Nat) : Fld := ⟨0x5000 + 0x100 * n, 12, 1⟩
def LAYER_CTRL.BEAM (n : Nat) : Fld := ⟨0x5000 + 0x100 * n, 13, 1⟩
def LAYER_BLEND.MODE (n : Nat) : Fld := ⟨0x5004 + 0x100 * n, 0, 2⟩
def LAYER_BLEND.GALPHA (n : Nat) : Fld := ⟨0x5004 + 0x100 * n, 8, 8⟩
def LAYER_POLICY.POLICY (n : Nat) : Fld := ⟨0x5008 + 0x100 * n, 0, 2⟩
def LAYER_POLICY.SUB_BEAM (n : Nat) : Fld := ⟨0x5008 + 0x100 * n, 4, 1⟩
def LAYER_DST_POS.X0 (n : Nat) : Fld := ⟨0x500c + 0x100 * n, 0, 11⟩
def LAYER_DST_POS.Y0 (n : Nat) : Fld := ⟨0x500c + 0x100 * n, 16, 10⟩
def LAYER_DST_SIZE.W (n : Nat) : Fld := ⟨0x5010 + 0x100 * n, 0, 12⟩
def LAYER_DST_SIZE.H (n : Nat) : Fld := ⟨0x5010 + 0x100 * n, 16, 10⟩
def LAYER_SRC_SIZE.W (n : Nat) : Fld := ⟨0x5014 + 0x100 * n, 0, 12⟩
def LAYER_SRC_SIZE.H (n : Nat) : Fld := ⟨0x5014 + 0x100 * n, 16, 10⟩
def LAYER_BUF0.BASE (n : Nat) : Fld := ⟨0x5018 + 0x100 * n, 0, 23⟩
def LAYER_BUF1.BASE (n : Nat) : Fld := ⟨0x501c + 0x100 * n, 0, 23⟩
def LAYER_T_OFF.OFF (n : Nat) : Fld := ⟨0x5020 + 0x100 * n, 0, 23⟩
def LAYER_PITCH.Y_PITCH (n : Nat) : Fld := ⟨0x5024 + 0x100 * n, 0, 16⟩
def LAYER_PITCH.T_PITCH (n : Nat) : Fld := ⟨0x5024 + 0x100 * n, 16, 16⟩
def LAYER_OVL.WARM (n : Nat) : Fld := ⟨0x5028 + 0x100 * n, 0, 16⟩
def LAYER_OVL.COOL (n : Nat) : Fld := ⟨0x5028 + 0x100 * n, 16, 16⟩
def LAYER_STATUS.NOT_READY (n : Nat) : Fld := ⟨0x5040 + 0x100 * n, 0, 1⟩
def LAYER_STATUS.HOLD_FAIL (n : Nat) : Fld := ⟨0x5040 + 0x100 * n, 1, 1⟩
def LAYER_STATUS.SUB_FAIL (n : Nat) : Fld := ⟨0x5040 + 0x100 * n, 2, 1⟩
def LAYER_STATUS.DAMAGED (n : Nat) : Fld := ⟨0x5040 + 0x100 * n, 3, 1⟩
def LAYER_STATUS.SKIP (n : Nat) : Fld := ⟨0x5040 + 0x100 * n, 4, 1⟩
def LAYER_STATUS.LOCKED_DROP (n : Nat) : Fld := ⟨0x5040 + 0x100 * n, 5, 1⟩
def LAYER_STATUS.WRONG_LINK (n : Nat) : Fld := ⟨0x5040 + 0x100 * n, 6, 1⟩
def LAYER_STATUS.BAD_BLOCK (n : Nat) : Fld := ⟨0x5040 + 0x100 * n, 7, 1⟩
def LAYER_STATUS.CFG_ERR (n : Nat) : Fld := ⟨0x5040 + 0x100 * n, 8, 1⟩
def LAYER_STATUS.COMMIT_PEND (n : Nat) : Fld := ⟨0x5040 + 0x100 * n, 9, 1⟩
def LAYER_STATUS.ACTIVE_EN (n : Nat) : Fld := ⟨0x5040 + 0x100 * n, 10, 1⟩
def LAYER_STATUS.BUF0_STATE (n : Nat) : Fld := ⟨0x5040 + 0x100 * n, 12, 3⟩
def LAYER_STATUS.BUF1_STATE (n : Nat) : Fld := ⟨0x5040 + 0x100 * n, 16, 3⟩
def LAYER_STATUS.POL_APPLIED (n : Nat) : Fld := ⟨0x5040 + 0x100 * n, 20, 2⟩
def LAYER_NR_CNT.COUNT (n : Nat) : Fld := ⟨0x5044 + 0x100 * n, 0, 32⟩
def LAYER_COMP_CTRL.START : Fld := ⟨0x5800, 0, 11⟩
def LAYER_COMP_CTRL.COMMIT_ONLY : Fld := ⟨0x5800, 16, 8⟩
def LAYER_COMP_BG.WARM : Fld := ⟨0x5804, 0, 16⟩
def LAYER_COMP_BG.COOL : Fld := ⟨0x5804, 16, 16⟩
def LAYER_COMP_STATUS.DISPLAY_BUF : Fld := ⟨0x5808, 0, 1⟩
def LAYER_COMP_STATUS.COMPOSING : Fld := ⟨0x5808, 1, 1⟩
def LAYER_COMP_STATUS.LAYER_EV : Fld := ⟨0x5808, 8, 8⟩
def LAYER_IRQ_EN.EN : Fld := ⟨0x580c, 0, 8⟩

/-! ## Block SCALE -/

def SCALE_CFG.TAPS_H (n : Nat) : Fld := ⟨0x6000 + 0x100 * n, 0, 3⟩
def SCALE_CFG.TAPS_V (n : Nat) : Fld := ⟨0x6000 + 0x100 * n, 4, 3⟩
def SCALE_CFG.COEF_H (n : Nat) : Fld := ⟨0x6000 + 0x100 * n, 8, 3⟩
def SCALE_CFG.COEF_V (n : Nat) : Fld := ⟨0x6000 + 0x100 * n, 12, 3⟩
def SCALE_SYM.INDEX (n : Nat) : Fld := ⟨0x6004 + 0x100 * n, 0, 8⟩
def SCALE_STATUS.LINEBUF_SHORT (n : Nat) : Fld := ⟨0x6040 + 0x100 * n, 0, 1⟩
def SCALE_STATUS.TAPS_V_USED (n : Nat) : Fld := ⟨0x6040 + 0x100 * n, 4, 3⟩
def SCALE_COEF_STATUS.LOADED : Fld := ⟨0x6800, 0, 8⟩
def SCALE_IRQ_EN.EN : Fld := ⟨0x6804, 0, 8⟩
def SCALE_H.COEF (n i : Nat) : Fld := ⟨0x6008 + 0x100 * n + 4 * i, 0, 32⟩

/-! ## Block CASK -/

def CASK_STATUS.VALID0 : Fld := ⟨0x7000, 0, 1⟩
def CASK_STATUS.VALID1 : Fld := ⟨0x7000, 1, 1⟩
def CASK_STATUS.RACKING : Fld := ⟨0x7000, 2, 1⟩
def CASK_STATUS.TARGET : Fld := ⟨0x7000, 3, 1⟩
def CASK_STATUS.RACK_DONE : Fld := ⟨0x7000, 4, 1⟩
def CASK_STATUS.RACK_ABORT : Fld := ⟨0x7000, 5, 1⟩
def CASK_STATUS.RET_LOSS : Fld := ⟨0x7000, 6, 1⟩
def CASK_RACK_PROG.ROWS_CP0 : Fld := ⟨0x7004, 0, 9⟩
def CASK_RACK_PROG.ROWS_CP1 : Fld := ⟨0x7004, 16, 9⟩
def CASK_BEAM_CRC.CRC (n : Nat) : Fld := ⟨0x7008 + 0x4 * n, 0, 32⟩
def CASK_BEAM_TICK.COUNT (n : Nat) : Fld := ⟨0x7010 + 0x4 * n, 0, 32⟩
def CASK_IRQ_EN.EN : Fld := ⟨0x7018, 0, 3⟩

/-! ## Block LINK -/

def LINK_CTRL.LANE_EN : Fld := ⟨0x8000, 0, 4⟩
def LINK_CTRL.RL_EN : Fld := ⟨0x8000, 4, 1⟩
def LINK_CTRL.MAX_RATE_A : Fld := ⟨0x8000, 8, 2⟩
def LINK_CTRL.MAX_RATE_B : Fld := ⟨0x8000, 10, 2⟩
def LINK_STATUS.STATE_A : Fld := ⟨0x8004, 0, 3⟩
def LINK_STATUS.STATE_B : Fld := ⟨0x8004, 3, 3⟩
def LINK_STATUS.LANE_LOSS : Fld := ⟨0x8004, 8, 1⟩
def LINK_STATUS.LAME : Fld := ⟨0x8004, 9, 1⟩
def LINK_STATUS.MODE_EV : Fld := ⟨0x8004, 10, 1⟩
def LINK_STATUS.RESTRIPE_REJ : Fld := ⟨0x8004, 11, 1⟩
def LINK_STATUS.RATE_FAIL : Fld := ⟨0x8004, 12, 1⟩
def LINK_STATUS.DESKEW : Fld := ⟨0x8004, 13, 1⟩
def LINK_STATUS.GUARD_DISCARD : Fld := ⟨0x8004, 14, 1⟩
def LINK_STATUS.PKT_DROP : Fld := ⟨0x8004, 15, 1⟩
def LINK_STATUS.CUT_BAD : Fld := ⟨0x8004, 16, 1⟩
def LINK_STATUS.MARGIN_LOW : Fld := ⟨0x8004, 17, 1⟩
def LINK_IRQ_EN.EN : Fld := ⟨0x8008, 8, 10⟩
def LINK_LANE_STATE.STATE0 : Fld := ⟨0x800c, 0, 3⟩
def LINK_LANE_STATE.STATE1 : Fld := ⟨0x800c, 8, 3⟩
def LINK_LANE_STATE.STATE2 : Fld := ⟨0x800c, 16, 3⟩
def LINK_LANE_STATE.STATE3 : Fld := ⟨0x800c, 24, 3⟩
def LINK_LANE_STATE.RATE0 : Fld := ⟨0x800c, 3, 2⟩
def LINK_LANE_STATE.RATE1 : Fld := ⟨0x800c, 11, 2⟩
def LINK_LANE_STATE.RATE2 : Fld := ⟨0x800c, 19, 2⟩
def LINK_LANE_STATE.RATE3 : Fld := ⟨0x800c, 27, 2⟩
def LINK_LANE_STATE.TRAINED0 : Fld := ⟨0x800c, 5, 1⟩
def LINK_LANE_STATE.TRAINED1 : Fld := ⟨0x800c, 13, 1⟩
def LINK_LANE_STATE.TRAINED2 : Fld := ⟨0x800c, 21, 1⟩
def LINK_LANE_STATE.TRAINED3 : Fld := ⟨0x800c, 29, 1⟩
def LINK_LANE_STATE.MARGIN_LOW0 : Fld := ⟨0x800c, 6, 1⟩
def LINK_LANE_STATE.MARGIN_LOW1 : Fld := ⟨0x800c, 14, 1⟩
def LINK_LANE_STATE.MARGIN_LOW2 : Fld := ⟨0x800c, 22, 1⟩
def LINK_LANE_STATE.MARGIN_LOW3 : Fld := ⟨0x800c, 30, 1⟩
def LINK_RL_CFG.SWING : Fld := ⟨0x8010, 0, 2⟩
def LINK_RL_CFG.DEEMPH : Fld := ⟨0x8010, 2, 2⟩
def LINK_RL_CFG.BURST : Fld := ⟨0x8010, 8, 1⟩
def LINK_CV.CV (n : Nat) : Fld := ⟨0x8040 + 0x10 * n, 0, 16⟩
def LINK_CV.LOCK (n : Nat) : Fld := ⟨0x8040 + 0x10 * n, 16, 16⟩
def LINK_BLK.CRC (n : Nat) : Fld := ⟨0x8044 + 0x10 * n, 0, 16⟩
def LINK_BLK.HDR (n : Nat) : Fld := ⟨0x8044 + 0x10 * n, 16, 16⟩
def LINK_TAPS.PRE (n : Nat) : Fld := ⟨0x8048 + 0x10 * n, 0, 5⟩
def LINK_TAPS.MAIN (n : Nat) : Fld := ⟨0x8048 + 0x10 * n, 8, 5⟩
def LINK_TAPS.POST (n : Nat) : Fld := ⟨0x8048 + 0x10 * n, 16, 5⟩
def LINK_TAPS.REQ_ID (n : Nat) : Fld := ⟨0x8048 + 0x10 * n, 24, 8⟩
def LINK_MARGIN.EYE_H (n : Nat) : Fld := ⟨0x804c + 0x10 * n, 0, 8⟩
def LINK_MARGIN.EYE_W (n : Nat) : Fld := ⟨0x804c + 0x10 * n, 8, 8⟩
def LINK_MARGIN.PRBS_ERR (n : Nat) : Fld := ⟨0x804c + 0x10 * n, 16, 16⟩
def LINK_LOST.COUNT (n : Nat) : Fld := ⟨0x8080 + 0x10 * n, 0, 32⟩
def LINK_DISC.DISCARD (n : Nat) : Fld := ⟨0x8084 + 0x10 * n, 0, 16⟩
def LINK_DISC.DESKEW (n : Nat) : Fld := ⟨0x8084 + 0x10 * n, 16, 16⟩
def LINK_GRD.TAG (n : Nat) : Fld := ⟨0x8088 + 0x10 * n, 0, 16⟩
def LINK_GRD.LATE (n : Nat) : Fld := ⟨0x8088 + 0x10 * n, 16, 16⟩
def LINK_PKT.PKT_DROP (n : Nat) : Fld := ⟨0x808c + 0x10 * n, 0, 16⟩
def LINK_PKT.CUT_BAD (n : Nat) : Fld := ⟨0x808c + 0x10 * n, 16, 16⟩
def LINK_LANE_STATE.STATE (n : Nat) : Fld := ⟨0x800c, 8 * n + 0, 3⟩
def LINK_LANE_STATE.RATE (n : Nat) : Fld := ⟨0x800c, 8 * n + 3, 2⟩
def LINK_LANE_STATE.TRAINED (n : Nat) : Fld := ⟨0x800c, 8 * n + 5, 1⟩
def LINK_LANE_STATE.MARGIN_LOW (n : Nat) : Fld := ⟨0x800c, 8 * n + 6, 1⟩

/-! ## Block SAFE -/

def SAFE_STATUS.STATE : Fld := ⟨0x9000, 0, 2⟩
def SAFE_STATUS.UNLIT : Fld := ⟨0x9000, 2, 1⟩
def SAFE_STATUS.HOST_SEEN : Fld := ⟨0x9000, 3, 1⟩
def SAFE_STATUS.GUARD_ACTIVE : Fld := ⟨0x9000, 4, 1⟩
def SAFE_STATUS.PROVISIONAL : Fld := ⟨0x9000, 5, 1⟩
def SAFE_STATUS.STATE_EV : Fld := ⟨0x9000, 8, 1⟩
def SAFE_STATUS.DISC_EV : Fld := ⟨0x9000, 9, 1⟩
def SAFE_STATUS.SINGLE_EV : Fld := ⟨0x9000, 10, 1⟩
def SAFE_STATUS.HOLD_EV : Fld := ⟨0x9000, 11, 1⟩
def SAFE_STATUS.NEAR_MISS : Fld := ⟨0x9000, 12, 1⟩
def SAFE_STATUS.IN_DEGRADED : Fld := ⟨0x9000, 13, 1⟩
def SAFE_STATUS.FAULTN_MISMATCH : Fld := ⟨0x9000, 14, 1⟩
def SAFE_STATUS.LOG_DROP : Fld := ⟨0x9000, 15, 1⟩
def SAFE_STATUS.PW_FAIL : Fld := ⟨0x9000, 16, 1⟩
def SAFE_CAUSE.LATCHED : Fld := ⟨0x9004, 0, 16⟩
def SAFE_CAUSE.PRESENT : Fld := ⟨0x9004, 16, 16⟩
def SAFE_IRQ_EN.EN : Fld := ⟨0x9008, 8, 9⟩
def SAFE_CTRL.AUTO_LIMP : Fld := ⟨0x900c, 0, 1⟩
def SAFE_CTRL.NEAR_LIMIT : Fld := ⟨0x900c, 8, 4⟩
def SAFE_GUARD_CFG.DEADLINE : Fld := ⟨0x9010, 0, 12⟩
def SAFE_GUARD_CFG.HOLD : Fld := ⟨0x9010, 16, 4⟩
def SAFE_GUARD_LIM.DISC_FRAMES : Fld := ⟨0x9014, 0, 4⟩
def SAFE_GUARD_LIM.SINGLE_MAX : Fld := ⟨0x9014, 8, 8⟩
def SAFE_GUARD_LIM.TOL : Fld := ⟨0x9014, 16, 4⟩
def SAFE_GUARD_STAT.LAST : Fld := ⟨0x9018, 0, 3⟩
def SAFE_GUARD_STAT.DISC_RUN : Fld := ⟨0x9018, 4, 4⟩
def SAFE_GUARD_STAT.SINGLE_RUN : Fld := ⟨0x9018, 8, 8⟩
def SAFE_GUARD_STAT.HOLD_RUN : Fld := ⟨0x9018, 16, 4⟩
def SAFE_GUARD_DIFF.CELLS : Fld := ⟨0x901c, 0, 17⟩
def SAFE_GUARD_CNT.DISC : Fld := ⟨0x9020, 0, 16⟩
def SAFE_GUARD_CNT.SINGLE : Fld := ⟨0x9020, 16, 16⟩
def SAFE_IN_SB.DISC_TIME : Fld := ⟨0x9024, 0, 10⟩
def SAFE_IN_DK.DISC_TIME : Fld := ⟨0x9028, 0, 10⟩
def SAFE_IN_STATUS.LEVEL : Fld := ⟨0x902c, 0, 4⟩
def SAFE_IN_STATUS.SB_REQ : Fld := ⟨0x902c, 4, 1⟩
def SAFE_IN_STATUS.DK_REQ : Fld := ⟨0x902c, 5, 1⟩
def SAFE_IN_STATUS.SB_DISAGREE : Fld := ⟨0x902c, 6, 1⟩
def SAFE_IN_STATUS.DK_DISAGREE : Fld := ⟨0x902c, 7, 1⟩
def SAFE_IN_NEAR.SB : Fld := ⟨0x9030, 0, 8⟩
def SAFE_IN_NEAR.DK : Fld := ⟨0x9030, 8, 8⟩
def SAFE_LIMP_CEIL.WARM : Fld := ⟨0x9034, 0, 12⟩
def SAFE_LIMP_CEIL.COOL : Fld := ⟨0x9034, 16, 12⟩
def SAFE_LIMP_CFG.BUDGET : Fld := ⟨0x9038, 0, 14⟩
def SAFE_LIMP_CRC.CRC : Fld := ⟨0x903c, 0, 32⟩
def SAFE_WDOG_CFG.SC_TIMEOUT : Fld := ⟨0x9040, 0, 7⟩
def SAFE_SEAL_STATUS.STATE : Fld := ⟨0x9044, 0, 2⟩
def SAFE_SEAL_STATUS.PW_SET : Fld := ⟨0x9044, 2, 1⟩
def SAFE_SEAL_STATUS.MATCH : Fld := ⟨0x9044, 3, 1⟩
def SAFE_SEAL_STATUS.PW_FAILS : Fld := ⟨0x9044, 8, 3⟩
def SAFE_SEAL_STATUS.LOCKOUT_S : Fld := ⟨0x9044, 16, 6⟩
def SAFE_SEAL_LIVE.SEAL : Fld := ⟨0x9048, 0, 32⟩
def SAFE_SEAL_STORED.SEAL : Fld := ⟨0x904c, 0, 32⟩
def SAFE_LOG_STATUS.NEXT : Fld := ⟨0x9050, 0, 16⟩
def SAFE_LOG_STATUS.PENDING : Fld := ⟨0x9050, 16, 5⟩
def SAFE_LOG_STATUS.DROPPED : Fld := ⟨0x9050, 24, 8⟩

/-! ## Block CMD -/

def CMD_CTRL.NOTIFY_CPL : Fld := ⟨0x1000, 0, 1⟩
def CMD_CTRL.NOTIFY_IRQ : Fld := ⟨0x1000, 1, 1⟩
def CMD_STATUS.CQ_NE : Fld := ⟨0x1004, 0, 1⟩
def CMD_STATUS.CQ_OVF : Fld := ⟨0x1004, 1, 1⟩
def CMD_STATUS.REJECT : Fld := ⟨0x1004, 2, 1⟩
def CMD_STATUS.SEQ_CONFLICT : Fld := ⟨0x1004, 3, 1⟩
def CMD_STATUS.DUP_NORETRY : Fld := ⟨0x1004, 4, 1⟩
def CMD_STATUS.REPLY_DROP : Fld := ⟨0x1004, 5, 1⟩
def CMD_STATUS.HANDLE_FULL : Fld := ⟨0x1004, 6, 1⟩
def CMD_STATUS.FRAME_ERR : Fld := ⟨0x1004, 7, 1⟩
def CMD_IRQ_EN.EN : Fld := ⟨0x1008, 0, 8⟩
def CMD_IRQ_SRC.SRC : Fld := ⟨0x100c, 0, 20⟩
def CMD_QSTATE.SYSTEM : Fld := ⟨0x1010, 0, 5⟩
def CMD_QSTATE.DISPLAY : Fld := ⟨0x1010, 5, 5⟩
def CMD_QSTATE.CELLAR : Fld := ⟨0x1010, 10, 5⟩
def CMD_QSTATE.TEST : Fld := ⟨0x1010, 15, 5⟩
def CMD_QSTATE.SAFETY : Fld := ⟨0x1010, 20, 5⟩
def CMD_QSTATE.BARRIER_HEAD : Fld := ⟨0x1010, 25, 5⟩
def CMD_HSTATE.IN_USE : Fld := ⟨0x1014, 0, 7⟩
def CMD_HSTATE.NEXT : Fld := ⟨0x1014, 16, 16⟩
def CMD_CQ_STATUS.COUNT : Fld := ⟨0x1018, 0, 6⟩
def CMD_CQ_STATUS.LOST : Fld := ⟨0x1018, 16, 16⟩
def CMD_PKT_CNT.COUNT : Fld := ⟨0x101c, 0, 32⟩
def CMD_ERR_CNT.CRC : Fld := ⟨0x1020, 0, 8⟩
def CMD_ERR_CNT.LENGTH : Fld := ⟨0x1020, 8, 8⟩
def CMD_ERR_CNT.DUP : Fld := ⟨0x1020, 16, 8⟩
def CMD_ERR_CNT.CONFLICT : Fld := ⟨0x1020, 24, 8⟩

/-! ## Block SYS -/

def SYS_ID.PART : Fld := ⟨0x0, 0, 16⟩
def SYS_ID.STEPPING : Fld := ⟨0x0, 16, 8⟩
def SYS_ID.MAP_VER : Fld := ⟨0x0, 24, 8⟩
def SYS_STATUS.LOCK_VIOLATION : Fld := ⟨0x4, 0, 1⟩
def SYS_STATUS.PARITY_ERR : Fld := ⟨0x4, 1, 1⟩
def SYS_STATUS.WRITE_LOST : Fld := ⟨0x4, 2, 1⟩
def SYS_STATUS.KEY_ERR : Fld := ⟨0x4, 3, 1⟩
def SYS_STATUS.REJ_OVF : Fld := ⟨0x4, 4, 1⟩
def SYS_STATUS.REJ_NE : Fld := ⟨0x4, 5, 1⟩
def SYS_STATUS.UNLOCK_PEND : Fld := ⟨0x4, 6, 1⟩
def SYS_IRQ_EN.EN : Fld := ⟨0x8, 0, 5⟩
def SYS_HOST_TAG.TAG : Fld := ⟨0xc, 0, 32⟩
def SYS_KEY.KEY : Fld := ⟨0x10, 0, 32⟩
def SYS_COMPAT.PRIVMODE : Fld := ⟨0x14, 0, 1⟩
def SYS_LOCK_CNT.REJECTED : Fld := ⟨0x18, 0, 16⟩
def SYS_LOCK_CNT.SUPPRESSED : Fld := ⟨0x18, 16, 16⟩
def SYS_REJ_FIFO.RECORD : Fld := ⟨0x1c, 0, 32⟩
def SYS_PARITY_ADDR.ADDR : Fld := ⟨0x20, 0, 17⟩
def SYS_PARITY_ADDR.SAFETY : Fld := ⟨0x20, 31, 1⟩
def SYS_PARITY_CNT.COUNT : Fld := ⟨0x24, 0, 16⟩
def SYS_WRITE_LOST_ADDR.ADDR : Fld := ⟨0x28, 0, 17⟩
def SYS_UNLOCK.BLOCK : Fld := ⟨0x2c, 0, 5⟩
def SYS_UNLOCK.VALID : Fld := ⟨0x2c, 8, 1⟩
def SYS_UNLOCK.SOURCE : Fld := ⟨0x2c, 9, 2⟩
def SYS_UNLOCK.REMAIN_US : Fld := ⟨0x2c, 16, 10⟩

/-! ## Block MEM -/

def MEM_CTRL.HOLD_TO : Fld := ⟨0xa000, 0, 16⟩
def MEM_CTRL.STARVE : Fld := ⟨0xa000, 16, 16⟩
def MEM_STATUS.STUCK : Fld := ⟨0xa004, 0, 1⟩
def MEM_STATUS.STARVE : Fld := ⟨0xa004, 1, 1⟩
def MEM_STATUS.MAP_REJECT : Fld := ⟨0xa004, 2, 1⟩
def MEM_STATUS.RET_LOSS : Fld := ⟨0xa004, 3, 1⟩
def MEM_STATUS.RELOADING : Fld := ⟨0xa004, 4, 1⟩
def MEM_IRQ_EN.EN : Fld := ⟨0xa008, 0, 4⟩
def MEM_INMAP.SC : Fld := ⟨0xa00c, 0, 3⟩
def MEM_INMAP.SCAN : Fld := ⟨0xa00c, 4, 3⟩
def MEM_INMAP.CELLAR : Fld := ⟨0xa00c, 8, 3⟩
def MEM_INMAP.RACK : Fld := ⟨0xa00c, 12, 3⟩
def MEM_INMAP.COMP : Fld := ⟨0xa00c, 16, 3⟩
def MEM_INMAP.LINK : Fld := ⟨0xa00c, 20, 3⟩
def MEM_INMAP.SE : Fld := ⟨0xa00c, 24, 3⟩
def MEM_INMAP_EFF.SC : Fld := ⟨0xa010, 0, 3⟩
def MEM_INMAP_EFF.SCAN : Fld := ⟨0xa010, 4, 3⟩
def MEM_INMAP_EFF.CELLAR : Fld := ⟨0xa010, 8, 3⟩
def MEM_INMAP_EFF.RACK : Fld := ⟨0xa010, 12, 3⟩
def MEM_INMAP_EFF.COMP : Fld := ⟨0xa010, 16, 3⟩
def MEM_INMAP_EFF.LINK : Fld := ⟨0xa010, 20, 3⟩
def MEM_INMAP_EFF.SE : Fld := ⟨0xa010, 24, 3⟩
def MEM_STUCK_INFO.BANK : Fld := ⟨0xa014, 0, 5⟩
def MEM_STUCK_INFO.REQ : Fld := ⟨0xa014, 8, 3⟩
def MEM_STUCK_INFO.PORT : Fld := ⟨0xa014, 12, 3⟩
def MEM_STUCK_INFO.COUNT : Fld := ⟨0xa014, 16, 16⟩
def MEM_STARVE_INFO.BANK : Fld := ⟨0xa018, 0, 5⟩
def MEM_STARVE_INFO.REQ : Fld := ⟨0xa018, 8, 3⟩
def MEM_STARVE_INFO.PORT : Fld := ⟨0xa018, 12, 3⟩
def MEM_STARVE_INFO.COUNT : Fld := ⟨0xa018, 16, 16⟩
def MEM_RET_MASK.BANKS : Fld := ⟨0xa01c, 0, 28⟩
def MEM_WAKE_RETENTION_LOSS.BANKS : Fld := ⟨0xa020, 0, 28⟩
def MEM_BURST.LIMIT (n : Nat) : Fld := ⟨0xa040 + 0x4 * n, 0, 9⟩
def MEM_RET_CRC.CRC (n : Nat) : Fld := ⟨0xa080 + 0x4 * n, 0, 32⟩

/-! ## Block CELLAR -/

def CELLAR_CTRL.EN : Fld := ⟨0xb000, 0, 1⟩
def CELLAR_STATUS.BUSY : Fld := ⟨0xb004, 0, 1⟩
def CELLAR_STATUS.COPYBACK : Fld := ⟨0xb004, 1, 1⟩
def CELLAR_STATUS.BUSY_WRITE : Fld := ⟨0xb004, 2, 1⟩
def CELLAR_STATUS.THERMAL_EV : Fld := ⟨0xb004, 3, 1⟩
def CELLAR_STATUS.ECC_CORR : Fld := ⟨0xb004, 4, 1⟩
def CELLAR_STATUS.ECC_FAIL : Fld := ⟨0xb004, 5, 1⟩
def CELLAR_STATUS.REPLAYED : Fld := ⟨0xb004, 6, 1⟩
def CELLAR_STATUS.DISCARDED : Fld := ⟨0xb004, 7, 1⟩
def CELLAR_STATUS.WEAR_WARN : Fld := ⟨0xb004, 8, 1⟩
def CELLAR_STATUS.WEAR_LIMIT : Fld := ⟨0xb004, 9, 1⟩
def CELLAR_STATUS.REFUSED : Fld := ⟨0xb004, 10, 1⟩
def CELLAR_IRQ_EN.EN : Fld := ⟨0xb008, 2, 9⟩
def CELLAR_PROG.DONE : Fld := ⟨0xb00c, 0, 16⟩
def CELLAR_PROG.TOTAL : Fld := ⟨0xb00c, 16, 16⟩
def CELLAR_JOURNAL.PHASE : Fld := ⟨0xb010, 0, 2⟩
def CELLAR_JOURNAL.REGION : Fld := ⟨0xb010, 4, 3⟩
def CELLAR_JOURNAL.SPARE_START : Fld := ⟨0xb010, 8, 11⟩
def CELLAR_ECC_CNT.CORR : Fld := ⟨0xb014, 0, 16⟩
def CELLAR_ECC_CNT.FAIL : Fld := ⟨0xb014, 16, 16⟩
def CELLAR_ECC_ADDR.ADDR : Fld := ⟨0xb018, 0, 23⟩
def CELLAR_SPARE_WEAR.COUNT : Fld := ⟨0xb01c, 0, 32⟩
def CELLAR_STORE_CNT.COUNT : Fld := ⟨0xb020, 0, 32⟩

/-! ## Block POWER -/

def POWER_CTRL.OP : Fld := ⟨0xc000, 0, 2⟩
def POWER_CTRL.SHED : Fld := ⟨0xc000, 4, 1⟩
def POWER_STATUS.STATE : Fld := ⟨0xc004, 0, 2⟩
def POWER_STATUS.OP : Fld := ⟨0xc004, 2, 2⟩
def POWER_STATUS.OP_BUSY : Fld := ⟨0xc004, 4, 1⟩
def POWER_STATUS.OP_CAP : Fld := ⟨0xc004, 5, 1⟩
def POWER_STATUS.OP_DEFER : Fld := ⟨0xc004, 8, 1⟩
def POWER_STATUS.LED_REG : Fld := ⟨0xc004, 9, 1⟩
def POWER_STATUS.LED_ILIM : Fld := ⟨0xc004, 10, 1⟩
def POWER_STATUS.VLED_OV : Fld := ⟨0xc004, 11, 1⟩
def POWER_STATUS.VBAT_LOW : Fld := ⟨0xc004, 12, 1⟩
def POWER_STATUS.VBAT_HIGH : Fld := ⟨0xc004, 13, 1⟩
def POWER_STATUS.VSYS_LOW : Fld := ⟨0xc004, 14, 1⟩
def POWER_STATUS.SFCLK_DEV : Fld := ⟨0xc004, 15, 1⟩
def POWER_STATUS.HEADROOM_MAX : Fld := ⟨0xc004, 16, 1⟩
def POWER_STATUS.WAKE_EV : Fld := ⟨0xc004, 17, 1⟩
def POWER_IRQ_EN.EN : Fld := ⟨0xc008, 8, 10⟩
def POWER_VLED_CFG.V0 : Fld := ⟨0xc00c, 0, 12⟩
def POWER_VLED_CFG.K_REF : Fld := ⟨0xc00c, 12, 8⟩
def POWER_VLED_CFG.K_DROP : Fld := ⟨0xc00c, 20, 8⟩
def POWER_VLED_STATUS.TARGET : Fld := ⟨0xc010, 0, 13⟩
def POWER_VLED_STATUS.MEAS : Fld := ⟨0xc010, 16, 13⟩
def POWER_VLED_TRIM.TRIM : Fld := ⟨0xc014, 0, 10⟩
def POWER_LED_ILIM.ILIM : Fld := ⟨0xc018, 0, 14⟩
def POWER_LED_PHASE.I0 : Fld := ⟨0xc01c, 0, 8⟩
def POWER_LED_PHASE.I1 : Fld := ⟨0xc01c, 8, 8⟩
def POWER_LED_PHASE.I2 : Fld := ⟨0xc01c, 16, 8⟩
def POWER_LED_PHASE.I3 : Fld := ⟨0xc01c, 24, 8⟩
def POWER_SUPPLY_MEAS.VSYS : Fld := ⟨0xc020, 0, 13⟩
def POWER_SUPPLY_MEAS.VBAT : Fld := ⟨0xc020, 16, 16⟩
def POWER_WAKE.MASK : Fld := ⟨0xc024, 0, 8⟩
def POWER_WAKE.CAUSE : Fld := ⟨0xc024, 16, 8⟩
def POWER_WAKE_MS.MS : Fld := ⟨0xc028, 0, 32⟩
def POWER_TIME.QUALITY : Fld := ⟨0xc02c, 0, 2⟩
def POWER_TIME.XTAL32 : Fld := ⟨0xc02c, 2, 1⟩
def POWER_TIME.LAST_SRC : Fld := ⟨0xc02c, 3, 1⟩
def POWER_AON_CAL.PERIOD : Fld := ⟨0xc030, 0, 32⟩
def POWER_AON_CNT.COUNT : Fld := ⟨0xc034, 0, 32⟩
def POWER_REFUSE.MASK : Fld := ⟨0xc038, 0, 20⟩
def POWER_SFCLK.DEV : Fld := ⟨0xc03c, 0, 16⟩

/-! ## Block THERM -/

def THERM_CTRL.NTC_EN : Fld := ⟨0xd000, 0, 2⟩
def THERM_STATUS.WARN_ARRAY : Fld := ⟨0xd004, 0, 1⟩
def THERM_STATUS.WARN_LOGIC : Fld := ⟨0xd004, 1, 1⟩
def THERM_STATUS.THROTTLE_ARRAY : Fld := ⟨0xd004, 2, 1⟩
def THERM_STATUS.THROTTLE_LOGIC : Fld := ⟨0xd004, 3, 1⟩
def THERM_STATUS.SHUT_ARRAY : Fld := ⟨0xd004, 4, 1⟩
def THERM_STATUS.SHUT_LOGIC : Fld := ⟨0xd004, 5, 1⟩
def THERM_STATUS.SENSOR_FAIL : Fld := ⟨0xd004, 6, 1⟩
def THERM_STATUS.WARN_NTC : Fld := ⟨0xd004, 7, 1⟩
def THERM_STATUS.NTC_FAIL : Fld := ⟨0xd004, 8, 1⟩
def THERM_IRQ_EN.EN : Fld := ⟨0xd008, 0, 9⟩
def THERM_ARRAY_THR.WARN : Fld := ⟨0xd00c, 0, 8⟩
def THERM_ARRAY_THR.THR : Fld := ⟨0xd00c, 8, 8⟩
def THERM_ARRAY_THR.SHUT : Fld := ⟨0xd00c, 16, 8⟩
def THERM_LOGIC_THR.WARN : Fld := ⟨0xd010, 0, 8⟩
def THERM_LOGIC_THR.THR : Fld := ⟨0xd010, 8, 8⟩
def THERM_LOGIC_THR.SHUT : Fld := ⟨0xd010, 16, 8⟩
def THERM_THROTTLE.TAU : Fld := ⟨0xd014, 0, 16⟩
def THERM_THROTTLE.HOLD : Fld := ⟨0xd014, 16, 1⟩
def THERM_THROTTLE.OP_CAP : Fld := ⟨0xd014, 17, 1⟩
def THERM_THROTTLE.PAIR_CAP : Fld := ⟨0xd014, 18, 1⟩
def THERM_FAIL.MASK : Fld := ⟨0xd018, 0, 26⟩
def THERM_MAX.VALUE : Fld := ⟨0xd01c, 0, 16⟩
def THERM_MAX.INDEX : Fld := ⟨0xd01c, 16, 5⟩
def THERM_REGION.ARRAY : Fld := ⟨0xd020, 0, 16⟩
def THERM_REGION.LOGIC : Fld := ⟨0xd020, 16, 16⟩
def THERM_NTC_CFG.BETA (n : Nat) : Fld := ⟨0xd024 + 0x4 * n, 0, 13⟩
def THERM_NTC_CFG.NOM_RES (n : Nat) : Fld := ⟨0xd024 + 0x4 * n, 13, 3⟩
def THERM_NTC_CFG.THR (n : Nat) : Fld := ⟨0xd024 + 0x4 * n, 16, 8⟩
def THERM_NTC_CFG.WARN (n : Nat) : Fld := ⟨0xd024 + 0x4 * n, 24, 8⟩
def THERM_NTC_T.NTC0 : Fld := ⟨0xd02c, 0, 16⟩
def THERM_NTC_T.NTC1 : Fld := ⟨0xd02c, 16, 16⟩
def THERM_T.VALUE (n : Nat) : Fld := ⟨0xd040 + 0x4 * n, 0, 16⟩
def THERM_T.SUBST (n : Nat) : Fld := ⟨0xd040 + 0x4 * n, 16, 1⟩
def THERM_T.FAILED (n : Nat) : Fld := ⟨0xd040 + 0x4 * n, 17, 1⟩

/-! ## Block CAL -/

def CAL_CTRL.AUTO : Fld := ⟨0xe000, 0, 1⟩
def CAL_CTRL.BANK_EN : Fld := ⟨0xe000, 1, 1⟩
def CAL_CTRL.SAMPLES : Fld := ⟨0xe000, 4, 3⟩
def CAL_CTRL.DT : Fld := ⟨0xe000, 8, 4⟩
def CAL_CTRL.MIN_SAMPLES : Fld := ⟨0xe000, 16, 12⟩
def CAL_STATUS.PHASE : Fld := ⟨0xe004, 0, 2⟩
def CAL_STATUS.AUTO_RUN : Fld := ⟨0xe004, 2, 1⟩
def CAL_STATUS.REF_VALID : Fld := ⟨0xe004, 3, 1⟩
def CAL_STATUS.APPLIED : Fld := ⟨0xe004, 8, 1⟩
def CAL_STATUS.REJECTED : Fld := ⟨0xe004, 9, 1⟩
def CAL_STATUS.INSUFF : Fld := ⟨0xe004, 10, 1⟩
def CAL_STATUS.INTERRUPTED : Fld := ⟨0xe004, 11, 1⟩
def CAL_STATUS.REASON : Fld := ⟨0xe004, 13, 2⟩
def CAL_IRQ_EN.EN : Fld := ⟨0xe008, 8, 4⟩
def CAL_REF_T.T : Fld := ⟨0xe00c, 0, 16⟩
def CAL_LAST.FRAMES : Fld := ⟨0xe010, 0, 16⟩
def CAL_LAST.SAMPLES : Fld := ⟨0xe010, 16, 16⟩
def CAL_FIT.WARM (n : Nat) : Fld := ⟨0xe040 + 0x4 * n, 0, 16⟩
def CAL_FIT.COOL (n : Nat) : Fld := ⟨0xe040 + 0x4 * n, 16, 16⟩
def CAL_BFIT.WARM (n : Nat) : Fld := ⟨0xe060 + 0x4 * n, 0, 16⟩
def CAL_BFIT.COOL (n : Nat) : Fld := ⟨0xe060 + 0x4 * n, 16, 16⟩

/-! ## Block MON -/

def MON_STATUS.HIST_DONE : Fld := ⟨0xf000, 0, 8⟩
def MON_STATUS.SIG_MISS : Fld := ⟨0xf000, 8, 1⟩
def MON_IRQ_EN.EN : Fld := ⟨0xf004, 0, 9⟩
def MON_SIG_MISS.MISS : Fld := ⟨0xf008, 0, 16⟩
def MON_SIG_MISS.CHECKING : Fld := ⟨0xf008, 16, 16⟩
def MON_HIST_STATE.EN : Fld := ⟨0xf00c, 0, 8⟩
def MON_HIST_STATE.LOG2 : Fld := ⟨0xf00c, 8, 8⟩
def MON_SIG_X.X0 (n : Nat) : Fld := ⟨0xf100 + 0x10 * n, 0, 11⟩
def MON_SIG_X.X1 (n : Nat) : Fld := ⟨0xf100 + 0x10 * n, 16, 11⟩
def MON_SIG_Y.Y0 (n : Nat) : Fld := ⟨0xf104 + 0x10 * n, 0, 10⟩
def MON_SIG_Y.Y1 (n : Nat) : Fld := ⟨0xf104 + 0x10 * n, 16, 10⟩
def MON_SIG_Y.EN (n : Nat) : Fld := ⟨0xf104 + 0x10 * n, 28, 1⟩
def MON_SIG_Y.CHECK (n : Nat) : Fld := ⟨0xf104 + 0x10 * n, 29, 1⟩
def MON_SIG_Y.POINT (n : Nat) : Fld := ⟨0xf104 + 0x10 * n, 30, 1⟩
def MON_SIG_EXPECT.VALUE (n : Nat) : Fld := ⟨0xf108 + 0x10 * n, 0, 32⟩
def MON_SIG_VALUE.VALUE (n : Nat) : Fld := ⟨0xf10c + 0x10 * n, 0, 32⟩
def MON_SIG_CNT.MISS (n : Nat) : Fld := ⟨0xf200 + 0x4 * n, 0, 16⟩
def MON_SIG_CNT.COMPARED (n : Nat) : Fld := ⟨0xf200 + 0x4 * n, 16, 16⟩

/-! ## Block CRC -/

def CRC_STATUS.SCAN_DONE : Fld := ⟨0x10000, 0, 1⟩
def CRC_STATUS.SCAN_MISMATCH : Fld := ⟨0x10000, 1, 1⟩
def CRC_STATUS.SCAN_ABORT : Fld := ⟨0x10000, 2, 1⟩
def CRC_STATUS.SCAN_BUSY : Fld := ⟨0x10000, 3, 1⟩
def CRC_IRQ_EN.EN : Fld := ⟨0x10004, 0, 3⟩
def CRC_CTRL.ALG (n : Nat) : Fld := ⟨0x10010 + 0x10 * n, 0, 2⟩
def CRC_CTRL.INIT (n : Nat) : Fld := ⟨0x10010 + 0x10 * n, 8, 1⟩
def CRC_CTRL.BYTES (n : Nat) : Fld := ⟨0x10010 + 0x10 * n, 16, 2⟩
def CRC_DATA.DATA (n : Nat) : Fld := ⟨0x10014 + 0x10 * n, 0, 32⟩
def CRC_VALUE.VALUE (n : Nat) : Fld := ⟨0x10018 + 0x10 * n, 0, 32⟩
def CRC_COUNT.COUNT (n : Nat) : Fld := ⟨0x1001c + 0x10 * n, 0, 32⟩
def CRC_SCAN_CTRL.EN : Fld := ⟨0x10080, 0, 1⟩
def CRC_SCAN_CTRL.ALG : Fld := ⟨0x10080, 2, 2⟩
def CRC_SCAN_CTRL.SPACE : Fld := ⟨0x10080, 4, 1⟩
def CRC_SCAN_CRC.CRC : Fld := ⟨0x10084, 0, 32⟩
def CRC_SCAN_COUNT.COUNT : Fld := ⟨0x10088, 0, 32⟩

/-! ## Block BIST -/

def BIST_STATUS.RUN : Fld := ⟨0x13000, 0, 2⟩
def BIST_STATUS.QUICK_USED : Fld := ⟨0x13000, 2, 1⟩
def BIST_STATUS.SHUT_FAIL : Fld := ⟨0x13000, 8, 1⟩
def BIST_STATUS.BOOT_FAIL : Fld := ⟨0x13000, 9, 1⟩
def BIST_STATUS.INCOMPLETE : Fld := ⟨0x13000, 10, 1⟩
def BIST_IRQ_EN.EN : Fld := ⟨0x13004, 8, 3⟩
def BIST_PLAN_CFG.PLAN : Fld := ⟨0x13008, 0, 16⟩
def BIST_PLAN_CFG.QUICK_START : Fld := ⟨0x13008, 16, 1⟩
def BIST_PROG.CURRENT : Fld := ⟨0x1300c, 0, 4⟩
def BIST_PROG.ACTIVE : Fld := ⟨0x1300c, 7, 1⟩
def BIST_PROG.FAILED : Fld := ⟨0x1300c, 16, 16⟩

/-! ## Block GROUP -/

def GROUP_CFG.ROLE : Fld := ⟨0x11000, 0, 2⟩
def GROUP_CFG.MEMBER : Fld := ⟨0x11000, 4, 2⟩
def GROUP_CFG.COUNT : Fld := ⟨0x11000, 8, 3⟩
def GROUP_STATUS.LEADER_LOST : Fld := ⟨0x11004, 0, 1⟩
def GROUP_STATUS.SEAL_DISSENT : Fld := ⟨0x11004, 1, 1⟩
def GROUP_STATUS.COMPAT_DISSENT : Fld := ⟨0x11004, 2, 1⟩
def GROUP_STATUS.FW_DIFF : Fld := ⟨0x11004, 3, 1⟩
def GROUP_STATUS.MEMBER_MISSING : Fld := ⟨0x11004, 4, 1⟩
def GROUP_STATUS.COLLISION : Fld := ⟨0x11004, 5, 1⟩
def GROUP_STATUS.ROLE_CONFLICT : Fld := ⟨0x11004, 6, 1⟩
def GROUP_STATUS.PULLED : Fld := ⟨0x11004, 7, 1⟩
def GROUP_STATUS.SEEN : Fld := ⟨0x11004, 8, 4⟩
def GROUP_STATUS.SYNC : Fld := ⟨0x11004, 12, 3⟩
def GROUP_IRQ_EN.EN : Fld := ⟨0x11008, 0, 8⟩
def GROUP_SAFE_CFG.DISSENT_ACTION : Fld := ⟨0x1100c, 0, 2⟩
def GROUP_SAFE_CFG.FOLLOW : Fld := ⟨0x1100c, 4, 1⟩
def GROUP_PHASE.E : Fld := ⟨0x11010, 0, 32⟩
def GROUP_CNT.MISSED : Fld := ⟨0x11014, 0, 16⟩
def GROUP_CNT.HOLDS : Fld := ⟨0x11014, 16, 16⟩
def GROUP_WORD_LO.WORD (n : Nat) : Fld := ⟨0x11020 + 0x8 * n, 0, 32⟩
def GROUP_WORD_HI.WORD (n : Nat) : Fld := ⟨0x11024 + 0x8 * n, 0, 32⟩

/-! ## Block SAT -/

def SAT_CTRL.DARK_BLANK : Fld := ⟨0x12000, 0, 1⟩
def SAT_CTRL.LIMP_BLANK : Fld := ⟨0x12000, 1, 1⟩
def SAT_CTRL.TSRC : Fld := ⟨0x12000, 2, 2⟩
def SAT_STATUS.SENDING : Fld := ⟨0x12004, 0, 1⟩
def SAT_STATUS.SKIP : Fld := ⟨0x12004, 1, 1⟩
def SAT_STATUS.CUT : Fld := ⟨0x12004, 2, 1⟩
def SAT_STATUS.TSRC_FB : Fld := ⟨0x12004, 3, 1⟩
def SAT_STATUS.WAIT : Fld := ⟨0x12004, 4, 1⟩
def SAT_IRQ_EN.EN : Fld := ⟨0x12008, 1, 3⟩
def SAT_CFG.LEN : Fld := ⟨0x1200c, 0, 7⟩
def SAT_CFG.TIMING : Fld := ⟨0x1200c, 8, 2⟩
def SAT_CFG.EN : Fld := ⟨0x1200c, 12, 1⟩
def SAT_CFG.TCOMP : Fld := ⟨0x1200c, 13, 1⟩
def SAT_CLASS.CH0 : Fld := ⟨0x12010, 0, 2⟩
def SAT_CLASS.CH1 : Fld := ⟨0x12010, 2, 2⟩
def SAT_CLASS.CH2 : Fld := ⟨0x12010, 4, 2⟩
def SAT_TREF.T : Fld := ⟨0x12014, 0, 16⟩
def SAT_SKIP_CNT.COUNT : Fld := ⟨0x12018, 0, 32⟩
def SAT_FRAME.US : Fld := ⟨0x1201c, 0, 16⟩
def SAT_ALPHA.ALPHA (n : Nat) : Fld := ⟨0x12020 + 0x4 * n, 0, 16⟩

/-! ## Block BOOT -/

def SYS_BOOT_CAUSE.CAUSE : Fld := ⟨0x100, 0, 4⟩
def SYS_BOOT_CAUSE.DETAIL : Fld := ⟨0x100, 4, 4⟩
def SYS_BOOT_CAUSE.COLD : Fld := ⟨0x100, 8, 1⟩
def SYS_BOOT_CAUSE.VAON_LOST : Fld := ⟨0x100, 9, 1⟩
def SYS_BOOT_CAUSE.SHUTDOWN_INTERRUPTED : Fld := ⟨0x100, 10, 1⟩
def SYS_BOOT_CAUSE.FW_FALLBACK : Fld := ⟨0x100, 11, 1⟩
def SYS_BOOT_CAUSE.REPLAYED : Fld := ⟨0x100, 12, 1⟩
def SYS_BOOT_CAUSE.DISCARDED : Fld := ⟨0x100, 13, 1⟩
def SYS_BOOT_CAUSE.QUICK : Fld := ⟨0x100, 14, 1⟩
def SYS_BOOT_CAUSE.HELD : Fld := ⟨0x100, 15, 1⟩
def SYS_BOOT_CAUSE.STAGE : Fld := ⟨0x100, 16, 4⟩
def SYS_BOOT_CAUSE.HOLD_RC : Fld := ⟨0x100, 20, 1⟩
def SYS_BOOT_HOLD.COUNT : Fld := ⟨0x104, 0, 32⟩
def SYS_BOOT_TIME.US : Fld := ⟨0x108, 0, 32⟩
def SYS_BOOT_LOAD.FW : Fld := ⟨0x10c, 0, 2⟩
def SYS_BOOT_LOAD.CONFIG : Fld := ⟨0x10c, 2, 2⟩
def SYS_BOOT_LOAD.SEAL : Fld := ⟨0x10c, 4, 2⟩
def SYS_BOOT_LOAD.LIMP : Fld := ⟨0x10c, 6, 2⟩
def SYS_BOOT_LOAD.TRIM : Fld := ⟨0x10c, 8, 2⟩
def SYS_BOOT_LOAD.SYMBOLS : Fld := ⟨0x10c, 10, 2⟩
def SYS_BOOT_LOAD.SEAL_ST : Fld := ⟨0x10c, 12, 2⟩
def SYS_BOOT_FW.SLOT : Fld := ⟨0x110, 0, 1⟩
def SYS_BOOT_FW.VER : Fld := ⟨0x110, 8, 24⟩
def SYS_BOOT_SEAL.SEAL : Fld := ⟨0x114, 0, 32⟩
def SYS_BOOT_RET.BANKS : Fld := ⟨0x118, 0, 28⟩
def SYS_BOOT_BIST.FAIL : Fld := ⟨0x11c, 0, 16⟩
def SYS_BOOT_BIST.FIRST_FAIL : Fld := ⟨0x11c, 16, 16⟩
def SYS_BOOT_COUNT.BOOTS : Fld := ⟨0x120, 0, 16⟩
def SYS_BOOT_COUNT.ATTEMPTS : Fld := ⟨0x120, 16, 4⟩

/-- The registers of block TICK. -/
def regsTick : List RDesc :=
  [
    /- TICK_CTRL -/ ⟨0x2000, 0, 1, [⟨0, 2, .rw, .num 0⟩, ⟨2, 1, .rw, .num 0⟩]⟩,
    /- TICK_RATE -/ ⟨0x2004, 0, 1, [⟨0, 8, .rw, .num 120⟩, ⟨8, 2, .rw, .num 2⟩]⟩,
    /- TICK_LEAD -/ ⟨0x2008, 0, 1, [⟨0, 11, .rw, .num 250⟩, ⟨16, 11, .ro, .num 250⟩]⟩,
    /- TICK_DARK -/ ⟨0x200c, 0, 1, [⟨0, 10, .rw, .num 0⟩, ⟨16, 15, .rw, .num 0⟩]⟩,
    /- TICK_OUT_CFG -/ ⟨0x2010, 0, 1, [⟨0, 2, .rw, .num 0⟩, ⟨2, 1, .rw, .num 0⟩, ⟨8, 8, .rw, .num 10⟩]⟩,
    /- TICK_STATUS -/ ⟨0x2014, 0, 1, [⟨0, 1, .w1c, .num 0⟩, ⟨1, 1, .w1c, .num 0⟩, ⟨2, 1, .w1c, .num 0⟩, ⟨3, 1, .rc, .num 0⟩, ⟨4, 1, .ro, .num 0⟩, ⟨5, 2, .ro, .num 0⟩, ⟨7, 1, .ro, .num 0⟩, ⟨8, 1, .ro, .num 0⟩]⟩,
    /- TICK_IRQ_EN -/ ⟨0x2018, 0, 1, [⟨0, 1, .rw, .num 0⟩, ⟨1, 1, .rw, .num 0⟩, ⟨2, 1, .rw, .num 0⟩, ⟨3, 1, .rw, .num 0⟩]⟩,
    /- TICK_PHASE -/ ⟨0x201c, 0, 1, [⟨0, 3, .ro, .num 0⟩, ⟨4, 6, .ro, .num 0⟩, ⟨16, 10, .ro, .num 0⟩]⟩,
    /- TICK_COUNT -/ ⟨0x2020, 0, 1, [⟨0, 32, .ro, .num 0⟩]⟩,
    /- TICK_OVERRUN_CNT -/ ⟨0x2024, 0, 1, [⟨0, 16, .cnt, .num 0⟩]⟩,
    /- TICK_FSYNC_ERR -/ ⟨0x2028, 0, 1, [⟨0, 32, .ro, .num 0⟩]⟩,
    /- TICK_PERIOD -/ ⟨0x202c, 0, 1, [⟨0, 32, .ro, .num 0⟩]⟩,
    /- TICK_TB_LO -/ ⟨0x2030, 0, 1, [⟨0, 32, .ro, .p⟩]⟩,
    /- TICK_TB_HI -/ ⟨0x2034, 0, 1, [⟨0, 32, .ro, .p⟩]⟩,
    /- TICK_TSTAMP_LO -/ ⟨0x2038, 0, 1, [⟨0, 32, .ro, .num 0⟩]⟩,
    /- TICK_TSTAMP_HI -/ ⟨0x203c, 0, 1, [⟨0, 32, .ro, .num 0⟩]⟩,
    /- TICK_TB_SET_LO -/ ⟨0x2040, 0, 1, [⟨0, 32, .rw, .num 0⟩]⟩,
    /- TICK_TB_SET_HI -/ ⟨0x2044, 0, 1, [⟨0, 32, .rwk, .num 0⟩]⟩,
    /- TICK_EPOCH -/ ⟨0x2048, 0, 1, [⟨0, 16, .ro, .p⟩]⟩]

/-- The registers of block ARRAY. -/
def regsArray : List RDesc :=
  [
    /- ARRAY_CTRL -/ ⟨0x3000, 0, 1, [⟨0, 4, .rws, .c 2⟩]⟩,
    /- ARRAY_STATUS -/ ⟨0x3004, 0, 1, [⟨0, 1, .w1c, .num 0⟩, ⟨1, 1, .rc, .num 0⟩, ⟨2, 1, .w1c, .num 0⟩, ⟨3, 1, .w1c, .num 0⟩, ⟨4, 1, .rc, .num 0⟩, ⟨5, 1, .w1c, .num 0⟩, ⟨6, 1, .w1c, .num 0⟩, ⟨7, 1, .w1c, .num 0⟩, ⟨8, 1, .w1c, .num 0⟩]⟩,
    /- ARRAY_IRQ_EN -/ ⟨0x3008, 0, 1, [⟨0, 9, .rw, .num 0⟩]⟩,
    /- ARRAY_RAMP_CTRL -/ ⟨0x300c, 0, 1, [⟨0, 1, .rw, .num 0⟩, ⟨1, 1, .ro, .num 0⟩, ⟨2, 1, .ro, .num 0⟩]⟩,
    /- ARRAY_CUT_CTRL -/ ⟨0x3010, 0, 1, [⟨0, 1, .rw, .num 0⟩, ⟨16, 16, .ro, .num 0⟩]⟩,
    /- ARRAY_ROWKILL_CFG -/ ⟨0x3014, 0, 1, [⟨0, 2, .rws, .c 1⟩, ⟨8, 5, .rws, .c 4⟩, ⟨16, 5, .ro, .num 0⟩]⟩,
    /- ARRAY_FAULT_CNT -/ ⟨0x3018, 0, 1, [⟨0, 16, .ro, .num 0⟩, ⟨16, 16, .ro, .num 0⟩]⟩,
    /- ARRAY_FAULT_LIST -/ ⟨0x301c, 0, 1, [⟨0, 11, .ro, .num 0⟩]⟩,
    /- ARRAY_IREF_BASE -/ ⟨0x3040, 0x4, 8, [⟨0, 12, .rw, .c 1920⟩, ⟨16, 12, .rw, .c 1920⟩]⟩,
    /- ARRAY_IREF_TRIM -/ ⟨0x3060, 0x4, 8, [⟨0, 16, .rwh, .c 32768⟩, ⟨16, 16, .rwh, .c 32768⟩]⟩,
    /- ARRAY_IREF_TC -/ ⟨0x3080, 0x4, 8, [⟨0, 16, .rwh, .num 32768⟩, ⟨16, 16, .rwh, .num 32768⟩]⟩,
    /- ARRAY_IREF_EFF -/ ⟨0x30a0, 0x4, 8, [⟨0, 12, .ro, .num 0⟩, ⟨16, 12, .ro, .num 0⟩]⟩,
    /- ARRAY_CUT_ROWS -/ ⟨0x3100, 0x8, 16, [⟨0, 10, .rw, .num 0⟩, ⟨16, 10, .rw, .num 0⟩]⟩,
    /- ARRAY_CUT_COLS -/ ⟨0x3104, 0x8, 16, [⟨0, 7, .rw, .num 0⟩, ⟨16, 7, .rw, .num 0⟩, ⟨31, 1, .rw, .num 0⟩]⟩,
    /- ARRAY_ROWKILL -/ ⟨0x3180, 0x4, 16, [⟨0, 10, .ro, .num 0⟩, ⟨12, 1, .ro, .num 0⟩, ⟨15, 1, .ro, .num 0⟩]⟩]

/-- The registers of block PIPE. -/
def regsPipe : List RDesc :=
  [
    /- PIPE_SE_CTRL -/ ⟨0x4000, 0, 1, [⟨0, 8, .rwk, .num 255⟩, ⟨8, 8, .ro, .num 0⟩]⟩,
    /- PIPE_STATUS -/ ⟨0x4004, 0, 1, [⟨0, 1, .w1c, .num 0⟩, ⟨1, 1, .w1c, .num 0⟩, ⟨2, 1, .rc, .num 0⟩, ⟨3, 1, .w1c, .num 0⟩, ⟨4, 1, .ro, .num 0⟩, ⟨5, 1, .ro, .num 0⟩, ⟨6, 1, .ro, .num 0⟩, ⟨7, 1, .w1c, .num 0⟩, ⟨8, 1, .rc, .num 0⟩]⟩,
    /- PIPE_IRQ_EN -/ ⟨0x4008, 0, 1, [⟨0, 9, .rw, .num 0⟩]⟩,
    /- PIPE_ENC -/ ⟨0x400c, 0, 1, [⟨0, 11, .rw, .num 1024⟩, ⟨16, 1, .rw, .num 1⟩, ⟨17, 1, .rw, .num 1⟩]⟩,
    /- PIPE_GOV_CTRL -/ ⟨0x4010, 0, 1, [⟨0, 14, .rw, .num 12000⟩, ⟨16, 14, .ro, .num 0⟩]⟩,
    /- PIPE_GOV_SCALE -/ ⟨0x4014, 0, 1, [⟨3, 13, .rwh, .num 4096⟩]⟩,
    /- PIPE_GOV_STATUS -/ ⟨0x4018, 0, 1, [⟨0, 16, .ro, .num 0⟩, ⟨16, 16, .ro, .num 0⟩]⟩,
    /- PIPE_TCOMP -/ ⟨0x401c, 0, 1, [⟨0, 12, .rw, .c 0⟩, ⟨12, 12, .rw, .c 0⟩, ⟨24, 1, .rw, .num 1⟩]⟩,
    /- PIPE_TCOMP_STATUS -/ ⟨0x4020, 0, 1, [⟨0, 16, .ro, .num 0⟩, ⟨16, 16, .ro, .num 0⟩]⟩,
    /- PIPE_MIX_STATUS -/ ⟨0x4024, 0, 1, [⟨0, 4, .ro, .num 0⟩]⟩,
    /- PIPE_FILL_STATUS -/ ⟨0x4028, 0, 1, [⟨0, 16, .ro, .num 0⟩, ⟨16, 1, .ro, .num 0⟩]⟩,
    /- PIPE_TCOMP_REF -/ ⟨0x402c, 0, 1, [⟨0, 16, .rw, .c 400⟩]⟩,
    /- PIPE_SGAIN -/ ⟨0x4040, 0x4, 8, [⟨0, 16, .rwh, .c 32768⟩, ⟨16, 16, .rwh, .c 32768⟩]⟩,
    /- PIPE_FILL_CNT -/ ⟨0x4060, 0x4, 8, [⟨0, 32, .cnt, .num 0⟩]⟩]

/-- The registers of block LAYER. -/
def regsLayer : List RDesc :=
  [
    /- LAYER_CTRL -/ ⟨0x5000, 0x100, 8, [⟨0, 1, .rw, .num 0⟩, ⟨1, 3, .rw, .num 0⟩, ⟨4, 1, .rw, .num 0⟩, ⟨5, 1, .rw, .num 0⟩, ⟨6, 2, .rw, .num 0⟩, ⟨8, 2, .rw, .num 0⟩, ⟨10, 2, .rw, .num 0⟩, ⟨12, 1, .rw, .num 0⟩, ⟨13, 1, .rw, .num 0⟩]⟩,
    /- LAYER_BLEND -/ ⟨0x5004, 0x100, 8, [⟨0, 2, .rw, .num 0⟩, ⟨8, 8, .rw, .num 255⟩]⟩,
    /- LAYER_POLICY -/ ⟨0x5008, 0x100, 8, [⟨0, 2, .rw, .num 1⟩, ⟨4, 1, .rw, .num 0⟩]⟩,
    /- LAYER_DST_POS -/ ⟨0x500c, 0x100, 8, [⟨0, 11, .rw, .num 0⟩, ⟨16, 10, .rw, .num 0⟩]⟩,
    /- LAYER_DST_SIZE -/ ⟨0x5010, 0x100, 8, [⟨0, 12, .rw, .num 2048⟩, ⟨16, 10, .rw, .num 640⟩]⟩,
    /- LAYER_SRC_SIZE -/ ⟨0x5014, 0x100, 8, [⟨0, 12, .rw, .num 2048⟩, ⟨16, 10, .rw, .num 640⟩]⟩,
    /- LAYER_BUF0 -/ ⟨0x5018, 0x100, 8, [⟨5, 18, .rw, .num 0⟩]⟩,
    /- LAYER_BUF1 -/ ⟨0x501c, 0x100, 8, [⟨5, 18, .rw, .num 0⟩]⟩,
    /- LAYER_T_OFF -/ ⟨0x5020, 0x100, 8, [⟨5, 18, .rw, .num 0⟩]⟩,
    /- LAYER_PITCH -/ ⟨0x5024, 0x100, 8, [⟨5, 11, .rw, .num 0⟩, ⟨21, 11, .rw, .num 0⟩]⟩,
    /- LAYER_OVL -/ ⟨0x5028, 0x100, 8, [⟨0, 16, .rw, .num 0⟩, ⟨16, 16, .rw, .num 0⟩]⟩,
    /- LAYER_STATUS -/ ⟨0x5040, 0x100, 8, [⟨0, 1, .w1c, .num 0⟩, ⟨1, 1, .w1c, .num 0⟩, ⟨2, 1, .w1c, .num 0⟩, ⟨3, 1, .w1c, .num 0⟩, ⟨4, 1, .w1c, .num 0⟩, ⟨5, 1, .w1c, .num 0⟩, ⟨6, 1, .w1c, .num 0⟩, ⟨7, 1, .w1c, .num 0⟩, ⟨8, 1, .rc, .num 0⟩, ⟨9, 1, .ro, .num 0⟩, ⟨10, 1, .ro, .num 0⟩, ⟨12, 3, .ro, .num 0⟩, ⟨16, 3, .ro, .num 0⟩, ⟨20, 2, .ro, .num 0⟩]⟩,
    /- LAYER_NR_CNT -/ ⟨0x5044, 0x100, 8, [⟨0, 32, .cnt, .num 0⟩]⟩,
    /- LAYER_COMP_CTRL -/ ⟨0x5800, 0, 1, [⟨0, 11, .rw, .num 0⟩, ⟨16, 8, .rw, .num 0⟩]⟩,
    /- LAYER_COMP_BG -/ ⟨0x5804, 0, 1, [⟨0, 16, .rw, .num 0⟩, ⟨16, 16, .rw, .num 0⟩]⟩,
    /- LAYER_COMP_STATUS -/ ⟨0x5808, 0, 1, [⟨0, 1, .ro, .num 0⟩, ⟨1, 1, .ro, .num 0⟩, ⟨8, 8, .ro, .num 0⟩]⟩,
    /- LAYER_IRQ_EN -/ ⟨0x580c, 0, 1, [⟨0, 8, .rw, .num 0⟩]⟩]

/-- The registers of block SCALE. -/
def regsScale : List RDesc :=
  [
    /- SCALE_CFG -/ ⟨0x6000, 0x100, 8, [⟨0, 3, .rw, .num 1⟩, ⟨4, 3, .rw, .num 1⟩, ⟨8, 3, .rw, .num 0⟩, ⟨12, 3, .rw, .num 0⟩]⟩,
    /- SCALE_SYM -/ ⟨0x6004, 0x100, 8, [⟨0, 8, .rw, .num 0⟩]⟩,
    /- SCALE_STATUS -/ ⟨0x6040, 0x100, 8, [⟨0, 1, .rc, .num 0⟩, ⟨4, 3, .ro, .num 0⟩]⟩,
    /- SCALE_COEF_STATUS -/ ⟨0x6800, 0, 1, [⟨0, 8, .ro, .num 0⟩]⟩,
    /- SCALE_IRQ_EN -/ ⟨0x6804, 0, 1, [⟨0, 8, .rw, .num 0⟩]⟩,
    /- SCALE_H0 -/ ⟨0x6008, 0x100, 8, [⟨0, 32, .rw, .num 65536⟩]⟩,
    /- SCALE_H1 -/ ⟨0x600c, 0x100, 8, [⟨0, 32, .rw, .num 0⟩]⟩,
    /- SCALE_H2 -/ ⟨0x6010, 0x100, 8, [⟨0, 32, .rw, .num 0⟩]⟩,
    /- SCALE_H3 -/ ⟨0x6014, 0x100, 8, [⟨0, 32, .rw, .num 0⟩]⟩,
    /- SCALE_H4 -/ ⟨0x6018, 0x100, 8, [⟨0, 32, .rw, .num 65536⟩]⟩,
    /- SCALE_H5 -/ ⟨0x601c, 0x100, 8, [⟨0, 32, .rw, .num 0⟩]⟩,
    /- SCALE_H6 -/ ⟨0x6020, 0x100, 8, [⟨0, 32, .rw, .num 0⟩]⟩,
    /- SCALE_H7 -/ ⟨0x6024, 0x100, 8, [⟨0, 32, .rw, .num 0⟩]⟩,
    /- SCALE_H8 -/ ⟨0x6028, 0x100, 8, [⟨0, 32, .rw, .num 65536⟩]⟩]

/-- The registers of block CASK. -/
def regsCask : List RDesc :=
  [
    /- CASK_STATUS -/ ⟨0x7000, 0, 1, [⟨0, 1, .ro, .num 0⟩, ⟨1, 1, .ro, .num 0⟩, ⟨2, 1, .ro, .num 0⟩, ⟨3, 1, .ro, .num 0⟩, ⟨4, 1, .w1c, .num 0⟩, ⟨5, 1, .w1c, .num 0⟩, ⟨6, 1, .w1c, .num 0⟩]⟩,
    /- CASK_RACK_PROG -/ ⟨0x7004, 0, 1, [⟨0, 9, .ro, .num 0⟩, ⟨16, 9, .ro, .num 0⟩]⟩,
    /- CASK_BEAM_CRC -/ ⟨0x7008, 0x4, 2, [⟨0, 32, .ro, .num 0⟩]⟩,
    /- CASK_BEAM_TICK -/ ⟨0x7010, 0x4, 2, [⟨0, 32, .ro, .num 0⟩]⟩,
    /- CASK_IRQ_EN -/ ⟨0x7018, 0, 1, [⟨0, 3, .rw, .num 0⟩]⟩]

/-- The registers of block LINK. -/
def regsLink : List RDesc :=
  [
    /- LINK_CTRL -/ ⟨0x8000, 0, 1, [⟨0, 4, .rwk, .num 15⟩, ⟨4, 1, .rw, .num 1⟩, ⟨8, 2, .rw, .num 2⟩, ⟨10, 2, .rw, .num 2⟩]⟩,
    /- LINK_STATUS -/ ⟨0x8004, 0, 1, [⟨0, 3, .ro, .num 0⟩, ⟨3, 3, .ro, .num 0⟩, ⟨8, 1, .w1c, .num 0⟩, ⟨9, 1, .rc, .num 0⟩, ⟨10, 1, .w1c, .num 0⟩, ⟨11, 1, .w1c, .num 0⟩, ⟨12, 1, .w1c, .num 0⟩, ⟨13, 1, .w1c, .num 0⟩, ⟨14, 1, .w1c, .num 0⟩, ⟨15, 1, .w1c, .num 0⟩, ⟨16, 1, .w1c, .num 0⟩, ⟨17, 1, .rc, .num 0⟩]⟩,
    /- LINK_IRQ_EN -/ ⟨0x8008, 0, 1, [⟨8, 10, .rw, .num 0⟩]⟩,
    /- LINK_LANE_STATE -/ ⟨0x800c, 0, 1, [⟨0, 3, .ro, .num 1⟩, ⟨8, 3, .ro, .num 1⟩, ⟨16, 3, .ro, .num 1⟩, ⟨24, 3, .ro, .num 1⟩, ⟨3, 2, .ro, .num 0⟩, ⟨11, 2, .ro, .num 0⟩, ⟨19, 2, .ro, .num 0⟩, ⟨27, 2, .ro, .num 0⟩, ⟨5, 1, .ro, .num 0⟩, ⟨13, 1, .ro, .num 0⟩, ⟨21, 1, .ro, .num 0⟩, ⟨29, 1, .ro, .num 0⟩, ⟨6, 1, .ro, .num 0⟩, ⟨14, 1, .ro, .num 0⟩, ⟨22, 1, .ro, .num 0⟩, ⟨30, 1, .ro, .num 0⟩]⟩,
    /- LINK_RL_CFG -/ ⟨0x8010, 0, 1, [⟨0, 2, .rw, .num 1⟩, ⟨2, 2, .rw, .num 0⟩, ⟨8, 1, .req, .num 0⟩]⟩,
    /- LINK_CV -/ ⟨0x8040, 0x10, 4, [⟨0, 16, .cnt, .num 0⟩, ⟨16, 16, .cnt, .num 0⟩]⟩,
    /- LINK_BLK -/ ⟨0x8044, 0x10, 4, [⟨0, 16, .cnt, .num 0⟩, ⟨16, 16, .cnt, .num 0⟩]⟩,
    /- LINK_TAPS -/ ⟨0x8048, 0x10, 4, [⟨0, 5, .ro, .num 0⟩, ⟨8, 5, .ro, .num 0⟩, ⟨16, 5, .ro, .num 0⟩, ⟨24, 8, .ro, .num 0⟩]⟩,
    /- LINK_MARGIN -/ ⟨0x804c, 0x10, 4, [⟨0, 8, .ro, .num 0⟩, ⟨8, 8, .ro, .num 0⟩, ⟨16, 16, .ro, .num 0⟩]⟩,
    /- LINK_LOST -/ ⟨0x8080, 0x10, 2, [⟨0, 32, .cnt, .num 0⟩]⟩,
    /- LINK_DISC -/ ⟨0x8084, 0x10, 2, [⟨0, 16, .cnt, .num 0⟩, ⟨16, 16, .cnt, .num 0⟩]⟩,
    /- LINK_GRD -/ ⟨0x8088, 0x10, 2, [⟨0, 16, .cnt, .num 0⟩, ⟨16, 16, .cnt, .num 0⟩]⟩,
    /- LINK_PKT -/ ⟨0x808c, 0x10, 2, [⟨0, 16, .cnt, .num 0⟩, ⟨16, 16, .cnt, .num 0⟩]⟩]

/-- The registers of block SAFE. -/
def regsSafe : List RDesc :=
  [
    /- SAFE_STATUS -/ ⟨0x9000, 0, 1, [⟨0, 2, .ro, .num 0⟩, ⟨2, 1, .ro, .num 0⟩, ⟨3, 1, .ro, .num 0⟩, ⟨4, 1, .ro, .num 0⟩, ⟨5, 1, .ro, .num 0⟩, ⟨8, 1, .w1c, .num 0⟩, ⟨9, 1, .w1c, .num 0⟩, ⟨10, 1, .w1c, .num 0⟩, ⟨11, 1, .w1c, .num 0⟩, ⟨12, 1, .w1c, .num 0⟩, ⟨13, 1, .rc, .num 0⟩, ⟨14, 1, .w1c, .num 0⟩, ⟨15, 1, .w1c, .num 0⟩, ⟨16, 1, .w1c, .num 0⟩]⟩,
    /- SAFE_CAUSE -/ ⟨0x9004, 0, 1, [⟨0, 16, .ro, .num 0⟩, ⟨16, 16, .ro, .num 0⟩]⟩,
    /- SAFE_IRQ_EN -/ ⟨0x9008, 0, 1, [⟨8, 9, .rw, .num 0⟩]⟩,
    /- SAFE_CTRL -/ ⟨0x900c, 0, 1, [⟨0, 1, .rws, .c 0⟩, ⟨8, 4, .rws, .c 3⟩]⟩,
    /- SAFE_GUARD_CFG -/ ⟨0x9010, 0, 1, [⟨0, 12, .rws, .c 500⟩, ⟨16, 4, .rws, .c 2⟩]⟩,
    /- SAFE_GUARD_LIM -/ ⟨0x9014, 0, 1, [⟨0, 4, .rws, .c 3⟩, ⟨8, 8, .rws, .c 30⟩, ⟨16, 4, .rws, .c 0⟩]⟩,
    /- SAFE_GUARD_STAT -/ ⟨0x9018, 0, 1, [⟨0, 3, .ro, .num 0⟩, ⟨4, 4, .ro, .num 0⟩, ⟨8, 8, .ro, .num 0⟩, ⟨16, 4, .ro, .num 0⟩]⟩,
    /- SAFE_GUARD_DIFF -/ ⟨0x901c, 0, 1, [⟨0, 17, .ro, .num 0⟩]⟩,
    /- SAFE_GUARD_CNT -/ ⟨0x9020, 0, 1, [⟨0, 16, .cnt, .num 0⟩, ⟨16, 16, .cnt, .num 0⟩]⟩,
    /- SAFE_IN_SB -/ ⟨0x9024, 0, 1, [⟨0, 10, .rws, .c 20⟩]⟩,
    /- SAFE_IN_DK -/ ⟨0x9028, 0, 1, [⟨0, 10, .rws, .c 20⟩]⟩,
    /- SAFE_IN_STATUS -/ ⟨0x902c, 0, 1, [⟨0, 4, .ro, .num 0⟩, ⟨4, 1, .ro, .num 0⟩, ⟨5, 1, .ro, .num 0⟩, ⟨6, 1, .ro, .num 0⟩, ⟨7, 1, .ro, .num 0⟩]⟩,
    /- SAFE_IN_NEAR -/ ⟨0x9030, 0, 1, [⟨0, 8, .cnt, .num 0⟩, ⟨8, 8, .cnt, .num 0⟩]⟩,
    /- SAFE_LIMP_CEIL -/ ⟨0x9034, 0, 1, [⟨0, 12, .rws, .c 1600⟩, ⟨16, 12, .rws, .c 1600⟩]⟩,
    /- SAFE_LIMP_CFG -/ ⟨0x9038, 0, 1, [⟨0, 14, .rws, .c 5000⟩]⟩,
    /- SAFE_LIMP_CRC -/ ⟨0x903c, 0, 1, [⟨0, 32, .rws, .c 0⟩]⟩,
    /- SAFE_WDOG_CFG -/ ⟨0x9040, 0, 1, [⟨0, 7, .rws, .c 10⟩]⟩,
    /- SAFE_SEAL_STATUS -/ ⟨0x9044, 0, 1, [⟨0, 2, .ro, .c 0⟩, ⟨2, 1, .ro, .c 0⟩, ⟨3, 1, .ro, .num 0⟩, ⟨8, 3, .ro, .num 0⟩, ⟨16, 6, .ro, .num 0⟩]⟩,
    /- SAFE_SEAL_LIVE -/ ⟨0x9048, 0, 1, [⟨0, 32, .ro, .num 0⟩]⟩,
    /- SAFE_SEAL_STORED -/ ⟨0x904c, 0, 1, [⟨0, 32, .ro, .c 0⟩]⟩] ++
  [
    /- SAFE_LOG_STATUS -/ ⟨0x9050, 0, 1, [⟨0, 16, .ro, .c 0⟩, ⟨16, 5, .ro, .num 0⟩, ⟨24, 8, .ro, .num 0⟩]⟩]

/-- The registers of block CMD. -/
def regsCmd : List RDesc :=
  [
    /- CMD_CTRL -/ ⟨0x1000, 0, 1, [⟨0, 1, .rw, .num 0⟩, ⟨1, 1, .rw, .num 0⟩]⟩,
    /- CMD_STATUS -/ ⟨0x1004, 0, 1, [⟨0, 1, .ro, .num 0⟩, ⟨1, 1, .w1c, .num 0⟩, ⟨2, 1, .w1c, .num 0⟩, ⟨3, 1, .w1c, .num 0⟩, ⟨4, 1, .w1c, .num 0⟩, ⟨5, 1, .w1c, .num 0⟩, ⟨6, 1, .rc, .num 0⟩, ⟨7, 1, .w1c, .num 0⟩]⟩,
    /- CMD_IRQ_EN -/ ⟨0x1008, 0, 1, [⟨0, 8, .rw, .num 0⟩]⟩,
    /- CMD_IRQ_SRC -/ ⟨0x100c, 0, 1, [⟨0, 20, .ro, .num 0⟩]⟩,
    /- CMD_QSTATE -/ ⟨0x1010, 0, 1, [⟨0, 5, .ro, .num 0⟩, ⟨5, 5, .ro, .num 0⟩, ⟨10, 5, .ro, .num 0⟩, ⟨15, 5, .ro, .num 0⟩, ⟨20, 5, .ro, .num 0⟩, ⟨25, 5, .ro, .num 0⟩]⟩,
    /- CMD_HSTATE -/ ⟨0x1014, 0, 1, [⟨0, 7, .ro, .num 0⟩, ⟨16, 16, .ro, .num 1⟩]⟩,
    /- CMD_CQ_STATUS -/ ⟨0x1018, 0, 1, [⟨0, 6, .ro, .num 0⟩, ⟨16, 16, .cnt, .num 0⟩]⟩,
    /- CMD_PKT_CNT -/ ⟨0x101c, 0, 1, [⟨0, 32, .cnt, .num 0⟩]⟩,
    /- CMD_ERR_CNT -/ ⟨0x1020, 0, 1, [⟨0, 8, .cnt, .num 0⟩, ⟨8, 8, .cnt, .num 0⟩, ⟨16, 8, .cnt, .num 0⟩, ⟨24, 8, .cnt, .num 0⟩]⟩]

/-- The registers of block SYS. -/
def regsSys : List RDesc :=
  [
    /- SYS_ID -/ ⟨0x0, 0, 1, [⟨0, 16, .ro, .num 4880⟩, ⟨16, 8, .ro, .num 176⟩, ⟨24, 8, .ro, .num 1⟩]⟩,
    /- SYS_STATUS -/ ⟨0x4, 0, 1, [⟨0, 1, .w1c, .num 0⟩, ⟨1, 1, .w1c, .num 0⟩, ⟨2, 1, .w1c, .num 0⟩, ⟨3, 1, .w1c, .num 0⟩, ⟨4, 1, .rc, .num 0⟩, ⟨5, 1, .ro, .num 0⟩, ⟨6, 1, .ro, .num 0⟩]⟩,
    /- SYS_IRQ_EN -/ ⟨0x8, 0, 1, [⟨0, 5, .rw, .num 0⟩]⟩,
    /- SYS_HOST_TAG -/ ⟨0xc, 0, 1, [⟨0, 32, .wo1, .num 0⟩]⟩,
    /- SYS_KEY -/ ⟨0x10, 0, 1, [⟨0, 32, .rw, .num 0⟩]⟩,
    /- SYS_COMPAT -/ ⟨0x14, 0, 1, [⟨0, 1, .rwk, .c 0⟩]⟩,
    /- SYS_LOCK_CNT -/ ⟨0x18, 0, 1, [⟨0, 16, .cnt, .num 0⟩, ⟨16, 16, .cnt, .num 0⟩]⟩,
    /- SYS_REJ_FIFO -/ ⟨0x1c, 0, 1, [⟨0, 32, .ro, .num 0⟩]⟩,
    /- SYS_PARITY_ADDR -/ ⟨0x20, 0, 1, [⟨0, 17, .ro, .num 0⟩, ⟨31, 1, .ro, .num 0⟩]⟩,
    /- SYS_PARITY_CNT -/ ⟨0x24, 0, 1, [⟨0, 16, .cnt, .num 0⟩]⟩,
    /- SYS_WRITE_LOST_ADDR -/ ⟨0x28, 0, 1, [⟨0, 17, .ro, .num 0⟩]⟩,
    /- SYS_UNLOCK -/ ⟨0x2c, 0, 1, [⟨0, 5, .ro, .num 0⟩, ⟨8, 1, .ro, .num 0⟩, ⟨9, 2, .ro, .num 0⟩, ⟨16, 10, .ro, .num 0⟩]⟩]

/-- The registers of block MEM. -/
def regsMem : List RDesc :=
  [
    /- MEM_CTRL -/ ⟨0xa000, 0, 1, [⟨0, 16, .rw, .num 1024⟩, ⟨16, 16, .rw, .num 256⟩]⟩,
    /- MEM_STATUS -/ ⟨0xa004, 0, 1, [⟨0, 1, .w1c, .num 0⟩, ⟨1, 1, .w1c, .num 0⟩, ⟨2, 1, .w1c, .num 0⟩, ⟨3, 1, .w1c, .num 0⟩, ⟨4, 1, .ro, .num 0⟩]⟩,
    /- MEM_IRQ_EN -/ ⟨0xa008, 0, 1, [⟨0, 4, .rw, .num 0⟩]⟩,
    /- MEM_INMAP -/ ⟨0xa00c, 0, 1, [⟨0, 3, .rwk, .num 0⟩, ⟨4, 3, .rwk, .num 1⟩, ⟨8, 3, .rwk, .num 2⟩, ⟨12, 3, .rwk, .num 3⟩, ⟨16, 3, .rwk, .num 4⟩, ⟨20, 3, .rwk, .num 5⟩, ⟨24, 3, .rwk, .num 6⟩]⟩,
    /- MEM_INMAP_EFF -/ ⟨0xa010, 0, 1, [⟨0, 3, .ro, .num 0⟩, ⟨4, 3, .ro, .num 1⟩, ⟨8, 3, .ro, .num 2⟩, ⟨12, 3, .ro, .num 3⟩, ⟨16, 3, .ro, .num 4⟩, ⟨20, 3, .ro, .num 5⟩, ⟨24, 3, .ro, .num 6⟩]⟩,
    /- MEM_STUCK_INFO -/ ⟨0xa014, 0, 1, [⟨0, 5, .ro, .num 0⟩, ⟨8, 3, .ro, .num 0⟩, ⟨12, 3, .ro, .num 0⟩, ⟨16, 16, .ro, .num 0⟩]⟩,
    /- MEM_STARVE_INFO -/ ⟨0xa018, 0, 1, [⟨0, 5, .ro, .num 0⟩, ⟨8, 3, .ro, .num 0⟩, ⟨12, 3, .ro, .num 0⟩, ⟨16, 16, .ro, .num 0⟩]⟩,
    /- MEM_RET_MASK -/ ⟨0xa01c, 0, 1, [⟨0, 28, .ro, .p⟩]⟩,
    /- MEM_WAKE_RETENTION_LOSS -/ ⟨0xa020, 0, 1, [⟨0, 28, .ro, .p⟩]⟩,
    /- MEM_BURST_0 -/ ⟨0xa040, 0, 1, [⟨0, 9, .rw, .num 4⟩]⟩,
    /- MEM_BURST_1 -/ ⟨0xa044, 0, 1, [⟨0, 9, .rw, .num 8⟩]⟩,
    /- MEM_BURST_2 -/ ⟨0xa048, 0, 1, [⟨0, 9, .rw, .num 8⟩]⟩,
    /- MEM_BURST_3 -/ ⟨0xa04c, 0, 1, [⟨0, 9, .rw, .num 16⟩]⟩,
    /- MEM_BURST_4 -/ ⟨0xa050, 0, 1, [⟨0, 9, .rw, .num 32⟩]⟩,
    /- MEM_BURST_5 -/ ⟨0xa054, 0, 1, [⟨0, 9, .rw, .num 16⟩]⟩,
    /- MEM_BURST_6 -/ ⟨0xa058, 0, 1, [⟨0, 9, .rw, .num 64⟩]⟩,
    /- MEM_BURST_7 -/ ⟨0xa05c, 0, 1, [⟨0, 9, .rw, .num 16⟩]⟩,
    /- MEM_RET_CRC -/ ⟨0xa080, 0x4, 28, [⟨0, 32, .ro, .p⟩]⟩]

/-- The registers of block CELLAR. -/
def regsCellar : List RDesc :=
  [
    /- CELLAR_CTRL -/ ⟨0xb000, 0, 1, [⟨0, 1, .rw, .num 1⟩]⟩,
    /- CELLAR_STATUS -/ ⟨0xb004, 0, 1, [⟨0, 1, .ro, .num 0⟩, ⟨1, 1, .ro, .num 0⟩, ⟨2, 1, .w1c, .num 0⟩, ⟨3, 1, .w1c, .num 0⟩, ⟨4, 1, .w1c, .num 0⟩, ⟨5, 1, .w1c, .num 0⟩, ⟨6, 1, .w1c, .num 0⟩, ⟨7, 1, .w1c, .num 0⟩, ⟨8, 1, .rc, .num 0⟩, ⟨9, 1, .rc, .num 0⟩, ⟨10, 1, .w1c, .num 0⟩]⟩,
    /- CELLAR_IRQ_EN -/ ⟨0xb008, 0, 1, [⟨2, 9, .rw, .num 0⟩]⟩,
    /- CELLAR_PROG -/ ⟨0xb00c, 0, 1, [⟨0, 16, .ro, .num 0⟩, ⟨16, 16, .ro, .num 0⟩]⟩,
    /- CELLAR_JOURNAL -/ ⟨0xb010, 0, 1, [⟨0, 2, .ro, .num 0⟩, ⟨4, 3, .ro, .num 0⟩, ⟨8, 11, .ro, .c 0⟩]⟩,
    /- CELLAR_ECC_CNT -/ ⟨0xb014, 0, 1, [⟨0, 16, .cnt, .num 0⟩, ⟨16, 16, .cnt, .num 0⟩]⟩,
    /- CELLAR_ECC_ADDR -/ ⟨0xb018, 0, 1, [⟨0, 23, .ro, .num 0⟩]⟩,
    /- CELLAR_SPARE_WEAR -/ ⟨0xb01c, 0, 1, [⟨0, 32, .ro, .c 0⟩]⟩,
    /- CELLAR_STORE_CNT -/ ⟨0xb020, 0, 1, [⟨0, 32, .cnt, .num 0⟩]⟩]

/-- The registers of block POWER. -/
def regsPower : List RDesc :=
  [
    /- POWER_CTRL -/ ⟨0xc000, 0, 1, [⟨0, 2, .rw, .c 3⟩, ⟨4, 1, .rw, .num 1⟩]⟩,
    /- POWER_STATUS -/ ⟨0xc004, 0, 1, [⟨0, 2, .ro, .num 0⟩, ⟨2, 2, .ro, .num 0⟩, ⟨4, 1, .ro, .num 0⟩, ⟨5, 1, .ro, .num 0⟩, ⟨8, 1, .w1c, .num 0⟩, ⟨9, 1, .ro, .num 0⟩, ⟨10, 1, .w1c, .num 0⟩, ⟨11, 1, .w1c, .num 0⟩, ⟨12, 1, .rc, .num 0⟩, ⟨13, 1, .w1c, .num 0⟩, ⟨14, 1, .rc, .num 0⟩, ⟨15, 1, .rc, .num 0⟩, ⟨16, 1, .w1c, .num 0⟩, ⟨17, 1, .w1c, .num 0⟩]⟩,
    /- POWER_IRQ_EN -/ ⟨0xc008, 0, 1, [⟨8, 10, .rw, .num 0⟩]⟩,
    /- POWER_VLED_CFG -/ ⟨0xc00c, 0, 1, [⟨0, 12, .rw, .num 2750⟩, ⟨12, 8, .rw, .num 20⟩, ⟨20, 8, .rw, .num 50⟩]⟩,
    /- POWER_VLED_STATUS -/ ⟨0xc010, 0, 1, [⟨0, 13, .ro, .num 0⟩, ⟨16, 13, .ro, .num 0⟩]⟩,
    /- POWER_VLED_TRIM -/ ⟨0xc014, 0, 1, [⟨0, 10, .rwh, .num 0⟩]⟩,
    /- POWER_LED_ILIM -/ ⟨0xc018, 0, 1, [⟨0, 14, .rwk, .num 13000⟩]⟩,
    /- POWER_LED_PHASE -/ ⟨0xc01c, 0, 1, [⟨0, 8, .ro, .num 0⟩, ⟨8, 8, .ro, .num 0⟩, ⟨16, 8, .ro, .num 0⟩, ⟨24, 8, .ro, .num 0⟩]⟩,
    /- POWER_SUPPLY_MEAS -/ ⟨0xc020, 0, 1, [⟨0, 13, .ro, .num 0⟩, ⟨16, 16, .ro, .num 0⟩]⟩,
    /- POWER_WAKE -/ ⟨0xc024, 0, 1, [⟨0, 8, .ro, .num 128⟩, ⟨16, 8, .ro, .p⟩]⟩,
    /- POWER_WAKE_MS -/ ⟨0xc028, 0, 1, [⟨0, 32, .ro, .num 0⟩]⟩,
    /- POWER_TIME -/ ⟨0xc02c, 0, 1, [⟨0, 2, .ro, .p⟩, ⟨2, 1, .ro, .p⟩, ⟨3, 1, .ro, .p⟩]⟩,
    /- POWER_AON_CAL -/ ⟨0xc030, 0, 1, [⟨0, 32, .ro, .p⟩]⟩,
    /- POWER_AON_CNT -/ ⟨0xc034, 0, 1, [⟨0, 32, .ro, .p⟩]⟩,
    /- POWER_REFUSE -/ ⟨0xc038, 0, 1, [⟨0, 20, .ro, .num 0⟩]⟩,
    /- POWER_SFCLK -/ ⟨0xc03c, 0, 1, [⟨0, 16, .ro, .num 0⟩]⟩]

/-- The registers of block THERM. -/
def regsTherm : List RDesc :=
  [
    /- THERM_CTRL -/ ⟨0xd000, 0, 1, [⟨0, 2, .rw, .c 0⟩]⟩,
    /- THERM_STATUS -/ ⟨0xd004, 0, 1, [⟨0, 1, .rc, .num 0⟩, ⟨1, 1, .rc, .num 0⟩, ⟨2, 1, .rc, .num 0⟩, ⟨3, 1, .rc, .num 0⟩, ⟨4, 1, .w1c, .num 0⟩, ⟨5, 1, .w1c, .num 0⟩, ⟨6, 1, .w1c, .num 0⟩, ⟨7, 1, .rc, .num 0⟩, ⟨8, 1, .w1c, .num 0⟩]⟩,
    /- THERM_IRQ_EN -/ ⟨0xd008, 0, 1, [⟨0, 9, .rw, .num 0⟩]⟩,
    /- THERM_ARRAY_THR -/ ⟨0xd00c, 0, 1, [⟨0, 8, .rws, .c 110⟩, ⟨8, 8, .rws, .c 120⟩, ⟨16, 8, .rws, .c 135⟩]⟩,
    /- THERM_LOGIC_THR -/ ⟨0xd010, 0, 1, [⟨0, 8, .rws, .c 115⟩, ⟨8, 8, .rws, .c 125⟩, ⟨16, 8, .rws, .c 150⟩]⟩,
    /- THERM_THROTTLE -/ ⟨0xd014, 0, 1, [⟨0, 16, .ro, .num 32768⟩, ⟨16, 1, .ro, .num 0⟩, ⟨17, 1, .ro, .num 0⟩, ⟨18, 1, .ro, .num 0⟩]⟩,
    /- THERM_FAIL -/ ⟨0xd018, 0, 1, [⟨0, 26, .ro, .num 0⟩]⟩,
    /- THERM_MAX -/ ⟨0xd01c, 0, 1, [⟨0, 16, .ro, .num 0⟩, ⟨16, 5, .ro, .num 0⟩]⟩,
    /- THERM_REGION -/ ⟨0xd020, 0, 1, [⟨0, 16, .ro, .num 0⟩, ⟨16, 16, .ro, .num 0⟩]⟩,
    /- THERM_NTC_CFG -/ ⟨0xd024, 0x4, 2, [⟨0, 13, .rw, .num 3950⟩, ⟨13, 3, .rw, .num 0⟩, ⟨16, 8, .rw, .num 100⟩, ⟨24, 8, .rw, .num 90⟩]⟩,
    /- THERM_NTC_T -/ ⟨0xd02c, 0, 1, [⟨0, 16, .ro, .num 0⟩, ⟨16, 16, .ro, .num 0⟩]⟩,
    /- THERM_T -/ ⟨0xd040, 0x4, 24, [⟨0, 16, .ro, .num 0⟩, ⟨16, 1, .ro, .num 0⟩, ⟨17, 1, .ro, .num 0⟩]⟩]

/-- The registers of block CAL. -/
def regsCal : List RDesc :=
  [
    /- CAL_CTRL -/ ⟨0xe000, 0, 1, [⟨0, 1, .rw, .c 1⟩, ⟨1, 1, .rw, .c 1⟩, ⟨4, 3, .rw, .c 4⟩, ⟨8, 4, .rw, .c 4⟩, ⟨16, 12, .rw, .c 512⟩]⟩,
    /- CAL_STATUS -/ ⟨0xe004, 0, 1, [⟨0, 2, .ro, .num 0⟩, ⟨2, 1, .ro, .num 0⟩, ⟨3, 1, .ro, .c 0⟩, ⟨8, 1, .w1c, .num 0⟩, ⟨9, 1, .w1c, .num 0⟩, ⟨10, 1, .w1c, .num 0⟩, ⟨11, 1, .w1c, .num 0⟩, ⟨13, 2, .ro, .num 0⟩]⟩,
    /- CAL_IRQ_EN -/ ⟨0xe008, 0, 1, [⟨8, 4, .rw, .num 0⟩]⟩,
    /- CAL_REF_T -/ ⟨0xe00c, 0, 1, [⟨0, 16, .ro, .c 0⟩]⟩,
    /- CAL_LAST -/ ⟨0xe010, 0, 1, [⟨0, 16, .ro, .num 0⟩, ⟨16, 16, .ro, .num 0⟩]⟩,
    /- CAL_FIT -/ ⟨0xe040, 0x4, 8, [⟨0, 16, .ro, .num 0⟩, ⟨16, 16, .ro, .num 0⟩]⟩,
    /- CAL_BFIT -/ ⟨0xe060, 0x4, 8, [⟨0, 16, .ro, .num 0⟩, ⟨16, 16, .ro, .num 0⟩]⟩]

/-- The registers of block MON. -/
def regsMon : List RDesc :=
  [
    /- MON_STATUS -/ ⟨0xf000, 0, 1, [⟨0, 8, .w1c, .num 0⟩, ⟨8, 1, .w1c, .num 0⟩]⟩,
    /- MON_IRQ_EN -/ ⟨0xf004, 0, 1, [⟨0, 9, .rw, .num 0⟩]⟩,
    /- MON_SIG_MISS -/ ⟨0xf008, 0, 1, [⟨0, 16, .w1c, .num 0⟩, ⟨16, 16, .ro, .num 0⟩]⟩,
    /- MON_HIST_STATE -/ ⟨0xf00c, 0, 1, [⟨0, 8, .ro, .num 0⟩, ⟨8, 8, .ro, .num 0⟩]⟩,
    /- MON_SIG_X -/ ⟨0xf100, 0x10, 16, [⟨0, 11, .ro, .num 0⟩, ⟨16, 11, .ro, .num 0⟩]⟩,
    /- MON_SIG_Y -/ ⟨0xf104, 0x10, 16, [⟨0, 10, .ro, .num 0⟩, ⟨16, 10, .ro, .num 0⟩, ⟨28, 1, .ro, .num 0⟩, ⟨29, 1, .ro, .num 0⟩, ⟨30, 1, .ro, .num 0⟩]⟩,
    /- MON_SIG_EXPECT -/ ⟨0xf108, 0x10, 16, [⟨0, 32, .ro, .num 0⟩]⟩,
    /- MON_SIG_VALUE -/ ⟨0xf10c, 0x10, 16, [⟨0, 32, .ro, .num 0⟩]⟩,
    /- MON_SIG_CNT -/ ⟨0xf200, 0x4, 16, [⟨0, 16, .cnt, .num 0⟩, ⟨16, 16, .cnt, .num 0⟩]⟩]

/-- The registers of block CRC. -/
def regsCrc : List RDesc :=
  [
    /- CRC_STATUS -/ ⟨0x10000, 0, 1, [⟨0, 1, .w1c, .num 0⟩, ⟨1, 1, .w1c, .num 0⟩, ⟨2, 1, .w1c, .num 0⟩, ⟨3, 1, .ro, .num 0⟩]⟩,
    /- CRC_IRQ_EN -/ ⟨0x10004, 0, 1, [⟨0, 3, .rw, .num 0⟩]⟩,
    /- CRC_CTRL -/ ⟨0x10010, 0x10, 4, [⟨0, 2, .rw, .num 1⟩, ⟨8, 1, .req, .num 0⟩, ⟨16, 2, .rw, .num 0⟩]⟩,
    /- CRC_DATA -/ ⟨0x10014, 0x10, 4, [⟨0, 32, .rw, .num 0⟩]⟩,
    /- CRC_VALUE -/ ⟨0x10018, 0x10, 4, [⟨0, 32, .ro, .num 0⟩]⟩,
    /- CRC_COUNT -/ ⟨0x1001c, 0x10, 4, [⟨0, 32, .ro, .num 0⟩]⟩,
    /- CRC_SCAN_CTRL -/ ⟨0x10080, 0, 1, [⟨0, 1, .rw, .num 1⟩, ⟨2, 2, .ro, .num 0⟩, ⟨4, 1, .ro, .num 0⟩]⟩,
    /- CRC_SCAN_CRC -/ ⟨0x10084, 0, 1, [⟨0, 32, .ro, .num 0⟩]⟩,
    /- CRC_SCAN_COUNT -/ ⟨0x10088, 0, 1, [⟨0, 32, .ro, .num 0⟩]⟩]

/-- The registers of block BIST. -/
def regsBist : List RDesc :=
  [
    /- BIST_STATUS -/ ⟨0x13000, 0, 1, [⟨0, 2, .ro, .num 0⟩, ⟨2, 1, .ro, .num 0⟩, ⟨8, 1, .w1c, .num 0⟩, ⟨9, 1, .w1c, .num 0⟩, ⟨10, 1, .w1c, .num 0⟩]⟩,
    /- BIST_IRQ_EN -/ ⟨0x13004, 0, 1, [⟨8, 3, .rw, .num 0⟩]⟩,
    /- BIST_PLAN_CFG -/ ⟨0x13008, 0, 1, [⟨0, 16, .ro, .c 65535⟩, ⟨16, 1, .ro, .c 0⟩]⟩,
    /- BIST_PROG -/ ⟨0x1300c, 0, 1, [⟨0, 4, .ro, .num 0⟩, ⟨7, 1, .ro, .num 0⟩, ⟨16, 16, .ro, .num 0⟩]⟩]

/-- The registers of block GROUP. -/
def regsGroup : List RDesc :=
  [
    /- GROUP_CFG -/ ⟨0x11000, 0, 1, [⟨0, 2, .ro, .num 0⟩, ⟨4, 2, .ro, .num 0⟩, ⟨8, 3, .ro, .num 1⟩]⟩,
    /- GROUP_STATUS -/ ⟨0x11004, 0, 1, [⟨0, 1, .rc, .num 0⟩, ⟨1, 1, .rc, .num 0⟩, ⟨2, 1, .rc, .num 0⟩, ⟨3, 1, .rc, .num 0⟩, ⟨4, 1, .rc, .num 0⟩, ⟨5, 1, .w1c, .num 0⟩, ⟨6, 1, .rc, .num 0⟩, ⟨7, 1, .w1c, .num 0⟩, ⟨8, 4, .ro, .num 0⟩, ⟨12, 3, .ro, .num 0⟩]⟩,
    /- GROUP_IRQ_EN -/ ⟨0x11008, 0, 1, [⟨0, 8, .rw, .num 0⟩]⟩,
    /- GROUP_SAFE_CFG -/ ⟨0x1100c, 0, 1, [⟨0, 2, .rws, .c 1⟩, ⟨4, 1, .rws, .c 1⟩]⟩,
    /- GROUP_PHASE -/ ⟨0x11010, 0, 1, [⟨0, 32, .ro, .num 0⟩]⟩,
    /- GROUP_CNT -/ ⟨0x11014, 0, 1, [⟨0, 16, .cnt, .num 0⟩, ⟨16, 16, .cnt, .num 0⟩]⟩,
    /- GROUP_WORD_LO -/ ⟨0x11020, 0x8, 4, [⟨0, 32, .ro, .num 0⟩]⟩,
    /- GROUP_WORD_HI -/ ⟨0x11024, 0x8, 4, [⟨0, 32, .ro, .num 0⟩]⟩]

/-- The registers of block SAT. -/
def regsSat : List RDesc :=
  [
    /- SAT_CTRL -/ ⟨0x12000, 0, 1, [⟨0, 1, .rw, .c 1⟩, ⟨1, 1, .rw, .c 0⟩, ⟨2, 2, .rw, .c 2⟩]⟩,
    /- SAT_STATUS -/ ⟨0x12004, 0, 1, [⟨0, 1, .ro, .num 0⟩, ⟨1, 1, .w1c, .num 0⟩, ⟨2, 1, .w1c, .num 0⟩, ⟨3, 1, .rc, .num 0⟩, ⟨4, 1, .ro, .num 1⟩]⟩,
    /- SAT_IRQ_EN -/ ⟨0x12008, 0, 1, [⟨1, 3, .rw, .num 0⟩]⟩,
    /- SAT_CFG -/ ⟨0x1200c, 0, 1, [⟨0, 7, .ro, .num 0⟩, ⟨8, 2, .ro, .num 0⟩, ⟨12, 1, .ro, .num 0⟩, ⟨13, 1, .ro, .num 0⟩]⟩,
    /- SAT_CLASS -/ ⟨0x12010, 0, 1, [⟨0, 2, .rw, .c 0⟩, ⟨2, 2, .rw, .c 0⟩, ⟨4, 2, .rw, .c 0⟩]⟩,
    /- SAT_TREF -/ ⟨0x12014, 0, 1, [⟨0, 16, .rw, .c 400⟩]⟩,
    /- SAT_SKIP_CNT -/ ⟨0x12018, 0, 1, [⟨0, 32, .cnt, .num 0⟩]⟩,
    /- SAT_FRAME -/ ⟨0x1201c, 0, 1, [⟨0, 16, .ro, .num 0⟩]⟩,
    /- SAT_ALPHA -/ ⟨0x12020, 0x4, 4, [⟨0, 16, .rw, .c 0⟩]⟩]

/-- The registers of block BOOT. -/
def regsBoot : List RDesc :=
  [
    /- SYS_BOOT_CAUSE -/ ⟨0x100, 0, 1, [⟨0, 4, .ro, .num 0⟩, ⟨4, 4, .ro, .num 0⟩, ⟨8, 1, .ro, .num 0⟩, ⟨9, 1, .ro, .num 0⟩, ⟨10, 1, .ro, .num 0⟩, ⟨11, 1, .ro, .num 0⟩, ⟨12, 1, .ro, .num 0⟩, ⟨13, 1, .ro, .num 0⟩, ⟨14, 1, .ro, .num 0⟩, ⟨15, 1, .ro, .num 0⟩, ⟨16, 4, .ro, .num 0⟩, ⟨20, 1, .ro, .num 0⟩]⟩,
    /- SYS_BOOT_HOLD -/ ⟨0x104, 0, 1, [⟨0, 32, .ro, .num 0⟩]⟩,
    /- SYS_BOOT_TIME -/ ⟨0x108, 0, 1, [⟨0, 32, .ro, .num 0⟩]⟩,
    /- SYS_BOOT_LOAD -/ ⟨0x10c, 0, 1, [⟨0, 2, .ro, .num 0⟩, ⟨2, 2, .ro, .num 0⟩, ⟨4, 2, .ro, .num 0⟩, ⟨6, 2, .ro, .num 0⟩, ⟨8, 2, .ro, .num 0⟩, ⟨10, 2, .ro, .num 0⟩, ⟨12, 2, .ro, .num 0⟩]⟩,
    /- SYS_BOOT_FW -/ ⟨0x110, 0, 1, [⟨0, 1, .ro, .num 0⟩, ⟨8, 24, .ro, .num 0⟩]⟩,
    /- SYS_BOOT_SEAL -/ ⟨0x114, 0, 1, [⟨0, 32, .ro, .num 0⟩]⟩,
    /- SYS_BOOT_RET -/ ⟨0x118, 0, 1, [⟨0, 28, .ro, .num 0⟩]⟩,
    /- SYS_BOOT_BIST -/ ⟨0x11c, 0, 1, [⟨0, 16, .ro, .num 0⟩, ⟨16, 16, .ro, .num 0⟩]⟩,
    /- SYS_BOOT_COUNT -/ ⟨0x120, 0, 1, [⟨0, 16, .ro, .p⟩, ⟨16, 4, .ro, .p⟩]⟩]

/-- The whole register map (R342). -/
def regTable : List RDesc :=
  regsTick ++ regsArray ++ regsPipe ++ regsLayer ++ regsScale ++ regsCask ++ regsLink ++ regsSafe ++ regsCmd ++ regsSys ++ regsMem ++ regsCellar ++ regsPower ++ regsTherm ++ regsCal ++ regsMon ++ regsCrc ++ regsBist ++ regsGroup ++ regsSat ++ regsBoot

/-- The fields of the register at address `a`, if a register stands there. -/
def RDesc.holds (d : RDesc) (a : Nat) : Bool :=
  d.base ≤ a && (if d.count = 1 then a == d.base else (a - d.base) % d.stride == 0 && (a - d.base) / d.stride < d.count)

/-- The descriptor fields at an address; `none` where no register stands (R284). -/
def regFields (a : Nat) : Option (List FDesc) := (regTable.find? (·.holds a)).map (·.fields)

/-- What the Reset column gives a field before any load: a C field reads 0 until its load (R18). -/
def Rst.word : Rst → Nat
  | .num v => v
  | .c _ => 0
  | .p => 0

/-- The reset word of the register at address `a`; 0 where no register stands. -/
def regReset (a : Nat) : Word :=
  match regFields a with
  | none => 0
  | some fs => BitVec.ofNat 32 (fs.foldl (fun acc f => acc + f.rst.word * 2 ^ f.lo) 0)

end Sys2Proof.Machine
end

