-- ==== Sys2Proof/Machine/State.lean ====
section
/-!
DEFINITION. The state of the block: the register map, then for every chapter of the spec what the part holds beside
its registers, the pins it drives, and the queue of waiting commands. Times are ns of `now`; addresses, counts and
field values are `Nat`; register contents and bytes are bit vectors.
-/
namespace Sys2Proof.Machine

/-- The FSYNC tracker (R44 to R47). Times are in ns of `now`. -/
structure FsyncSt where
  /-- 0 not selected, 1 SEARCH, 2 LOCKED, 3 HOLDOVER -/
  st : Nat
  /-- consecutive valid edges since the last one that was not valid or was missed -/
  valid : Nat
  lastEdge : Option Nat
  /-- last measured interval between active edges, ns -/
  interval : Nat
  /-- last valid phase error, ns -/
  err : Int
  /-- an edge was accepted since the last tick that has not yet set a period -/
  fresh : Bool
  /-- frames in HOLDOVER without a valid edge -/
  misses : Nat
  /-- consecutive valid edges with |e| at most 5 us -/
  lockCnt : Nat
  /-- acquisition (R45): 0 none, 1 the next frame is to be stretched, 2 the stretched frame is in progress -/
  stretch : Nat
  deriving DecidableEq, Repr

/-- The tick generator and the time base (R30 to R55, R501). -/
structure TickSt where
  tb : BitVec 64
  tbShadow : Word
  tstamp : BitVec 64
  tstampShadow : Word
  /-- combination in force (R35) -/
  hz : Nat
  nsf : Nat
  /-- combination taken at the start of the pass (R35, R501), for the next tick -/
  rateNext : Option (Nat × Nat)
  /-- a refused combination was sampled; RATE_REJECT is set at the tick -/
  rateBad : Bool
  /-- tick source in force: 0 free-run, 1 FSYNC, 2 group follower -/
  src : Nat
  /-- length of the frame in progress, ns (R32) -/
  frameLen : Nat
  /-- fractional accumulator of the free-run period -/
  frac : Nat
  /-- `now` at the tick that began the frame; none before the first tick -/
  tickAt : Option Nat
  fs : FsyncSt
  /-- prediction pass in progress (R36) and finished for the coming tick -/
  passRunning : Bool
  /-- the pass waits for the reconciliation of its guard (R38, R39) -/
  passWait : Bool
  passDone : Bool
  /-- the settings of the coming frame were taken at a pass start (R501) -/
  taken : Bool
  /-- the composition of the coming frame was not on time (R40) -/
  overrun : Bool
  /-- effective guard deadline of the coming frame in ns before its tick, fixed at the last tick (R38, R39, R215) -/
  deadline : Nat
  /-- dark slot of this frame (latched, R48) and whether it is in progress -/
  darkLen : Nat
  darkOff : Nat
  dark : Bool
  /-- latched TICK_OUT_CFG (R41, R49) -/
  outMode : Nat
  outPol : Nat
  outPulse : Nat
  /-- intervals of `now` in which TICK_OUT is active by mode 1 and by mode 2 -/
  outTick : Option (Nat × Nat)
  outDark : Option (Nat × Nat)
  /-- slot in progress: bank = slot mod 8, sub-frame = slot / 8; none before the first slot -/
  slot : Option Nat
  /-- the frame in progress is a group hold frame (R448) -/
  hold : Bool
  deriving DecidableEq, Repr

/-- A rectangle of rows `y0` to `y1` and column groups `g0` to `g1`, both inclusive; empty if a pair is out of order. -/
structure Rect where
  y0 : Nat
  y1 : Nat
  g0 : Nat
  g1 : Nat
  deriving DecidableEq, Repr

/-- A cut window as the gate controller holds it (R73 to R77). -/
structure Cut where
  rect : Rect
  en : Bool
  deriving DecidableEq, Repr

/-- One emitter: column, row, colour (false warm, true cool). -/
structure Emitter where
  x : Nat
  y : Nat
  cool : Bool
  deriving DecidableEq, Repr

/-- A fault candidate (R84): kind false OPEN, true SHORT, and the consecutive reads so far. -/
structure Cand where
  em : Emitter
  short : Bool
  reads : Nat
  deriving DecidableEq, Repr

/-- An entry of the fault list (R86). -/
structure FaultEnt where
  em : Emitter
  short : Bool
  tick : Word
  deriving DecidableEq, Repr

/-- An update of a cut window by a path (R75): set with all fields, clear, or a write of ARRAY_CUT_COLS with the rows staged. -/
inductive CutOp where
  | set (r : Rect)
  | clear
  | cols (g0 g1 : Nat) (en : Bool)
  deriving DecidableEq, Repr

/-- A cut window with the rows that its ARRAY_CUT_ROWS shows, which may be staged (R75). -/
structure CutView where
  y0 : Nat
  y1 : Nat
  cut : Cut
  deriving DecidableEq, Repr

/-- Updates of a window from the SPI port in one core cycle: the window as it stands without them, and the updates
in order (R76). -/
structure CutTie where
  w : Nat
  cycle : Nat
  base : CutView
  ops : List CutOp
  deriving DecidableEq, Repr

/-- The faults confirmed in a core cycle, and how many of them joined the fault list, as its last entries (R313). -/
structure Confirmed where
  cycle : Nat
  faults : List FaultEnt
  joined : Nat
  deriving DecidableEq, Repr

/-- A release of a killed row in a core cycle: its handle, the row's SRC and the rows killed before it, and the rows
before it in the persist list if the release took it out (R91, R314). -/
structure RowRelease where
  row : Nat
  h : Nat
  cycle : Nat
  host : Bool
  before : List Nat
  persist : Option (List Nat)
  deriving DecidableEq, Repr

/-- The array interface and the gate controller (R56 to R92). -/
structure ArraySt where
  /-- the loaded ramp table (R60); meaningful while ARRAY_RAMP_CTRL.LOADED -/
  ramp : List Nat
  /-- in-pixel codes, keyed by (y * 2048 + x) * 2 + colour; an unlisted code is 0 -/
  codes : List (Nat × BitVec 11)
  /-- banks whose ramp is parked (R63) and whose SHORT latches are armed (R64) -/
  parked : List Nat
  armed : List Nat
  /-- the 16 windows in force -/
  cuts : List Cut
  /-- released segments that RELEASE_SYNC keeps dark: the bank, the rectangle left, and whether a window of the bank
  that was open at the release has to end first (R80) -/
  held : List (Nat × Rect × Bool)
  /-- segments that have been off ever since the bank's lit interval began, rows open ever since then, and the ramp table and
  N_W of the frame before this one (R82) -/
  litBar : List (Nat × Rect)
  litRows : List Nat
  litRamp : List Nat × Nat
  /-- what the SPI port did to windows in the last core cycle in which it updated any (R76) -/
  cutSpi : List CutTie
  /-- rows that ROW_KILL has killed, with the core cycle, and rows that it has released (R91) -/
  kills : List (Nat × Nat)
  releases : List RowRelease
  cands : List Cand
  faults : List FaultEnt
  /-- the confirmations of the last core cycle that had any (R313) -/
  confirmed : Confirmed
  /-- the killed rows in order of killing, with SRC (R90) -/
  killed : List (Nat × Bool)
  /-- released rows whose anode supply is still open (R91) -/
  reopen : List Nat
  /-- the persist list (R314) -/
  persist : List Nat
  /-- rows in force that were completed with fill codes: (row, strip) (R413) -/
  fillRows : List (Nat × Nat)
  deriving DecidableEq, Repr

/-- The display settings that a prediction pass takes and the frame then uses (R501), with the latched temperatures
(R110) and budget (R103). Lists over bank and colour are indexed 2 b + c, over strip and colour 2 s + c. -/
structure DispSet where
  hz : Nat
  nsf : Nat
  nW : Nat
  /-- the table in force: the default of N_W or the loaded one (R61) -/
  ramp : List Nat
  rampLoaded : Bool
  split : Nat
  dither : Bool
  rotate : Bool
  base : List Nat
  trim : List Nat
  tc : List Nat
  sgain : List Nat
  tcompEn : Bool
  alphaW : Nat
  alphaC : Nat
  temps : List Int
  mean : Int
  budget : Nat
  deriving DecidableEq, Repr

/-- The strip engines, the governor and the fill unit (R93 to R123). -/
structure PipeSt where
  /-- mix tables 0 to 3 as loaded: (table, 256 pairs MW, MC); an absent table holds the default content (R95) -/
  mix : List (Nat × List (Nat × Nat))
  /-- the settings taken at the pass start, for the coming frame -/
  next : Option DispSet
  /-- the settings of the frame on display -/
  disp : DispSet
  /-- governor scale of the frame on display (G) and TICK_COUNT of that frame -/
  scale : Nat
  frame : Nat
  /-- the governor's result of the pass for the coming frame: the cap of R105 -/
  govS : Option Nat
  /-- terms of the frame on display (R102) and of the coming frame -/
  cur : Terms
  nextTerms : Terms
  /-- limp beam W tables, indexed as `Terms.w` (R107) -/
  limpW : List (List Nat)
  /-- predictions stay unmet: the cause of GOV_UNMET (R104) -/
  unmet : Bool
  /-- the fill unit drives the whole face until R121 ends it -/
  fillAll : Bool
  /-- no composed frame has been on display since a reset, a wake or an exit from IDLE (R469) -/
  noFrame : Bool
  /-- the composition in progress, and the frame on display, began after fillAll was set -/
  compFresh : Bool
  dispFresh : Bool
  /-- limp scale G is pending for the first tick after entry (R120) -/
  limpTick : Bool
  /-- the trim map is valid (R109) -/
  trimValid : Bool
  deriving DecidableEq, Repr

/-- The words of one layer's LAYER set (offsets 0x00 to 0x28) and SCALE set (0x00 to 0x28), as latched (R139, R150). -/
structure LayerCfg where
  lay : List Word
  sc : List Word
  deriving DecidableEq, Repr

/-- What link ingest keeps for one layer buffer beside its state code (R133). -/
structure BufRec where
  damaged : Bool
  eofPrimary : Bool
  eofT : Bool
  /-- order in which fills completed, to tell the later of two READY buffers (R135) -/
  order : Nat
  /-- IN_USE, but EMPTY instead of SPENT on release (R132, R142) -/
  dropOnRelease : Bool
  /-- holders of an IN_USE buffer: the composition, and a racking with the state it took the buffer in (R172) -/
  byComp : Bool
  byRack : Bool
  rackWas : Nat
  deriving DecidableEq, Repr

/-- How a layer takes part in one composition (R135, R136). -/
inductive Judge where
  /-- the layer contributes nothing -/
  | hidden
  /-- its own buffer -/
  | buffer (b : Nat)
  /-- a cask beam, its own or a substitute -/
  | beam (k : Nat)
  /-- a symbol of the symbol store, with its directory entry as it stood at the judgement (R162) -/
  | symbol (i : Nat) (entry : List Byte)
  deriving DecidableEq, Repr

/-- The state of one compositor in a composition (R27). -/
inductive CpRun where
  | composing | finished | abandoned
  deriving DecidableEq, Repr

/-- A composition in progress (R125): the active configurations and judgements taken at D, the vertical taps used
(R158), the background, the mix tables, and for each compositor its run state. `cut` lists, per layer disabled meanwhile, the raster
positions in the two halves up to which it was blended (R140). -/
structure Composition where
  cfg : List LayerCfg
  judge : List Judge
  tapsV : List Nat
  bgWarm : Nat
  bgCool : Nat
  mix : List (Nat × List (Nat × Nat))
  coef : List (Nat × List Int)
  cp0 : CpRun
  cp1 : CpRun
  cut : List (Nat × Nat × Nat)
  deriving DecidableEq, Repr

/-- A pending LAYER_COMMIT or CASK_SELECT (R144, R174): its handle, its layer mask and, for a CASK_SELECT, its beam. -/
structure Commit where
  handle : Nat
  mask : Nat
  beam : Option Nat
  deriving DecidableEq, Repr

/-- Layers and composition (R124 to R149). -/
structure LayerSt where
  active : List LayerCfg
  bufs : List BufRec
  fills : Nat
  commits : List Commit
  /-- commands waiting for an earlier commit of one of their layers (R146), in order -/
  waiting : List (Nat × Cmd)
  /-- latched START and background (R139) -/
  start : Nat
  bgWarm : Nat
  bgCool : Nat
  /-- mix tables and coefficient sets latched as composition settings at the last tick (R95, R153) -/
  mix : List (Nat × List (Nat × Nat))
  coef : List (Nat × List Int)
  comp : Option Composition
  /-- the composition of the coming frame finished in both halves -/
  composed : Bool
  deriving DecidableEq, Repr

/-- A racking in progress (R170 to R173): its handle (0 when none), target, background, copied configurations,
sources (by layer, as judgements) and the tables it composes with. -/
structure Racking where
  handle : Nat
  beam : Nat
  bgW : Nat
  bgC : Nat
  cfg : List LayerCfg
  judge : List Judge
  mix : List (Nat × List (Nat × Nat))
  coef : List (Nat × List Int)
  deriving DecidableEq, Repr

/-- A SYMBOL_LOAD whose writes wait for a composition (R162). -/
structure HeldSymbol where
  handle : Nat
  index : Nat
  last : Bool
  crc : Nat
  doff : Nat
  data : List Byte
  deriving DecidableEq, Repr

/-- Scaler tables, the symbol store's command side and the cask (R150 to R176). -/
structure CaskSt where
  /-- coefficient sets as loaded: (set, 512 taps phase-major); an absent set holds the bilinear content (R152) -/
  coef : List (Nat × List Int)
  racking : Option Racking
  heldSyms : List HeldSymbol
  /-- a table load in progress (COEF_LOAD, RAMP_LOAD, MIX_LOAD), stored at TABLE_LOAD_DONE: handle and command -/
  loads : List (Nat × Cmd)
  deriving DecidableEq, Repr

/-- The training of one lane (R187 to R189). -/
structure Training where
  /-- the current request: number, and for each tap 0 HOLD, 1 INC, 2 DEC -/
  reqId : Nat
  pre : Nat
  main : Nat
  post : Nat
  /-- the request number has been echoed -/
  echoed : Bool
  /-- the eye has reached its target, or the time is up: DONE is requested; and a TAP_REQ with it has been sent (R182) -/
  done : Bool
  sent : Bool
  /-- PATTERN blocks and PRBS errors since the last applied request -/
  blocks : Nat
  errs : Nat
  /-- PRBS errors of the whole training, and PATTERN blocks since the last error -/
  allErrs : Nat
  clean : Nat
  eyeH : Nat
  eyeW : Nat
  /-- the last 7 bits of the PRBS reference, oldest first; none before its first PATTERN block -/
  prbs : List Bool
  deriving DecidableEq, Repr

/-- A forward lane's receiver beyond LINK_LANE_STATE (R182, R186, R198). -/
structure LaneSt where
  /-- consecutive valid blocks in HUNT, and whether all were PATTERN blocks -/
  hunt : Nat
  huntPat : Bool
  /-- the last 16 block slots in DATA, newest first: true for an invalid one -/
  slots : List Bool
  /-- rate codes at which the lane has trained since reset -/
  trainedAt : List Nat
  training : Option Training
  /-- valid EI_EXIT blocks of an exit burst so far -/
  exits : Nat
  /-- an EI_ENTER was received and waits for its match on the other lane -/
  eiWait : Option Nat
  /-- the receiver's running disparity: true is positive (R178) -/
  rd : Bool
  /-- the core cycle of its last out-of-lock event (R200) -/
  lost : Option Nat
  deriving DecidableEq, Repr

/-- A block as a lane delivers it: header octet, SEQ and 60 payload bytes (R180). -/
structure Blk where
  lane : Nat
  header : Nat
  seq : Nat
  payload : List Byte
  deriving DecidableEq, Repr

/-- One link: sequence, striping, deskew, reassembly, rate step and guard buffers (R184 to R197). -/
structure LinkSt where
  /-- stripe mode: 0 dual, 1 lower lane, 2 upper lane -/
  mode : Nat
  expect : Nat
  /-- the next block of a type other than PATTERN sets `expect` (R185 step 5) -/
  adopt : Bool
  waiting : Option Blk
  /-- the SEQs of the partners of blocks that were delivered alone, until they end (R191) -/
  late : List Nat
  /-- packet in assembly (R197) -/
  asm : Option (List Byte)
  /-- rate code of the last RATE_ACK not yet used -/
  ack : Option Nat
  /-- rate step in progress: old and new code -/
  step : Option (Nat × Nat)
  /-- segments of the filling buffer, by segment number -/
  filling : List (Nat × List Byte)
  /-- the copy handed to the taster at the last deadline -/
  copy : List (Nat × List Byte)
  deriving DecidableEq, Repr

/-- An item of the TRAIN priority of the return lane: a TAP_REQ (built when it is sent) or an answer's payload. -/
inductive RlTrain where
  | tapReq
  | bytes (p : List Byte)
  deriving DecidableEq, Repr

/-- An item of the CONTROL priority: a notice payload, or a reply (its number, the bytes not yet sent, and whether a
fragment has gone, R274). -/
inductive RlCtl where
  | notice (p : List Byte)
  | reply (serial : Nat) (rest : List Byte) (begun : Bool)
  deriving DecidableEq, Repr

/-- The return lane (R202 to R206). -/
structure RlSt where
  running : Bool
  seq : Nat
  /-- blocks since the last periodic commas, and commas due at the next boundary -/
  count : Nat
  commas : Nat
  tick : Option (List Byte)
  loss : List (List Byte)
  train : List RlTrain
  ctl : List RlCtl
  /-- the last block sent (64 octets) and the commas sent before it -/
  out : List Byte
  outCommas : Nat
  /-- the 10-bit groups of those commas and that block, and the transmitter's running disparity (R178) -/
  groups : List Nat
  rd : Bool
  deriving DecidableEq, Repr

/-- The Daelo link (R177 to R208). -/
structure DaeloSt where
  lanes : List LaneSt
  links : List LinkSt
  rl : RlSt
  /-- the forward receivers receive (R184, R468) -/
  rxOn : Bool
  /-- the guard deadline of the coming tick has passed (R194) -/
  pastDeadline : Bool
  /-- packets that a link completed, on their way to the command engine (R197, R207): empty after every command -/
  inbox : List (Nat × List Byte)
  deriving DecidableEq, Repr

/-- One safe-input pair (R221 to R225): the filtered levels, the agreed state (true: request; none before the first
agreement), the start of a disagreement in progress, whether it was present at the start of SF, whether its fault has
been latched, and when the near misses of the last 10 s ended. -/
structure PairSt where
  a : Bool
  b : Bool
  agreed : Option Bool
  since : Option Nat
  atStart : Bool
  faulted : Bool
  near : List Nat
  deriving DecidableEq, Repr

/-- A change-log entry (R244). -/
structure LogEnt where
  tb : BitVec 64
  ticks : Word
  addr : Nat
  old : Word
  new : Word
  source : Nat
  kind : Nat
  number : Nat
  epoch : Nat
  deriving DecidableEq, Repr

/-- The seal record in force (R240): the 96 words of the safety parameter block and the confirmed seal. -/
structure SealRec where
  block : List Word
  code : Word
  deriving DecidableEq, Repr

/-- The ramp table, N_W and split that the limp tables were computed for (R231). -/
structure LimpBasis where
  ramp : List Nat
  nW : Nat
  split : Nat
  deriving DecidableEq, Repr

/-- A release that has taken effect in a core cycle: its handles, and what it changed as it stood before (R229, R230). -/
structure Released where
  cycle : Nat
  handles : List Nat
  state : Nat
  latched : Nat
  runs : Nat × Nat × Nat
  event : Nat
  unlit : Nat
  led : Nat
  deriving DecidableEq, Repr

/-- The safety core (R209 to R246). A guard plane is a list of segments of 56 cells; a missing byte is 0. -/
structure SafeSt where
  sb : PairSt
  dk : PairSt
  /-- SF has started, so the pairs are evaluated (R223) -/
  running : Bool
  /-- while the SAFE_PATH test runs: when it ends, and the causes of agreed requests that it holds until then (R421) -/
  path : Option (Nat × Nat)
  /-- the reconciled guard of the coming frame and of the frame on display -/
  guardNext : List (List Byte)
  guardDisp : List (List Byte)
  /-- guard causes still present (bits 4 to 6, R220) -/
  guardPresent : Nat
  /-- the held limp beam record, and an accepted one that the next tick puts in its place (R231) -/
  limp : Option (List Byte)
  limpNext : Option (List Byte)
  limpBasis : LimpBasis
  /-- SF is reading the limp record -/
  limpLoading : Bool
  /-- tau as last taken in LIMP (R232) -/
  limpTau : Nat
  /-- handles of the releases from DARK that wait for the LED supply (R229), and the last release that took effect (R230) -/
  release : List Nat
  released : Option Released
  /-- seal stores in progress or waiting: handle, record, source (R240) -/
  sealing : List (Nat × SealRec × Nat)
  /-- end of the password lockout, ns of `now` (R242) -/
  lockout : Option Nat
  log : List LogEnt
  /-- addresses of the last 8 logged rejected sealed writes and when they were logged (R329) -/
  suppress : List (Nat × Nat)
  deriving DecidableEq, Repr

/-- A reply that the reply store keeps (R258): the packet's identity and the reply, with the number of the reply. -/
structure Reply where
  ptype : Nat
  len : Nat
  seq : Nat
  crc : Nat
  status : Nat
  payload : List Byte
  serial : Nat
  deriving DecidableEq, Repr

/-- An entry of the handle table (R262, R263). State: 0 QUEUED, 1 EXECUTING, 2 PENDING, 3 DONE. -/
structure HandleEnt where
  h : Nat
  op : Nat
  st : Nat
  status : Nat
  queue : Nat
  cqSkip : Bool
  posted : Bool
  lost : Bool
  ticks : Word
  result : List Byte
  /-- order of completion, for eviction -/
  order : Nat
  deriving DecidableEq, Repr

/-- An entry of a queue: a command with its context, or a fence's barrier. -/
inductive QEnt where
  | cmd (x : Ctx) (c : Cmd)
  | barrier (h : Nat)
  deriving DecidableEq, Repr

/-- How a fence is released (R268, R270). -/
inductive FenceKind where
  /-- when the commands it waits for are DONE -/
  | plain
  /-- `left` ticks after it becomes ready -/
  | relative (left : Nat)
  /-- at an absolute TICK_COUNT -/
  | absolute (value : Nat)
  deriving DecidableEq, Repr

/-- A fence not yet released: its handle, the handles it still waits for, its kind, and whether its tick has come. -/
structure Fence where
  h : Nat
  waits : List Nat
  kind : FenceKind
  due : Bool
  deriving DecidableEq, Repr

/-- An entry of the completion queue (R264). -/
structure Completion where
  h : Nat
  op : Nat
  status : Nat
  ticks : Word
  /-- the core cycle of the completion (R264) -/
  cycle : Nat
  deriving DecidableEq, Repr

/-- The key unlock in force (R332). -/
structure Unlock where
  block : Nat
  source : Source
  time : Nat
  deriving DecidableEq, Repr

/-- The command engine and the register port (R247 to R343). -/
structure CmdSt where
  /-- kept replies, oldest first, at most 16 -/
  kept : List Reply
  /-- the most recent reply of each sequence number: status and payload -/
  last : List (Nat × Nat × List Byte)
  /-- handles issued since reset, replies produced, completions made -/
  issued : Nat
  serial : Nat
  dones : Nat
  handles : List HandleEnt
  /-- the five queues, indexed by `Queue` -/
  queues : List (List QEnt)
  fences : List Fence
  cq : List Completion
  /-- a packet has arrived since reset, so the summary byte's bit 0 reads 1 (R253) -/
  answered : Bool
  /-- commands latched at the next tick, in order of execution: handle and command (R280) -/
  tickCmds : List (Nat × Cmd)
  rejFifo : List Word
  unlock : Option Unlock
  /-- SYS_HOST_TAG has been written since reset (R331) -/
  tagWritten : Bool
  deriving DecidableEq, Repr

/-- The shared SRAM (R344): the bytes written since each bank's content was last lost, and for each bank how often
that happened (an undefined byte depends on it, R458). -/
structure MemSt where
  sram : List Host.Cell
  epochs : List Nat
  /-- banks whose reload is in progress or due: trim banks 22 to 24, symbols 25 (R357) -/
  reload : List Nat
  deriving DecidableEq, Repr

/-- The CONFIG snapshot (R303): the C fields by register address, the persist list and the BIST plan. -/
structure CfgSnap where
  regs : List (Nat × Word)
  persist : List Nat
  plan : Nat
  quick : Bool
  deriving DecidableEq, Repr

/-- A self-test record (R310): STATE, EPOCH, TB, DURATION, PLAN, PASS, FAIL, FIRST_FAIL. -/
structure BistRec where
  st : Nat
  epoch : Nat
  tb : BitVec 64
  duration : Nat
  plan : Nat
  pass : Nat
  fail : Nat
  first : Nat
  deriving DecidableEq, Repr

/-- A firmware image as LAST verified it (R306). -/
structure FwImage where
  total : Nat
  crc : Nat
  major : Nat
  minor : Nat
  patch : Nat
  compat : Nat
  deriving DecidableEq, Repr

/-- The boot selector record (R307, R363): the slot and each slot's image, none while not valid. -/
structure Selector where
  slot : Nat
  imgA : Option FwImage
  imgB : Option FwImage
  deriving DecidableEq, Repr

/-- What a slot of the seal region holds (R242, R363): sequence number, the sealed block, the password digest. -/
structure SealSlot where
  seq : Nat
  block : Option SealRec
  digest : Option (List Byte)
  deriving DecidableEq, Repr

/-- What a slot of the boot selector holds (R307, R363). -/
structure SelSlot where
  seq : Nat
  sel : Selector
  deriving DecidableEq, Repr

/-- What a running cellar write does (R301, R361). -/
inductive CellarJob where
  /-- CELLAR_STORE into region (2 to 5) at offset: the new bytes, or the snapshot for CONFIG -/
  | store (region offset : Nat) (data : List Byte) (snap : Option CfgSnap)
  /-- FIRMWARE_STAGE: slot, FIRST, LAST, offset, total, crc, data -/
  | firmware (slot : Nat) (last : Bool) (offset total crc : Nat) (data : List Byte)
  /-- FIRMWARE_ACTIVATE: slot and REBOOT -/
  | activate (slot : Nat) (reboot : Bool)
  /-- the journaled store that ends a SHUTDOWN: the final record, and with STORE_CFG the snapshot (R422) -/
  | shut (record : BistRec) (snap : Option CfgSnap)
  deriving DecidableEq, Repr

/-- A cellar write in progress: handle (0 for the device's own), job, first spare page and pages; the page writes made, over the
shadow phase and the commit of a store and then anew over copy-back, and `now` when the page in progress will be written. -/
structure CellarRun where
  handle : Nat
  job : CellarJob
  spare : Nat
  pages : Nat
  done : Nat
  due : Nat
  /-- the store has completed and copies back -/
  copying : Bool
  deriving DecidableEq, Repr

/-- A record of the boot and fault ring (R473): SAFE_CAUSE or the boot words, the time base, TICK_COUNT or epoch. -/
structure RingRec where
  boot : Bool
  words : List Word
  tb : BitVec 64
  count : Word
  deriving DecidableEq, Repr

/-- The cellar (R359 to R370). Unlisted bytes read 0xFF (erased), unlisted pages have 0 writes and no bit errors. -/
structure CellarSt where
  mem : List Host.Cell
  wear : SMap Nat
  errs : SMap Nat
  run : Option CellarRun
  /-- commands PENDING behind the write in progress (R301) -/
  waiting : List (Ctx × Cmd)
  /-- password digest record writes in progress or waiting: handle, digest, source (R363) -/
  digestWrite : List (Nat × List Byte × Nat)
  /-- shadow pages left without a record by a reset (R365) -/
  orphan : Bool
  config : Option CfgSnap
  /-- the two record slots of the boot selector and of the seal region; none for one that holds no record with a good
  CRC (R363) -/
  selSlots : List (Option SelSlot)
  sealSlots : List (Option SealSlot)
  spareStart : Nat
  shutRec : Option BistRec
  bootRec : Option BistRec
  /-- the boot and fault ring, and the records appended to it so far (R473) -/
  ring : List RingRec
  ringNext : Nat
  /-- the place of the next change-log entry in its ring of 256 (R244) -/
  logPos : Nat
  /-- the seal region held a record and has no readable one (R241) -/
  sealLost : Bool
  /-- slots whose staging began since reset (R306) -/
  begun : List Nat
  deriving DecidableEq, Repr

/-- A power-state entry handshake (R385, R386): handle (0 within SHUTDOWN), the request, and the blocks that have
answered READY. -/
structure Handshake where
  handle : Nat
  target : Nat
  op : Nat
  retain : Nat
  wake : Nat
  wakeMs : Nat
  ready : List Nat
  deriving DecidableEq, Repr

/-- A SHUTDOWN in progress (R292, R422). -/
structure Shut where
  handle : Nat
  storeCfg : Bool
  next : Nat
  /-- it began in LIMP with FORCE, or LIMP was entered since (R423) -/
  limp : Bool
  tb : BitVec 64
  epoch : Nat
  /-- the plan as it stood when the SHUTDOWN began (R309) -/
  plan : Nat
  /-- the tests have ended with this record, and the store waits for a cellar write in progress (R301) -/
  record : Option BistRec
  deriving DecidableEq, Repr

/-- Power and clocks (R371 to R398). -/
structure PowerSt where
  /-- points of VCORE and of the divider in force, and the step in progress: target point and whether it raises -/
  volt : Nat
  div : Nat
  step : Option (Nat × Bool)
  /-- the step goes to the point that automatic selection took (R374) -/
  autoStep : Bool
  /-- latest request (0 to 2, 3 automatic) and the SET_POWER_STATE handles that wait for a point -/
  want : Nat
  wantHandles : List Nat
  /-- a lowering waits for the next tick -/
  lower : Bool
  hs : Option Handshake
  shut : Option Shut
  /-- the array and the LED supply are held off by SHUTDOWN -/
  shutHold : Bool
  /-- asleep: retained banks, the time base snapshot and the power state -/
  asleep : Option (Nat × BitVec 64)
  wakeStage : Option Nat
  wakeSrc : Nat
  /-- LED supply: 0 held low, 1 soft start, 2 running; targets of this frame and the next -/
  led : Nat
  tgtNow : Nat
  tgtNext : Nat
  handed : Bool
  /-- peak of the frame that the last target was computed for, in the unit of `Terms.bankCurrent`, and the phases in use
  (R376, R377) -/
  peak : Nat
  phases : Nat
  /-- a rise of the target is in progress (R382) -/
  rising : Bool
  /-- how far the current limit holds the regulation point below the target, in mV: the foldback acts while it is not 0
  (R380) -/
  drop : Nat
  ov : Bool
  vbatLow : Bool
  vbatStop : Bool
  vbatHigh : Bool
  vsysLow : Bool
  sfDev : Bool
  /-- a headroom signal was taken in this write window (R379); time of the last one -/
  headroom : Bool
  lastHeadroom : Nat
  /-- the crystal is selected (R395); reference cycles of the last RC measurement (R396) -/
  xtal : Bool
  rcCycles : Nat
  deriving DecidableEq, Repr

/-- Temperature (R399 to R408). Values in 1/16 degrees C. -/
structure ThermSt where
  vals : List Int
  failed : List Nat
  /-- consecutive low readings (R405) and consecutive readings at or above SHUT (R404), per sensor -/
  low : List Nat
  high : List Nat
  /-- tau before the caps of R407 and R408 -/
  tau : Nat
  /-- throttle hold (R407): the highest tau allowed meanwhile, and whether the logic cap is held -/
  hold : Option (Nat × Bool)
  warnA : Bool
  warnL : Bool
  thrL : Bool
  shutA : Bool
  shutL : Bool
  ntc : List Int
  ntcWarn : List Bool
  ntcFail : List Bool
  ntcTau : List Nat
  deriving DecidableEq, Repr

/-- A kept calibration sample (R412): strip, colour (0 warm), the weighted counts times EFF of the eight banks, and the
reading in 0.125 mA. -/
structure CalPoint where
  strip : Nat
  colour : Nat
  xs : List Nat
  y : Nat
  deriving DecidableEq, Repr

/-- A calibration run (R412 to R419): handle (0 automatic), selection, frames collected, samples, temperatures of the
frames, and the new values to apply at the coming tick. -/
structure CalRun where
  handle : Nat
  colours : Nat
  strips : Nat
  maxFrames : Nat
  /-- ticks until the first frame of collection (R412) -/
  wait : Nat
  frames : Nat
  points : List CalPoint
  temps : List Int
  /-- new gains (strip, colour, value) and trims (bank, colour, value) -/
  gains : List (Nat × Nat × Nat)
  trims : List (Nat × Nat × Nat)
  deriving DecidableEq, Repr

/-- A transaction of a port at a bank (R347): the requester's code, the port in it, the SRAM address of the next beat (a
multiple of 32, so the bank with it), the direction, the beats left and whether their number is declared; and, while it
waits, the core cycles waited since its request, whether that was recorded as starvation, and the last wait hint. -/
structure Xact where
  req : Nat
  port : Nat
  addr : Nat
  write : Bool
  beats : Nat
  declared : Bool
  waited : Nat
  starved : Bool
  hint : Nat
  deriving DecidableEq, Repr

/-- The grant of a bank (R348, R349): the port that holds it, the input at which it was granted, the beats left of the
burst limit fixed then (none without a limit), and the core cycles since a beat moved (R353). -/
structure Grant where
  req : Nat
  port : Nat
  input : Nat
  left : Option Nat
  still : Nat
  deriving DecidableEq, Repr

/-- The bank arbiters and their ports (R346 to R354). -/
structure ArbSt where
  /-- the outstanding transactions, at most one per port -/
  xacts : List Xact
  /-- the transactions still to come of the operations in progress, in order -/
  buffer : List Xact
  /-- by bank: its grant -/
  grants : List (Nat × Grant)
  /-- by 8 bank + input: the port of that input granted last -/
  last : List (Nat × Nat)
  deriving DecidableEq, Repr

/-- Calibration (R411 to R419). -/
structure CalSt where
  run : Option CalRun
  /-- `now` at the last failed automatic run -/
  lastFail : Option Nat
  /-- end of the last dark slot, and whether a headroom signal came in this sub-frame (R413) -/
  darkEnd : Option Nat
  headroom : Bool
  /-- points that the run has kept in the sub-frame in progress (R413) -/
  kept : Nat
  /-- the LFSR, the instants that it drew at the last tick for each sub-frame of the coming frame, and those of the frame in
  progress that have not been reached (R412) -/
  lfsr : BitVec 31
  drawn : List (List Nat)
  instants : List (List Nat)
  deriving DecidableEq, Repr

/-- The values a histogram monitor accumulates (R427). -/
structure Hist where
  min : Nat
  max : Nat
  count : Nat
  sum : Nat
  bins : List Nat
  deriving DecidableEq, Repr

/-- One histogram monitor (R426 to R428). -/
structure MonSt where
  en : Bool
  log2 : Bool
  source : Nat
  shift : Nat
  rect : Nat × Nat × Nat × Nat
  frames : Nat
  counted : Nat
  acc : Hist
  out : Hist
  outTick : Word
  clear : Bool
  deriving DecidableEq, Repr

/-- The scan in progress (R431). -/
structure ScanRun where
  handle : Nat
  space : Nat
  alg : Nat
  compare : Bool
  start : Nat
  len : Nat
  expect : Nat
  /-- bytes read so far, and the running CRC register over them (R431) -/
  got : Nat
  raw : Nat
  deriving DecidableEq, Repr

/-- Monitors, signatures, the raw state of the CRC units, the scan engine and the self-test (R420 to R439). -/
structure TestSt where
  mons : List MonSt
  /-- running CRC registers of the four units, before the final XOR -/
  crc : List Nat
  scan : Option ScanRun
  /-- signatures that have a value since their configuration was latched -/
  sigHave : List Nat
  /-- the tests of the run in progress whose outcome a read has shown (R439) -/
  judged : Nat
  deriving DecidableEq, Repr

/-- The group bus (R440 to R451). -/
structure GroupSt where
  /-- last valid edge, last interval P_G, consecutive valid edges while LOST, consecutive missed edges -/
  lastEdge : Option Nat
  interval : Nat
  valid : Nat
  missedEdges : Nat
  /-- phase error of the last valid edge, until a frame has answered it (R446, R448) -/
  err : Option Int
  conflict : Bool
  /-- per member: received in this exchange, consecutive misses, DEPART, consecutive seal and compat differences -/
  got : List Bool
  misses : List Nat
  depart : List Bool
  sealDiff : List Nat
  compatDiff : List Nat
  /-- causes of the RC bits and of the GROUP safe-state cause -/
  sealPresent : Bool
  compatPresent : Bool
  fwPresent : Bool
  missingPresent : Bool
  groupPresent : Bool
  /-- GROUP has answered READY: its DEPART word has been sent or none is due -/
  departing : Bool
  /-- interval of `now` in which a leader drives GSYNC high (R440) -/
  pulse : Option (Nat × Nat)
  deriving DecidableEq, Repr

/-- The satellite chain (R452 to R455). -/
structure SatSt where
  image : SMap (BitVec 48)
  /-- words of the last chain frame, satellite 0 first -/
  sent : List (BitVec 48)
  /-- a frame is due 20 us after the last tick -/
  due : Bool
  /-- when the frame being sent began, and its TIMING (R452, R453) -/
  start : Option Nat
  timing : Nat
  /-- the temperature source fell back to the mean (R454) -/
  fallback : Bool
  /-- NTC0, NTC1 and the mean, as sampled at the last tick (R454) -/
  theta : List Int
  deriving DecidableEq, Repr

/-- What a cause of a reset needs to have arisen in the same core cycle as another (R459): the boot stage whose timer ran (0 for
none), whether the reference ran, the reset window, and the stage of a wake. -/
structure Before where
  stage : Nat
  clock : Bool
  window : Option (Bool × Nat)
  wake : Option Nat
  deriving DecidableEq, Repr

/-- Start-up and reset (R458 to R474). -/
structure BootSt where
  /-- stage in progress, 1 to 10; 0 while reset is held; 11 when boot is complete -/
  stage : Nat
  cold : Bool
  held : Bool
  /-- RESET_N and TEST_EN as last seen -/
  resetN : Bool
  testEn : Bool
  /-- the core cycle of the last recorded reset cause, with the code and detail recorded (R459) -/
  causeAt : Option (Nat × Nat × Nat)
  /-- `now` at the release of stage 1, or at the start of stage 3 of a warm boot, and at the end of stage 2 -/
  start : Nat
  /-- reset window of R293: cold, DETAIL -/
  window : Option (Bool × Nat)
  /-- image that runs -/
  slot : Nat
  fw : Option FwImage
  quick : Bool
  /-- the limp load of this boot has been judged (R233) -/
  limpJudged : Bool
  /-- boot tests that failed, in order: test and detail byte -/
  fails : List (Nat × Nat)
  vaonLost : Bool
  /-- the reset ended a sleep (R461) -/
  slept : Bool
  /-- banks that survived a warm reset -/
  kept : List Nat
  /-- time base and epoch at the start of the boot test -/
  tb : BitVec 64
  /-- the machine before its last reset cause (R459) -/
  before : Before
  deriving DecidableEq, Repr

/-- The pins the block drives, after the last command. -/
structure Pins where
  /-- IRQ_N is asserted (R266) -/
  irq : Bool
  /-- FAULT_N is asserted (R213) -/
  fault : Bool
  /-- PH0 to PH3 are held low (R382) -/
  phLow : Bool
  /-- every current reference is held at 0 (R71) -/
  forceZero : Bool
  /-- bytes driven on SDO in the last SPI frame, none where it stayed at high impedance (R253, R254, R488) -/
  sdo : List Byte
  /-- the level on TDO; none is high impedance, as in reset, with VIO low and while nothing is shifted (R460, R482): no command
  shifts the test port (log entry 106) -/
  tdo : Option Bool
  /-- the levels driven on GDAT in the device's last slot, first one first; after them GDAT was released (R441, R442) -/
  gdat : List Bool
  /-- TICK_OUT is high (R49) -/
  tickOut : Bool
  /-- SAT_DO is high (R452, R453) -/
  satDo : Bool
  deriving DecidableEq, Repr

/-- What has held, or happened, since a moment that the spec counts from. Every command brings it up to date as it ends. -/
structure SinceSt where
  /-- banks whose references have been held at 0 ever since the bank's lit interval began (R82) -/
  litZero : List Nat
  /-- the limp clamp has acted in the frame on display (R102) -/
  clamped : Bool
  /-- strips whose engine has prepared codes in the frame on display, as a mask (R102, R116) -/
  ran : Nat
  /-- registers whose parity bit is wrong, all others being even over the covered bits (R339), and those among them whose
  error has been reported (R341); a write of covered bits makes it right again -/
  upset : List Nat
  reported : List Nat
  deriving DecidableEq, Repr

/-- The machine. `regs` lists the registers whose value differs from their reset word, by rising address; `now` is the
time in ns; `cycle` numbers the core cycles in which commands came: one ends when time passes, and where a tick begins the
next (log entry 22); `free` counts the free values used so far (both the model's own fields). -/
structure State where
  now : Nat
  cycle : Nat
  free : Nat
  regs : SMap Word
  tick : TickSt
  array : ArraySt
  pipe : PipeSt
  layer : LayerSt
  cask : CaskSt
  daelo : DaeloSt
  safe : SafeSt
  cmd : CmdSt
  mem : MemSt
  cellar : CellarSt
  power : PowerSt
  therm : ThermSt
  cal : CalSt
  test : TestSt
  group : GroupSt
  sat : SatSt
  boot : BootSt
  pins : Pins
  since : SinceSt
  arb : ArbSt
  /-- the commands that wait, first in, first out -/
  pending : List Instr
  deriving DecidableEq, Repr

/-- Why a step faults: never. Every command of the table has an effect in every state. -/
inductive Fault where
  deriving DecidableEq, Repr

/-- Why a step refuses. -/
inductive Refusal where
  /-- Raised by the dispatch for a command that has no meaning yet. Safe: nothing is claimed of such a command. -/
  | notModelled (mnemonic : String)
  deriving DecidableEq, Repr

/-! ## Reset values, block by block (log entries 3 and 5) -/

def FsyncSt.init : FsyncSt := ⟨0, 0, none, 0, 0, false, 0, 0, 0⟩

/-- The trellis of TICK_RATE's reset value, 120 Hz with 4 sub-frames (R55). -/
def TickSt.init : TickSt :=
  { tb := 0, tbShadow := 0, tstamp := 0, tstampShadow := 0, hz := 120, nsf := 4, rateNext := none, rateBad := false,
    src := 0, frameLen := 8333320, frac := 0, tickAt := none, fs := FsyncSt.init, passRunning := false, passWait := false,
    passDone := false, taken := false, overrun := false, deadline := 0, darkLen := 0, darkOff := 0, dark := false, outMode := 0,
    outPol := 0, outPulse := 0, outTick := none, outDark := none, slot := none, hold := false }

def ArraySt.init : ArraySt :=
  { ramp := [], codes := [], parked := [], armed := [], cuts := List.replicate 16 ⟨⟨0, 0, 0, 0⟩, false⟩, held := [], litBar := [],
    litRows := [], litRamp := (defaultRamp 3, 3), cutSpi := [], kills := [], releases := [], cands := [], faults := [],
    confirmed := ⟨0, [], 0⟩, killed := [], reopen := [], persist := [], fillRows := [] }

def Terms.init : Terms := ⟨[], [], [], 3⟩

def DispSet.init : DispSet :=
  { hz := 120, nsf := 4, nW := 3, ramp := defaultRamp 3, rampLoaded := false, split := 1024, dither := true,
    rotate := true, base := [], trim := [], tc := [], sgain := [], tcompEn := true, alphaW := 0, alphaC := 0,
    temps := List.replicate 16 0, mean := 0, budget := 0 }

def PipeSt.init : PipeSt :=
  { mix := [], next := none, disp := DispSet.init, scale := 32768, frame := 0, govS := none, cur := Terms.init,
    nextTerms := Terms.init, limpW := [], unmet := false, fillAll := false, noFrame := true, compFresh := false, dispFresh := false,
    limpTick := false, trimValid := false }

def LayerCfg.init : LayerCfg := ⟨List.replicate 11 0, List.replicate 11 0⟩

def BufRec.init : BufRec := ⟨false, false, false, 0, false, false, false, 0⟩

def LayerSt.init : LayerSt :=
  { active := List.replicate 8 LayerCfg.init, bufs := List.replicate 16 BufRec.init, fills := 0, commits := [],
    waiting := [], start := 0, bgWarm := 0, bgCool := 0, mix := [], coef := [], comp := none, composed := false }

def CaskSt.init : CaskSt := ⟨[], none, [], []⟩

def LaneSt.init : LaneSt := ⟨0, false, [], [], none, 0, none, false, none⟩

def LinkSt.init : LinkSt := ⟨0, 0, false, none, [], none, none, none, [], []⟩

def RlSt.init : RlSt := ⟨false, 0, 0, 0, none, [], [], [], [], 0, [], false⟩

def DaeloSt.init : DaeloSt := ⟨List.replicate 4 LaneSt.init, List.replicate 2 LinkSt.init, RlSt.init, false, false, []⟩

/-- Levels before SF evaluates them: idle (A high, B low), log entry 5. -/
def PairSt.init : PairSt := ⟨true, false, none, none, false, false, []⟩

def SafeSt.init : SafeSt :=
  { sb := PairSt.init, dk := PairSt.init, running := false, path := none, guardNext := [], guardDisp := [], guardPresent := 0,
    limp := none, limpNext := none, limpBasis := ⟨[], 0, 0⟩, limpLoading := false, limpTau := 32768, release := [], released := none, sealing := [],
    lockout := none, log := [], suppress := [] }

def CmdSt.init : CmdSt :=
  { kept := [], last := [], issued := 0, serial := 0, dones := 0, handles := [], queues := List.replicate 5 [],
    fences := [], cq := [], answered := false, tickCmds := [], rejFifo := [], unlock := none, tagWritten := false }

def MemSt.init : MemSt := ⟨[], List.replicate 28 0, []⟩

/-- An erased cellar (R367): the part as the model takes it from power-on, log entry 4. -/
def CellarSt.init : CellarSt :=
  { mem := [], wear := [], errs := [], run := none, waiting := [], digestWrite := [], orphan := false, config := none,
    selSlots := [none, none], sealSlots := [none, none], spareStart := 0, shutRec := none, bootRec := none, ring := [],
    ringNext := 0, logPos := 0, sealLost := false, begun := [] }

def PowerSt.init : PowerSt :=
  { volt := 0, div := 0, step := none, autoStep := false, want := 0, wantHandles := [], lower := false, hs := none, shut := none,
    shutHold := false, asleep := none, wakeStage := none, wakeSrc := 0, led := 0, tgtNow := 0, tgtNext := 0,
    handed := false, peak := 0, phases := 4, rising := false, drop := 0, ov := false, vbatLow := false, vbatStop := false, vbatHigh := false,
    vsysLow := false, sfDev := false, headroom := false, lastHeadroom := 0, xtal := false, rcCycles := 0 }

def ThermSt.init : ThermSt :=
  { vals := List.replicate 24 0, failed := [], low := List.replicate 24 0, high := List.replicate 24 0, tau := 32768,
    hold := none, warnA := false, warnL := false, thrL := false, shutA := false, shutL := false, ntc := [0, 0],
    ntcWarn := [false, false], ntcFail := [false, false], ntcTau := [32768, 32768] }

/-- No port has a transaction, and no input has been granted: the first port in port order comes first (DESIGN CHOICE, log
entry 36). -/
def ArbSt.init : ArbSt := ⟨[], [], [], []⟩

/-- The spec gives the LFSR no seed (DESIGN CHOICE, log entry 3). -/
def CalSt.init : CalSt := ⟨none, none, none, false, 0, 1, [], []⟩

/-- An empty accumulation: MIN starts at the largest value (log entry 5). -/
def Hist.init : Hist := ⟨0xFFFFFFFF, 0, 0, 0, List.replicate 32 0⟩

def MonSt.init : MonSt := ⟨false, false, 0, 0, (0, 0, 0, 0), 0, 0, Hist.init, Hist.init, 0, false⟩

def TestSt.init : TestSt := ⟨List.replicate 8 MonSt.init, List.replicate 4 0xFFFFFFFF, none, [], 0⟩

def GroupSt.init : GroupSt :=
  { lastEdge := none, interval := 0, valid := 0, missedEdges := 0, err := none, conflict := false,
    got := List.replicate 4 false, misses := List.replicate 4 0, depart := List.replicate 4 false,
    sealDiff := List.replicate 4 0, compatDiff := List.replicate 4 0, sealPresent := false, compatPresent := false,
    fwPresent := false, missingPresent := false, groupPresent := false, departing := false, pulse := none }

def SatSt.init : SatSt := ⟨[], [], false, none, 0, false, [0, 0, 0]⟩

def Before.none : Before := ⟨0, false, Option.none, Option.none⟩

def BootSt.init : BootSt :=
  { stage := 0, cold := true, held := false, resetN := true, testEn := false, causeAt := none, start := 0, window := none, slot := 0,
    fw := none, quick := false, limpJudged := false, fails := [], vaonLost := true, slept := false, kept := [], tb := 0, before := Before.none }

/-- The pins while reset is held (R460). -/
def Pins.init : Pins := ⟨false, true, true, true, [], none, [], false, false⟩

def SinceSt.init : SinceSt := ⟨[], false, 0, [], []⟩

/-- The machine right after a power-on reset, while reset is still held (R458, R460): every register at its Reset
entry, every structure empty, the array dark, PH0 to PH3 low, FAULT_N asserted, no command waiting. -/
def State.reset : State :=
  { now := 0, cycle := 0, free := 0, regs := [], tick := TickSt.init, array := ArraySt.init, pipe := PipeSt.init,
    layer := LayerSt.init, cask := CaskSt.init, daelo := DaeloSt.init, safe := SafeSt.init, cmd := CmdSt.init,
    mem := MemSt.init, cellar := CellarSt.init, power := PowerSt.init, therm := ThermSt.init, cal := CalSt.init,
    test := TestSt.init, group := GroupSt.init, sat := SatSt.init, boot := BootSt.init, pins := Pins.init,
    since := SinceSt.init, arb := ArbSt.init, pending := [] }

end Sys2Proof.Machine
end

