-- ==== Sys2Proof/Machine/Ops.lean ====
section
/-!
DEFINITION. The named operations every command uses: register fields, the SRAM and the cellar, notices and replies,
handles and completions, and the entry to a safe state.
-/
namespace Sys2Proof.Machine

/-! ## Register fields -/

/-- The word of a register as it stands (R15). -/
def State.reg (s : State) (a : Nat) : Word := SMap.get regReset s.regs a

/-- The field is covered by its register's parity bit: RW or WO1 in its access code (R339). -/
def Acc.covered : Acc → Bool
  | .ro | .rc | .w1c => false
  | _ => true

/-- The field descriptors at an address; none where no register stands. -/
def fieldsAt (a : Nat) : List FDesc := (regFields a).getD []

/-- The register carries a parity bit (R339). -/
def parityCovered (a : Nat) : Bool := (fieldsAt a).any fun f => f.acc.covered

/-- The register is safety-class (R339). -/
def safetyClass (a : Nat) : Bool := a / 4096 == 9 || (fieldsAt a).any fun f => f.acc == .rws

/-- A covered bit among bits `lo` to `lo + w - 1` of a register is written, so its parity bit is recomputed (R339, R341). -/
def SinceSt.written (q : SinceSt) (a lo w : Nat) : SinceSt :=
  if !q.upset.contains a then q
  else if (fieldsAt a).any fun f => f.acc.covered && f.lo < lo + w && lo < f.lo + f.w then
    { q with upset := q.upset.filter (· != a), reported := q.reported.filter (· != a) }
  else q

/-- Replace a register word, its parity bit left as it stands. -/
def State.putReg (s : State) (a : Nat) (v : Word) : State := { s with regs := SMap.put regReset s.regs a v }

/-- Write a whole register word. -/
def State.setReg (s : State) (a : Nat) (v : Word) : State :=
  { s with regs := SMap.put regReset s.regs a v, since := s.since.written a 0 32 }

/-- Bits `lo` to `lo + w - 1` of a word. -/
def fget (v : Word) (lo w : Nat) : Nat := v.toNat / 2 ^ lo % 2 ^ w

/-- The word with those bits replaced by the low bits of `x`. -/
def fput (v : Word) (lo w x : Nat) : Word :=
  BitVec.ofNat 32 (v.toNat % 2 ^ lo + (x % 2 ^ w) * 2 ^ lo + v.toNat / 2 ^ (lo + w) * 2 ^ (lo + w))

/-- Read a field. -/
def State.rd (s : State) (f : Fld) : Nat := fget (s.reg f.addr) f.lo f.w

/-- A one-bit field reads 1. -/
def State.on (s : State) (f : Fld) : Bool := s.rd f == 1

/-- Write a field. -/
def State.wr (s : State) (f : Fld) (x : Nat) : State :=
  { s with regs := SMap.put regReset s.regs f.addr (fput (s.reg f.addr) f.lo f.w x), since := s.since.written f.addr f.lo f.w }

/-- Write a Boolean to a one-bit field. -/
def State.wrB (s : State) (f : Fld) (b : Bool) : State := s.wr f (if b then 1 else 0)

/-- Set a status bit. -/
def State.sets (s : State) (f : Fld) : State := s.wr f 1

/-- Set a status bit when the condition holds. -/
def State.setIf (s : State) (b : Bool) (f : Fld) : State := if b then s.wr f 1 else s

/-- Advance a counter by `k`, saturating at its largest value (R343). -/
def State.incBy (s : State) (f : Fld) (k : Nat) : State := s.wr f (min (2 ^ f.w - 1) (s.rd f + k))

/-- Advance a counter by one. -/
def State.inc (s : State) (f : Fld) : State := s.incBy f 1

/-- Write a signed number in two's complement, saturated (R13). -/
def State.wrI (s : State) (f : Fld) (v : Int) : State := s.wr f (codeI f.w v)

/-- TICK_COUNT. -/
def State.tickCount (s : State) : Nat := s.rd TICK_COUNT.COUNT

/-- Use one free value: its number and the state after. -/
def State.fresh (s : State) : Nat × State := (s.free, { s with free := s.free + 1 })

/-- The safety state: 0 NORMAL, 1 LIMP, 2 DARK (R209). -/
def State.safety (s : State) : Nat := s.rd SAFE_STATUS.STATE

/-- The power state (R383). -/
def State.powerState (s : State) : Nat := s.rd POWER_STATUS.STATE

/-! ## SRAM (R344, R458) -/

/-- The byte of SRAM at an address: what was last written, or the undefined content of its bank. -/
def State.sramByte (s : State) (a : Nat) : Byte :=
  match s.mem.sram.find? (·.1 == a) with
  | some c => c.2
  | none => Config.sramByte (s.mem.epochs.getD (a / 1048576) 0) a

/-- `n` bytes of SRAM. -/
def State.sramBytes (s : State) (a n : Nat) : List Byte := (List.range n).map fun i => s.sramByte (a + i)

/-- Bytes at rising addresses from `a`. -/
def cellsAt (a : Nat) : List Byte → List Host.Cell
  | [] => []
  | b :: r => (a, b) :: cellsAt (a + 1) r

/-- The SRAM with bytes written at rising addresses from `a`. -/
def sramPutAll (m : List Host.Cell) (a : Nat) (bs : List Byte) : List Host.Cell :=
  (m.filter fun c => c.1 < a) ++ cellsAt a bs ++ m.filter fun c => a + bs.length ≤ c.1

/-- Write bytes of SRAM. -/
def State.sramWrite (s : State) (a : Nat) (bs : List Byte) : State :=
  { s with mem := { s.mem with sram := sramPutAll s.mem.sram a bs } }

/-- The canonical form of the SRAM: addresses rise strictly. An unlisted byte has no value of its own. -/
abbrev SramWf (m : List Host.Cell) : Prop := m.Pairwise fun a b => a.1 < b.1

/-- The content of a bank is lost. -/
def State.loseBank (s : State) (b : Nat) : State :=
  { s with mem := { s.mem with
      sram := s.mem.sram.filter fun c => c.1 / 1048576 != b
      epochs := s.mem.epochs.set b (s.mem.epochs.getD b 0 + 1) } }

/-- The compositors have worked: their line buffers and working area in bank 26, all but the guard copy, hold nothing that
the spec gives (R345). -/
def State.scratchUsed (s : State) : State :=
  { s with mem := { s.mem with
      sram := s.mem.sram.filter fun c => c.1 < 0x1A00000 || (0x1A90000 ≤ c.1 && c.1 < 0x1AA4000) || 0x1B00000 ≤ c.1
      epochs := s.mem.epochs.set 26 (s.mem.epochs.getD 26 0 + 1) } }

/-- The contents of several banks are lost. -/
def State.loseBanks (s : State) (bs : List Nat) : State := bs.foldl State.loseBank s

/-! ## Cellar (R359 to R367) -/

/-- What an unlisted cellar byte reads as: erased. -/
def erased (_ : Nat) : Byte := 0xFF

/-- Write count of a page; an unlisted page has never been written. -/
def State.pageWrites (s : State) (p : Nat) : Nat := SMap.get (fun _ => 0) s.cellar.wear p

/-- Bit errors with which a page reads. -/
def State.pageErrs (s : State) (p : Nat) : Nat := SMap.get (fun _ => 0) s.cellar.errs p

/-- The 32 bytes of a self-test record (R310). -/
def BistRec.bytes (r : BistRec) : List Byte :=
  let b := leBytes 1 r.st ++ leBytes 1 0 ++ leBytes 2 r.epoch ++ leBytes 8 r.tb.toNat ++ leBytes 4 r.duration ++ leBytes 4 r.plan
    ++ leBytes 4 r.pass ++ leBytes 4 r.fail ++ leBytes 2 r.first
  b ++ leBytes 2 (crc16 b)

/-- Pages of the LOGS region that hold the shut-down and the boot record, each at the start of its page (R425, log entry 32). -/
def shutPage : Nat := 0x70C0
def bootPage : Nat := 0x70C1

/-- First page of the boot and fault records; each record takes a page (R360, R473, log entry 33). -/
def ringPage : Nat := 0x70D0

/-- The record at a cellar address, if one stands there: its bytes and the offset in them. -/
def State.recordAt (s : State) (a : Nat) : Option Byte :=
  let one (r : Option BistRec) : Option Byte := if a % 256 < 32 then r.map fun r => r.bytes.getD (a % 256) 0 else none
  if a / 256 = shutPage then one s.cellar.shutRec else if a / 256 = bootPage then one s.cellar.bootRec else none

/-- The index of the valid one of two record slots with the higher sequence number (R363). -/
def newestSlot : List (Option Nat) → Option Nat
  | [some a, some b] => some (if a < b then 1 else 0)
  | [some _, none] => some 0
  | [none, some _] => some 1
  | _ => none

/-- The slot that the next record goes to: the one not in force. -/
def nextSlot (qs : List (Option Nat)) : Nat := if newestSlot qs = some 0 then 1 else 0

/-- The sequence number of the next record. -/
def nextSeq (qs : List (Option Nat)) : Nat := qs.foldl (fun n q => max n (q.getD 0)) 0 + 1

/-- The sequence numbers of the two pairs of slots. -/
def CellarSt.selSeqs (c : CellarSt) : List (Option Nat) := c.selSlots.map (Option.map SelSlot.seq)
def CellarSt.sealSeqs (c : CellarSt) : List (Option Nat) := c.sealSlots.map (Option.map SealSlot.seq)

/-- The boot selector in force (R363). -/
def CellarSt.selector (c : CellarSt) : Selector :=
  match newestSlot c.selSeqs with
  | some k => ((c.selSlots.getD k none).map SelSlot.sel).getD ⟨0, none, none⟩
  | none => ⟨0, none, none⟩

/-- The record of the seal region in force (R363). -/
def CellarSt.sealNow (c : CellarSt) : Option SealSlot :=
  match newestSlot c.sealSeqs with
  | some k => c.sealSlots.getD k none
  | none => none

/-- The sealed block in force, and the password digest in force (R240, R242). -/
def CellarSt.sealRec (c : CellarSt) : Option SealRec := c.sealNow.bind SealSlot.block
def CellarSt.digest (c : CellarSt) : Option (List Byte) := c.sealNow.bind SealSlot.digest

/-- The pages whose inner layout the spec does not give: CONFIG, SEAL, the journal, and LOGS beyond the change log. -/
def opaquePage (p : Nat) : Bool := (0x7000 ≤ p && p < 0x70A0) || (0x70C0 ≤ p && p < 0x7800)

/-- First cellar address of a region (R360). -/
def regionBase (r : Nat) : Nat := [0, 0x100000, 0x200000, 0x480000, 0x600000, 0x700000, 0x708000, 0x70A000].getD r 0

/-- Size of a region in bytes (R300, R360). -/
def regionSize (r : Nat) : Nat := [0x100000, 0x100000, 0x280000, 0x180000, 0x100000, 0x8000, 0x1000, 0x76000].getD r 0

/-- Bytes of a region that a store covers (R303, R361): a CONFIG snapshot takes 30,720 bytes. -/
def CellarJob.range : CellarJob → Nat × Nat
  | .store r off data _ => if r = 5 then (regionBase 5, 30720) else (regionBase r + off, data.length)
  | .firmware slot _ off _ _ data => (regionBase slot + off, data.length)
  | .activate _ _ => (0x709000, 0)
  | .shut _ snap => if snap.isSome then (regionBase 5, 30720) else (regionBase 5, 0)

/-- A journaled store (R361). -/
def CellarJob.isStore : CellarJob → Bool
  | .store _ _ _ _ | .shut _ _ => true
  | _ => false

/-- The page that the `i`-th page of a job goes to: a SHUTDOWN stores the record first, then the snapshot. -/
def CellarJob.page (j : CellarJob) (i : Nat) : Nat :=
  match j with
  | .shut _ _ => if i = 0 then shutPage else regionBase 5 / 256 + (i - 1)
  | _ => j.range.1 / 256 + i

/-- Pages that a job writes: a record of the boot selector takes one. -/
def CellarJob.pages (j : CellarJob) : Nat :=
  match j with
  | .shut _ _ => 1 + (j.range.2 + 255) / 256
  | .activate _ _ => 1
  | _ => (j.range.2 + 255) / 256

/-- Which page of a job goes to a page of the cellar. -/
def CellarJob.index (j : CellarJob) (p : Nat) : Option Nat :=
  let first := j.range.1 / 256
  let n := (j.range.2 + 255) / 256
  match j with
  | .shut _ _ => if p = shutPage then some 0 else if first ≤ p ∧ p < first + n then some (p - first + 1) else none
  | _ => if first ≤ p ∧ p < first + n then some (p - first) else none

/-- The `i`-th shadow page of a store (R361). -/
def CellarRun.sparePage (r : CellarRun) (i : Nat) : Nat := 0x7800 + (r.spare + i) % 2048

/-- The first copy of a store's record is written, so the store is committed (R361). -/
def CellarRun.committed (r : CellarRun) : Bool := r.job.isStore && (r.copying || r.pages + 1 ≤ r.done)

/-- The spare page that serves a page of a committed store until it is copied back (R362). -/
def State.servedBy (s : State) (p : Nat) : Option Nat :=
  match s.cellar.run with
  | none => none
  | some r =>
    if !r.committed then none
    else match r.job.index p with
      | none => none
      | some i => if r.copying ∧ i < r.done then none else some (r.sparePage i)

/-- A page belongs to a committed store and is not copied back, so it reads as the new image (R362). -/
def State.copyCovers (s : State) (p : Nat) : Bool := (s.servedBy p).isSome

/-- A cellar byte as the committed image has it (R362, R367). -/
def State.cellarByte (s : State) (a : Nat) : Byte :=
  if s.pageWrites (a / 256) = 0 ∧ !s.copyCovers (a / 256) then 0xFF
  else match s.recordAt a with
    | some b => b
    | none =>
      if opaquePage (a / 256) then Config.cellarByte (s.pageWrites (a / 256) + if s.copyCovers (a / 256) then 1 else 0) a
      else SMap.get erased s.cellar.mem a

/-- `n` cellar bytes. -/
def State.cellarBytes (s : State) (a n : Nat) : List Byte := (List.range n).map fun i => s.cellarByte (a + i)

/-- Set the wear warnings when a page reaches its limits (R366). -/
def State.wearCheck (s : State) (n : Nat) : State :=
  (s.setIf (90000000 ≤ n) CELLAR_STATUS.WEAR_WARN).setIf (100000000 ≤ n) CELLAR_STATUS.WEAR_LIMIT

/-- One page write: its count advances and its bit errors go (R366). -/
def State.pageWritten (s : State) (p : Nat) : State :=
  let n := s.pageWrites p + 1
  ({ s with cellar := { s.cellar with
      wear := SMap.put (fun _ => 0) s.cellar.wear p n
      errs := SMap.put (fun _ => 0) s.cellar.errs p 0 } }).wearCheck n

/-- Page writes of `n` pages from `p`. -/
def State.pagesWritten (s : State) (p n : Nat) : State := (List.range n).foldl (fun t i => t.pageWritten (p + i)) s

/-- Put bytes into the cellar image. -/
def State.cellarPut (s : State) (a : Nat) (bs : List Byte) : State :=
  { s with cellar := { s.cellar with mem := SMap.putAll erased s.cellar.mem a bs } }

/-- The page that a read of a page reads: during copy-back the spare page that serves it (R362). -/
def State.readPage (s : State) (p : Nat) : Nat := (s.servedBy p).getD p

/-- The bit errors that a read of a page meets: none in an erased page (R362, R367). -/
def State.readErrs (s : State) (p : Nat) : Nat := if s.pageWrites (s.readPage p) = 0 then 0 else s.pageErrs (s.readPage p)

/-- A page reads with more than 2 bit errors (R367). -/
def State.pageBad (s : State) (p : Nat) : Bool := 2 < s.readErrs p

/-- The ECC events of reading one page (R367). -/
def State.pageRead (s : State) (p : Nat) : State :=
  let e := s.readErrs p
  if e = 0 then s
  else if e ≤ 2 then (s.inc CELLAR_ECC_CNT.CORR).sets CELLAR_STATUS.ECC_CORR
  else ((s.inc CELLAR_ECC_CNT.FAIL).sets CELLAR_STATUS.ECC_FAIL).wr CELLAR_ECC_ADDR.ADDR (256 * s.readPage p)

/-- The pages that `n` bytes from `a` touch. -/
def pagesOf (a n : Nat) : List Nat :=
  if n = 0 then [] else (List.range ((a + n - 1) / 256 - a / 256 + 1)).map (a / 256 + ·)

/-- The ECC events of reading a range. -/
def State.rangeRead (s : State) (a n : Nat) : State := (pagesOf a n).foldl State.pageRead s

/-! ## Self-tests in progress (R421, R439) -/

/-- Planned self-tests run: those of a SHUTDOWN or of a boot stage. -/
def State.testing (s : State) : Bool := s.rd BIST_STATUS.RUN != 0

/-- The test in progress is one of these: its blocks are stopped (R421). -/
def State.underTest (s : State) (ts : List Nat) : Bool :=
  s.testing && s.on BIST_PROG.ACTIVE && ts.contains (s.rd BIST_PROG.CURRENT)

/-! ## A running scan reads on (R431) -/

/-- The pages that a read of `n` bytes from `a` begins to read, where it goes on from a read up to `a` or `first` begins. -/
def pagesBegun (first : Bool) (a n : Nat) : List Nat := (pagesOf a n).filter fun p => first || a ≤ 256 * p

/-- The engine reads on to byte `n` of its range, as the bytes stand now: the CRC and count, and the ECC events of cellar
pages (R367, R431). -/
def State.scanTo (s : State) (r : ScanRun) (n : Nat) : State :=
  let a := r.start + r.got
  let (bs, s1) := if r.space = 0 then (s.sramBytes a (n - r.got), s)
    else (s.cellarBytes a (n - r.got), (pagesBegun (r.got == 0) a (n - r.got)).foldl State.pageRead s)
  let raw := bs.foldl (crcByte r.alg) r.raw
  let s2 := { s1 with test := { s1.test with scan := some { r with got := n, raw := raw } } }
  (s2.wr CRC_SCAN_CRC.CRC (crcOut r.alg raw)).wr CRC_SCAN_COUNT.COUNT n

/-- How far a scan has come by now: a free value, whole beats beyond what it had read. -/
def ScanRun.reach (r : ScanRun) (n : Nat) : Nat := r.got + 32 * (Config.value n % ((r.len - r.got) / 32 + 1))

/-- A running scan has read on: each beat as it stood when read (R431). What changes the SRAM or the cellar's image does this
first. -/
def State.scanStep (s : State) : State :=
  match s.test.scan with
  | none => s
  | some r => let (n, s1) := s.fresh; s1.scanTo r (r.reach n)

/-! ## The cellar's writes -/

/-- One page write lasts 16 us (R359). -/
def pageNs : Nat := 16000

/-- The highest write count of the pages of a range (R305, R366). -/
def State.wearOf (s : State) (p n : Nat) : Nat :=
  (s.cellar.wear.filter fun e => p ≤ e.1 && e.1 < p + n).foldl (fun m e => max m e.2) 0

/-! ## Return-lane items and notices (R202 to R204, R267) -/

/-- Queue a CONTROL item for the return lane. -/
def State.pushCtl (s : State) (i : RlCtl) : State :=
  { s with daelo := { s.daelo with rl := { s.daelo.rl with ctl := s.daelo.rl.ctl ++ [i] } } }

/-- A notice: its code and data (R204). -/
def State.notice (s : State) (code : Nat) (data : List Byte) : State := s.pushCtl (.notice (leBytes 1 code ++ data))

/-! ## Replies (R248, R250, R258) -/

/-- The bytes of a reply packet (R250). -/
def replyBytes (seq status : Nat) (payload : List Byte) : List Byte :=
  let b := [0x6A#8] ++ leBytes 1 seq ++ leBytes 1 status ++ leBytes 2 payload.length ++ payload
  b ++ leBytes 2 (crc16 b)

/-- A reply that left the reply store is dropped from the return lane unless a fragment has gone (R274). -/
def State.evictReply (s : State) (serial : Nat) : State :=
  let waits (i : RlCtl) : Bool := match i with
    | .reply n _ begun => n == serial && !begun
    | .notice _ => false
  if s.daelo.rl.ctl.any waits then
    ({ s with daelo := { s.daelo with rl := { s.daelo.rl with ctl := s.daelo.rl.ctl.filter fun i => !waits i } } }).sets
      CMD_STATUS.REPLY_DROP
  else s

/-- Keep a reply in the reply store; a 17th evicts the oldest (R258). -/
def State.keep (s : State) (r : Reply) : State :=
  match s.cmd.kept ++ [r] with
  | o :: rest =>
    if rest.length < 16 then { s with cmd := { s.cmd with kept := o :: rest } }
    else ({ s with cmd := { s.cmd with kept := rest } }).evictReply o.serial
  | [] => s

/-- Produce a reply: it becomes the latest of its SEQ, is kept under R256, and goes to the return lane if its packet
came over a link. -/
def State.reply (s : State) (x : Ctx) (kept : Bool) (status : Nat) (payload : List Byte) : State :=
  let n := s.cmd.serial
  let s1 := { s with cmd := { s.cmd with
    serial := n + 1, answered := true
    last := (x.seq, status, payload) :: s.cmd.last.filter fun e => e.1 != x.seq } }
  let s2 := if isLink x.src then s1.pushCtl (.reply n (replyBytes x.seq status payload) false) else s1
  if kept then s2.keep ⟨x.ptype, x.len, x.seq, x.crc, status, payload, n⟩ else s2

/-! ## Handles and completions (R261 to R265) -/

/-- The entry of a handle. -/
def State.handle (s : State) (h : Nat) : Option HandleEnt := s.cmd.handles.find? (·.h == h)

/-- Entries of the handle table that have not completed. -/
def State.liveHandles (s : State) : Nat := (s.cmd.handles.filter (·.st != 3)).length

/-- Change the entry of a handle. -/
def State.setHandle (s : State) (h : Nat) (f : HandleEnt → HandleEnt) : State :=
  { s with cmd := { s.cmd with handles := s.cmd.handles.map fun e => if e.h == h then f e else e } }

/-- An entry of a queue belongs to a handle. -/
def QEnt.is (h : Nat) : QEnt → Bool
  | .cmd x _ => x.handle == h
  | .barrier b => b == h

/-- Take a handle out of every queue. -/
def State.dropQueued (s : State) (h : Nat) : State :=
  { s with cmd := { s.cmd with queues := s.cmd.queues.map fun q => q.filter fun e => !e.is h } }

/-- The command executed but its work continues: PENDING, out of its queue (R262). -/
def State.pend (s : State) (h : Nat) : State := (s.setHandle h fun e => { e with st := 2 }).dropQueued h

/-- A fence ceases to wait for a handle; an absolute FENCE_TICK whose count has passed is due when it becomes ready
(R270). -/
def Fence.settle (h : Nat) (ticks : Nat) (f : Fence) : Fence :=
  let w := f.waits.filter (· != h)
  match f.kind with
  | .absolute v => { f with waits := w, due := f.due || (w.isEmpty && !f.waits.isEmpty && (ticks + 2 ^ 32 - v) % 2 ^ 32 < 2 ^ 31) }
  | _ => { f with waits := w }

/-- The handle `a` was issued after `b` (R263). -/
def issuedAfter (a b : Nat) : Bool := (a + 65535 - b) % 65535 < 32768 && a != b

/-- A completion joins the queue: those of one core cycle stand in the order in which their handles were issued (R264). -/
def insertCpl (c : Completion) : List Completion → List Completion
  | [] => [c]
  | d :: r => if d.cycle = c.cycle ∧ issuedAfter d.h c.h then c :: d :: r else d :: insertCpl c r

/-- A completion finds the queue full (R265). -/
def State.cplLost (s : State) (h : Nat) : State :=
  let s1 := (s.inc CMD_CQ_STATUS.LOST).setHandle h fun e => { e with posted := false, lost := true }
  let s2 := if s.on CMD_STATUS.CQ_OVF then s1 else s1.notice 0x13 (leBytes 2 (s1.rd CMD_CQ_STATUS.LOST))
  s2.sets CMD_STATUS.CQ_OVF

/-- A completion joins the queue of 32 entries. Of the completions of one core cycle that find it full, those of the handles
issued last are lost (R264, R265). -/
def State.enqueueCpl (s : State) (c : Completion) : State :=
  let q := insertCpl c s.cmd.cq
  let s1 := { s with cmd := { s.cmd with cq := q.take 32 } }.setHandle c.h fun e => { e with posted := true }
  (q.drop 32).foldl (fun t d => t.cplLost d.h) s1

/-- Post a completion (R264). Notices go out in the order in which the model executes, also those of one core cycle (DESIGN CHOICE,
log entry 22: R264 orders the posting, and R267 only says that each notice is sent in the order in which it arose). -/
def State.post (s : State) (e : HandleEnt) : State :=
  let t := BitVec.ofNat 32 s.tickCount
  let s1 := if e.cqSkip then s else s.enqueueCpl ⟨e.h, e.op, e.status, t, s.cycle⟩
  if s1.on CMD_CTRL.NOTIFY_CPL then
    s1.notice 0x10 (leBytes 2 e.h ++ leBytes 1 e.op ++ leBytes 1 e.status ++ leBytes 4 t.toNat)
  else s1

/-- A queued command enters DONE with its final status and result bytes (R262, R264, R281). A handle that is not in
the table, or is DONE already, is left as it is. -/
def State.finish (s : State) (h status : Nat) (result : List Byte) : State :=
  match s.handle h with
  | none => s
  | some e =>
    if e.st = 3 then s
    else
      let e' := { e with st := 3, status := status, result := (result ++ List.replicate 16 0).take 16,
                         ticks := BitVec.ofNat 32 s.tickCount, order := s.cmd.dones }
      let s1 := (s.setHandle h fun _ => e').dropQueued h
      let s2 := { s1 with cmd := { s1.cmd with dones := s1.cmd.dones + 1,
                                               fences := s1.cmd.fences.map (Fence.settle h s.tickCount) } }
      s2.post e'

/-- The bytes of a notice, with another status where it is the COMPLETION notice of a handle (R267). -/
def renote (h status : Nat) (i : RlCtl) : RlCtl :=
  match i with
  | .notice p => .notice (if p.take 3 = leBytes 1 0x10 ++ leBytes 2 h then p.set 4 (BitVec.ofNat 8 status) else p)
  | r => r

/-- A command that has completed in this core cycle completes with another status and result instead (R91, R230): in its handle
entry, in the completion queue and in its notice. -/
def State.recomplete (s : State) (h status : Nat) (result : List Byte) : State :=
  let t := s.setHandle h fun e => { e with status := status, result := (result ++ List.replicate 16 0).take 16 }
  { t with
    cmd := { t.cmd with cq := t.cmd.cq.map fun c => if c.h == h then { c with status := status } else c }
    daelo := { t.daelo with rl := { t.daelo.rl with ctl := t.daelo.rl.ctl.map (renote h status) } } }

/-- The outcome of a command: the reply of an immediate one (handle 0), else the final status and result. -/
def State.answer (s : State) (x : Ctx) (status : Nat) (payload : List Byte) : State :=
  if x.handle = 0 then s.reply x true status payload else s.finish x.handle status payload

/-- The handle that is issued next (R263). -/
def State.nextHandle (s : State) : Nat := s.cmd.issued % 65535 + 1

/-- Evict the entry of the command that completed first (R263). -/
def evictDone (hs : List HandleEnt) : List HandleEnt :=
  let done := hs.filter (·.st == 3)
  match done.foldl (fun (m : Option HandleEnt) e => match m with
      | none => some e
      | some f => if e.order < f.order then some e else m) none with
  | none => hs
  | some f => hs.filter (·.h != f.h)

/-- Issue the next handle for an opcode (R263); HANDLE_FULL is set when every entry is then live. -/
def State.issue (s : State) (op queue : Nat) (cqSkip : Bool) : State :=
  let hs := if s.cmd.handles.length < 64 then s.cmd.handles else evictDone s.cmd.handles
  let s1 := { s with cmd := { s.cmd with
    issued := s.cmd.issued + 1
    handles := hs ++ [HandleEnt.mk s.nextHandle op 0 1 queue cqSkip false false 0 (List.replicate 16 0) 0] } }
  s1.setIf (s1.liveHandles == 64) CMD_STATUS.HANDLE_FULL

/-! ## Statuses (R279) -/

def stOk : Nat := 0x00
def stAccepted : Nat := 0x01
def stDuplicate : Nat := 0x02
def stBadCrc : Nat := 0x10
def stBadLength : Nat := 0x11
def stBadParam : Nat := 0x13
def stConflict : Nat := 0x14
def stLocked : Nat := 0x15
def stQueueFull : Nat := 0x16
def stNotNow : Nat := 0x17
def stUnknown : Nat := 0x18
def stAborted : Nat := 0x20
def stThermal : Nat := 0x21
def stInterrupted : Nat := 0x22
def stCalRejected : Nat := 0x23
def stVerify : Nat := 0x24
def stInsuff : Nat := 0x25
def stRefused : Nat := 0x30

/-! ## LED supply (R382) -/

/-- Hold PH0 to PH3 low. -/
def State.ledOff (s : State) : State :=
  ({ s with power := { s.power with led := 0, drop := 0, rising := false } }).wr POWER_STATUS.LED_REG 0

/-- Begin a soft start, if the supply is held low. It stays low outside ACTIVE (R382), in a held boot, where it has no
target (R466), and during SHUTDOWN (R292). -/
def State.ledStart (s : State) : State :=
  if s.power.led = 0 ∧ !s.boot.held ∧ !s.power.shutHold ∧ s.powerState = 0 then { s with power := { s.power with led := 1 } } else s

/-! ## Safe states (R209 to R234) -/

/-- Causes that a state latched until reset keeps present (R228): SC_WDOG, SF_WDOG, SEAL_FAULT, PARITY, SENSOR_PAIR,
ROWKILL_LIMIT. -/
def resetCauses : Nat := 0x3D80

/-- Causes whose state is DARK (R228): DK_REQ, SF_WDOG, OVERTEMP, ROWKILL_LIMIT, NO_LIMP_BEAM. -/
def darkCauses : Nat := 0x6301

/-- The mask of one cause. -/
def cause (i : Nat) : Nat := 2 ^ i

/-- The conditions of R228 that hold now (SAFE_CAUSE.PRESENT). -/
def State.causesPresent (s : State) : Nat :=
  let b (c : Bool) (i : Nat) : Nat := if c then 2 ^ i else 0
  b (s.safe.dk.agreed == some true) 0 + b (s.safe.sb.agreed == some true) 1
    + b s.safe.dk.since.isSome 2 + b s.safe.sb.since.isSome 3 + s.safe.guardPresent
    + Nat.land (s.rd SAFE_CAUSE.LATCHED) resetCauses + b (s.therm.shutA || s.therm.shutL) 9
    + b (!s.on PIPE_FILL_STATUS.BEAM_VALID) 14 + b s.group.groupPresent 15

/-- The latched causes that prevent a release (R229). -/
def State.blocking (s : State) : Nat :=
  Nat.land (s.rd SAFE_CAUSE.LATCHED) (Nat.lor s.causesPresent resetCauses)

/-- A cut window that darkens something; rows above 639 are treated as 639 (R77). -/
def Cut.acts (c : Cut) : Bool := c.en && min c.rect.y0 639 ≤ min c.rect.y1 639 && c.rect.g0 ≤ c.rect.g1

/-- The segments of `a` outside `b`, as rectangles. -/
def Rect.minus (a b : Rect) : List Rect :=
  if a.y1 < b.y0 ∨ b.y1 < a.y0 ∨ a.g1 < b.g0 ∨ b.g1 < a.g0 then [a]
  else
    let y0 := max a.y0 b.y0
    let y1 := min a.y1 b.y1
    (if a.y0 < b.y0 then [⟨a.y0, b.y0 - 1, a.g0, a.g1⟩] else []) ++ (if b.y1 < a.y1 then [⟨b.y1 + 1, a.y1, a.g0, a.g1⟩] else [])
      ++ (if a.g0 < b.g0 then [⟨y0, y1, a.g0, b.g0 - 1⟩] else []) ++ (if b.g1 < a.g1 then [⟨y0, y1, b.g1 + 1, a.g1⟩] else [])

/-- The segments that a window covers: rows above 639 are treated as 639 (R77). -/
def Cut.area (c : Cut) : Rect := { c.rect with y0 := min c.rect.y0 639, y1 := min c.rect.y1 639 }

/-- The areas of the windows that act in a list of 16. -/
def actingRects (cs : List Cut) : List Rect := (cs.filter Cut.acts).map Cut.area

/-- The segments of some rectangles outside others, as rectangles. -/
def subtract (ps rs : List Rect) : List Rect := rs.foldl (fun ps r => ps.flatMap fun p => p.minus r) ps

/-- The parts of the area of a released window that no window covers any longer. -/
def releasedParts (cuts : List Cut) (old : Cut) : List Rect := subtract [old.area] (actingRects cuts)

/-- The segments of bank `b` that RELEASE_SYNC keeps dark (R80). -/
def State.heldRects (s : State) (b : Nat) : List Rect := (s.array.held.filter (·.1 == b)).map (·.2.1)

/-- Window `w` is replaced (R75). With RELEASE_SYNC, the segments that no window covers any longer stay dark in every
bank until that bank's next write window ends: a window that is open already does not count (R80). Without it those that
nothing else holds dark are driven again in the lit interval in progress (R82). -/
def State.cutReplace (s : State) (w : Nat) (c : Cut) : State :=
  let old := s.array.cuts.getD w ⟨⟨0, 0, 0, 0⟩, false⟩
  let cuts := s.array.cuts.set w c
  let gone := if old.acts then releasedParts cuts old else []
  let left := if s.on ARRAY_CUT_CTRL.RELEASE_SYNC then gone else []
  let bar := if s.on ARRAY_CUT_CTRL.RELEASE_SYNC then s.array.litBar
    else s.array.litBar.flatMap fun e => (subtract [e.2] (subtract gone (s.heldRects e.1))).map fun r => (e.1, r)
  { s with array := { s.array with
      cuts := cuts, litBar := bar
      held := s.array.held ++ left.flatMap fun r => (List.range 8).map fun b => (b, r, s.array.parked.contains b) } }

/-- Window `w` is disabled by hardware: EN reads 0, the rest stays (R75, R81). -/
def State.cutOff (s : State) (w : Nat) : State :=
  (s.cutReplace w { s.array.cuts.getD w ⟨⟨0, 0, 0, 0⟩, false⟩ with en := false }).wr (ARRAY_CUT_COLS.EN w) 0

/-- Every cut window is disabled (R81), whatever path updates it in the same core cycle. -/
def State.cutsOff (s : State) : State :=
  (List.range 16).foldl State.cutOff { s with array := { s.array with cutSpi := [] } }

/-- A record of the boot and fault ring, which keeps the last 64 (R473): one page write (R366). -/
def State.ringAppend (s : State) (r : RingRec) : State :=
  let l := s.cellar.ring ++ [r]
  let t := s.scanStep
  ({ t with cellar := { t.cellar with ring := l.drop (l.length - 64), ringNext := s.cellar.ringNext + 1 } }).pageWritten
    (ringPage + s.cellar.ringNext % 64)

/-- The fault record of an entry to a safe state (R473). -/
def State.faultRecord (s : State) : State :=
  s.ringAppend ⟨false, [BitVec.ofNat 32 (s.rd SAFE_CAUSE.LATCHED + 65536 * s.causesPresent)], s.tick.tb,
    BitVec.ofNat 32 s.tickCount⟩

/-- Kept samples of one fit of a calibration run. -/
def CalRun.fit (r : CalRun) (strip colour : Nat) : List CalPoint := r.points.filter fun p => p.strip == strip && p.colour == colour

/-- The strip and colour pairs that a run selects, strip first. -/
def CalRun.pairs (r : CalRun) : List (Nat × Nat) :=
  (List.range 8).flatMap fun s => (List.range 2).filterMap fun c =>
    if bitN r.strips s && bitN r.colours c then some (s, c) else none

/-- `CAL_LAST` for a run (R436). -/
def State.calLast (s : State) (r : CalRun) : State :=
  (s.wr CAL_LAST.FRAMES (min 65535 r.frames)).wr CAL_LAST.SAMPLES
    ((r.pairs.map fun p => (r.fit p.1 p.2).length).foldl min 65535)

/-- A calibration run ends without effect: status bit of CAL_STATUS, final status (R308, R417, R418). -/
def State.calEnd (s : State) (bit : Fld) (status : Nat) : State :=
  match s.cal.run with
  | none => s
  | some r =>
    let failed := if r.handle = 0 then some s.now else s.cal.lastFail
    (((({ s with cal := { s.cal with run := none, lastFail := failed } }).wr CAL_STATUS.PHASE 0).wr CAL_STATUS.AUTO_RUN 0).sets bit
      |>.calLast r).finish r.handle status (leBytes 2 0 ++ leBytes 2 r.frames)

/-- What every entry to LIMP or DARK does (R210): windows, FAULT_N (a function of the state), status, notice, record;
the fill unit takes the whole face, the strip engines stop and the prediction pass of the frame is not used (R120), and a
calibration run is interrupted (R418). -/
def State.enterSafe (s : State) (st : Nat) : State :=
  let s1 := (s.cutsOff.wr SAFE_STATUS.STATE st).sets SAFE_STATUS.STATE_EV
  let s2 := ({ s1 with
      pipe := { s1.pipe with fillAll := true, limpTick := true, compFresh := false, dispFresh := false }
      tick := { s1.tick with passRunning := false, passWait := false, passDone := false } }).wr
    PIPE_SE_CTRL.ACTIVE 0
  let s3 := s2.notice 0x11 (leBytes 1 st ++ leBytes 2 (s2.rd SAFE_CAUSE.LATCHED) ++ leBytes 4 s2.tickCount)
  (s3.faultRecord).calEnd CAL_STATUS.INTERRUPTED stInterrupted

/-- LIMP is lit: a packet has been seen, or AUTO_LIMP applies (R234). `late`: the limp load is not yet judged. -/
def State.limpLit (s : State) : Bool :=
  s.on SAFE_STATUS.HOST_SEEN ||
    (s.boot.limpJudged && s.on SAFE_CTRL.AUTO_LIMP && bitN (s.rd SAFE_CAUSE.LATCHED) 1 && s.on PIPE_FILL_STATUS.BEAM_VALID)

/-- No handshake is in progress, and no departure announced. -/
def State.hsClear (s : State) : State :=
  { s with power := { s.power with hs := none }, group := { s.group with departing := false } }

/-- A power-state handshake ends: refused blocks, final status (R386). -/
def State.hsEnd (s : State) (status mask : Nat) : State :=
  match s.power.hs with
  | none => s
  | some h => s.hsClear.finish h.handle status (leBytes 4 mask)

/-- Entry to DARK (R210, R212). -/
def State.enterDark (s : State) : State := ((s.enterSafe 2).wr SAFE_STATUS.UNLIT 0).ledOff

/-- From IDLE an entry to LIMP returns the device to ACTIVE (R384). -/
def State.limpActive (s : State) : State :=
  if s.powerState = 1 then { s.wr POWER_STATUS.STATE 0 with pipe := { s.pipe with noFrame := true } } else s

/-- The throttle factor at entry (R120); a SHUTDOWN will end INTERRUPTED (R423). -/
def State.limpMark (s : State) : State :=
  { s with safe := { s.safe with limpTau := s.rd THERM_THROTTLE.TAU }
           power := { s.power with shut := s.power.shut.map fun h => { h with limp := true } } }

/-- Entry to LIMP (R210, R211, R234). -/
def State.enterLimp (s : State) : State :=
  let t := (s.enterSafe 1).limpActive.limpMark
  if t.limpLit then t.ledStart else t.ledOff.wr SAFE_STATUS.UNLIT 1

/-- An unlit LIMP is lit once HOST_SEEN, or AUTO_LIMP with SB_REQ and a beam, allows it (R234). -/
def State.lightLimp (s : State) : State :=
  if s.safety = 1 && s.limpLit then (s.wr SAFE_STATUS.UNLIT 0).ledStart else s

/-- The state change that newly latched causes ask for (R209, R233). In LIMP already, an SB_REQ may light the beam (R234). -/
def State.react (s : State) (mask : Nat) : State :=
  if Nat.land mask darkCauses ≠ 0 then (if s.safety = 2 then s else s.enterDark)
  else if s.safety = 1 then s.lightLimp
  else if s.safety ≠ 0 then s
  else if s.on PIPE_FILL_STATUS.BEAM_VALID || !s.boot.limpJudged then s.enterLimp
  else (s.wr SAFE_CAUSE.LATCHED (Nat.lor (s.rd SAFE_CAUSE.LATCHED) (cause 14))).enterDark

/-- Every waiting release from DARK is refused and the supply is shut down again (R229, R230): the bitmap and byte 2 of
the result (R318). -/
def State.releaseRefused (s : State) (bitmap byte2 : Nat) : State :=
  s.safe.release.foldl (fun t h => t.finish h stRefused (leBytes 2 bitmap ++ leBytes 1 byte2))
    (({ s with safe := { s.safe with release := [] } }).ledOff)

/-- A mask holds a cause whose state is LIMP (R228). -/
def limpCause (mask : Nat) : Bool := Nat.land mask (65535 - darkCauses) != 0

/-- The release that has taken effect in this core cycle, if one has. -/
def State.releaseNow (s : State) : Option Released :=
  match s.safe.released with
  | some r => if r.cycle = s.cycle ∧ s.safety = 0 then some r else none
  | none => none

/-- The notice that a release has taken effect (R229). -/
def normalNotice (ticks : Nat) : RlCtl := .notice (leBytes 1 0x11 ++ leBytes 1 0 ++ leBytes 2 0 ++ leBytes 4 ticks)

/-- The effects of a release are taken back: the state, the latched bits and the guard runs are those before it, its notice is
not sent, and a supply that it started, or that was restarted for it, is shut down again (R230). -/
def State.releaseBack (s : State) (r : Released) : State :=
  let s1 := ((((s.wr SAFE_CAUSE.LATCHED r.latched).wr SAFE_GUARD_STAT.DISC_RUN r.runs.1).wr SAFE_GUARD_STAT.SINGLE_RUN r.runs.2.1).wr
    SAFE_GUARD_STAT.HOLD_RUN r.runs.2.2).wr SAFE_STATUS.STATE r.state
  let s2 := (s1.wr SAFE_STATUS.STATE_EV r.event).wr SAFE_STATUS.UNLIT r.unlit
  let s3 := { s2 with
    safe := { s2.safe with released := none }
    daelo := { s2.daelo with rl := { s2.daelo.rl with
      ctl := (s2.daelo.rl.ctl.reverse.eraseP (· == normalNotice s.tickCount)).reverse } } }
  (if r.state = 2 ∨ r.led = 0 then s3.ledOff else s3).cutsOff

/-- Causes arise in the core cycle in which a release has taken effect: they win, and the release completes SAFETY_REFUSED with
the causes that prevent it (R229, R230, R318, log entry 22). -/
def State.releaseLoses (s : State) (mask : Nat) : State :=
  match s.releaseNow with
  | none => s
  | some r =>
    let t := s.releaseBack r
    let b := Nat.lor mask (t.wr SAFE_CAUSE.LATCHED (Nat.lor r.latched mask)).blocking
    r.handles.foldl (fun t h => t.recomplete h stRefused (leBytes 2 b ++ leBytes 1 0)) t

/-- Causes arise (R209, R228 to R230): a release of the same core cycle loses, they are latched, a waiting release from DARK is
refused, a power-state handshake ended by a LIMP cause (R386), the state changed. -/
def State.raise (s : State) (mask : Nat) : State :=
  let s0 := s.releaseLoses mask
  let s1 := s0.wr SAFE_CAUSE.LATCHED (Nat.lor (s0.rd SAFE_CAUSE.LATCHED) mask)
  let s2 := if s1.safe.release.isEmpty then s1 else s1.releaseRefused (Nat.lor mask s1.blocking) 0
  (if limpCause mask then s2.hsEnd stRefused 0 else s2).react mask

/-! ## Parity (R339 to R341) -/

/-- A parity error is recorded and, for a safety-class register, raises PARITY (R341). -/
def State.reportParity (s : State) (a : Nat) : State :=
  let s1 := ({ s with since := { s.since with reported := a :: s.since.reported } }).inc SYS_PARITY_CNT.COUNT
  let s2 := if s.on SYS_STATUS.PARITY_ERR then s1
    else (s1.wr SYS_PARITY_ADDR.ADDR a).wrB SYS_PARITY_ADDR.SAFETY (safetyClass a)
  let s3 := s2.sets SYS_STATUS.PARITY_ERR
  if safetyClass a then s3.raise (cause 11) else s3

/-- The parity of a register is checked; an error is reported once (R340, R341). -/
def State.checkParity (s : State) (a : Nat) : State :=
  if s.since.upset.contains a && !s.since.reported.contains a then s.reportParity a else s

/-- Every covered register is checked: at wake, and with the registers latched at a tick (R340). Between two ticks the
scrubber has swept all of them. -/
def State.sweepParity (s : State) : State := s.since.upset.foldl State.checkParity s

/-! ## Change log (R244, R245) -/

/-- Enter an event in the change log. A full queue drops it, and its NUMBER is passed over (R244, R245). R245 says so of kind 1,
and keeps kind 0 out of a full queue; that entries of kinds 2 to 6 are dropped and counted like those of kind 1 is the
model's (DESIGN CHOICE, log entry 104). -/
def State.log (s : State) (addr : Nat) (old new : Word) (source kind : Nat) : State :=
  let n := s.rd SAFE_LOG_STATUS.NEXT
  let s1 := s.wr SAFE_LOG_STATUS.NEXT ((n + 1) % 65536)
  if s.safe.log.length < 16 then
    let e := LogEnt.mk s.tick.tb (BitVec.ofNat 32 s.tickCount) addr old new source kind n (s.rd TICK_EPOCH.EPOCH)
    { s1 with safe := { s1.safe with log := s.safe.log ++ [e] } }
  else (s1.inc SAFE_LOG_STATUS.DROPPED).sets SAFE_STATUS.LOG_DROP

/-- The bytes of a log entry (R244). -/
def LogEnt.bytes (e : LogEnt) : List Byte :=
  let b := leBytes 8 e.tb.toNat ++ leBytes 4 e.ticks.toNat ++ leBytes 4 e.addr ++ leBytes 4 e.old.toNat ++ leBytes 4 e.new.toNat
    ++ leBytes 1 e.source ++ leBytes 1 e.kind ++ leBytes 2 e.number ++ leBytes 2 e.epoch
  b ++ leBytes 2 (crc16 b)

end Sys2Proof.Machine
end

