-- ==== Sys2Proof/Machine/Flags.lean ====
section
/-!
DEFINITION. The flags computed from the state: which RC bits have their cause present (R336), the interrupt summary
(R266), the pins (R213, R266, R382, R71), and `settle`, which every command ends with.
-/
namespace Sys2Proof.Machine

/-- A lane in DATA ended training below target (the cause of LINK_STATUS.MARGIN_LOW). -/
def State.marginLow (s : State) : Bool :=
  let w := s.reg 0x800C
  (List.range 4).any fun n => fget w (8 * n) 3 == 4 && fget w (8 * n + 6) 1 == 1

/-- A link is LAME (R184). -/
def State.anyLame (s : State) : Bool := s.rd LINK_STATUS.STATE_A == 2 || s.rd LINK_STATUS.STATE_B == 2

/-- Near misses of the last 10 s reach NEAR_LIMIT on a pair (R225). -/
def State.degraded (s : State) : Bool :=
  let lim := s.rd SAFE_CTRL.NEAR_LIMIT
  lim != 0 && (lim ≤ s.safe.sb.near.length || lim ≤ s.safe.dk.near.length)

/-- A SHORT entry of the fault list lies in a row that is not killed (STUCK_UNKILLED). -/
def State.stuckUnkilled (s : State) : Bool :=
  s.array.faults.any fun e => e.short && !(s.array.killed.any fun k => k.1 == e.em.y)

/-- A page of the cellar has at least `n` writes. -/
def State.worn (s : State) (n : Nat) : Bool := s.cellar.wear.any fun e => n ≤ e.2

/-- The cause of the RC bit `bit` of the register at `a` is present (R336). -/
def State.rcCause (s : State) (cfgErr : Nat → Bool) (a bit : Nat) : Bool :=
  if a = 0x2014 then s.rd TICK_STATUS.FSYNC_STATE != 2
  else if a = 0x3004 then (if bit = 1 then s.array.faults.length == 1024 else s.stuckUnkilled)
  else if a = 0x4004 then (if bit = 2 then s.pipe.unmet else s.rd PIPE_TCOMP_STATUS.SUBST != 0)
  else if 0x5000 ≤ a ∧ a < 0x5800 then cfgErr (a / 256 % 8)
  else if 0x6000 ≤ a ∧ a < 0x6800 then
    (let n := a / 256 % 8
     let c := s.layer.active.getD n LayerCfg.init
     let w := c.lay.getD 0 0
     fget w 0 1 == 1 && fget w 4 1 == 1 && fget w 1 3 < 2 && s.rd (SCALE_STATUS.TAPS_V_USED n) < fget (c.sc.getD 0 0) 4 3)
  else if a = 0x8004 then (if bit = 9 then s.anyLame else s.marginLow)
  else if a = 0x9000 then s.degraded
  else if a = 0x1004 then s.liveHandles == 64
  else if a = 0x0004 then s.cmd.rejFifo.length == 16
  else if a = 0xB004 then s.worn (if bit = 8 then 90000000 else 100000000)
  else if a = 0xC004 then (if bit = 12 then s.power.vbatLow else if bit = 14 then s.power.vsysLow else s.power.sfDev)
  else if a = 0xD004 then
    (if bit = 0 then s.therm.warnA else if bit = 1 then s.therm.warnL
     else if bit = 2 then s.rd THERM_THROTTLE.TAU < 32768 else if bit = 3 then s.therm.thrL || s.on THERM_THROTTLE.OP_CAP
     else s.therm.ntcWarn.any id)
  else if a = 0x11004 then
    (if bit = 0 then s.rd GROUP_STATUS.SYNC == 4 else if bit = 1 then s.group.sealPresent
     else if bit = 2 then s.group.compatPresent else if bit = 3 then s.group.fwPresent
     else if bit = 4 then s.group.missingPresent else s.group.conflict)
  else if a = 0x12004 then s.sat.fallback && s.on SAT_CFG.EN && 1 ≤ s.rd SAT_CFG.LEN
  else false

/-! ## Interrupts (R266) -/

/-- LAYER_COMP_STATUS.LAYER_EV: bit n is 1 while a W1C or RC bit of LAYER_n_STATUS is 1. -/
def State.layerEv (s : State) : Nat :=
  ((List.range 8).map fun n => if (s.reg (0x5040 + 0x100 * n)).toNat % 512 = 0 then 0 else 2 ^ n).sum

/-- The fill unit drives the whole face (R120, R121, R469). -/
def State.wholeFill (s : State) : Bool := s.pipe.fillAll || s.pipe.noFrame || s.safety != 0

/-- Bits 4 to 6 of PIPE_STATUS: TRIM_INVALID, SE_OFF and LIMP_DRIVE, which are 0 while reset is held (R123). -/
def State.pipeStates (s : State) : Nat :=
  if s.boot.stage = 0 then 0
  else (if s.pipe.trimValid then 0 else 1) + (if s.rd PIPE_SE_CTRL.RUN = 255 then 0 else 2)
    + (if s.wholeFill then 4 else 0)

/-- The status bits of block `i`, at the places of its enables. -/
def State.irqStatus (s : State) (i : Nat) : Nat :=
  match i with
  | 0 => (s.reg 0x0004).toNat % 32
  | 1 => (s.reg 0x1004).toNat / 2 % 128 * 2 + (if s.cmd.cq.isEmpty then 0 else 1)
  | 2 => (s.reg 0x2014).toNat
  | 3 => (s.reg 0x3004).toNat
  | 4 => Nat.land (s.reg 0x4004).toNat 0x18F + s.pipeStates * 16
  | 5 => s.layerEv
  | 6 => ((List.range 8).map fun n => s.rd (SCALE_STATUS.LINEBUF_SHORT n) * 2 ^ n).sum
  | 7 => (s.reg 0x7000).toNat / 16
  | 8 => (s.reg 0x8004).toNat
  | 9 => (s.reg 0x9000).toNat
  | 10 => (s.reg 0xA004).toNat
  | 11 => (s.reg 0xB004).toNat
  | 12 => (s.reg 0xC004).toNat
  | 13 => (s.reg 0xD004).toNat
  | 14 => (s.reg 0xE004).toNat
  | 15 => (s.reg 0xF000).toNat
  | 16 => (s.reg 0x10000).toNat
  | 17 => (s.reg 0x11004).toNat
  | 18 => (s.reg 0x12004).toNat
  | _ => (s.reg 0x13000).toNat

/-- The address of the IRQ_EN register of each block. -/
def irqEnAddr : List Nat :=
  [0x0008, 0x1008, 0x2018, 0x3008, 0x4008, 0x580C, 0x6804, 0x7018, 0x8008, 0x9008, 0xA008, 0xB008, 0xC008, 0xD008,
   0xE008, 0xF004, 0x10004, 0x11008, 0x12008, 0x13004]

/-- Block `i` has a status bit set whose enable is set. -/
def State.irqOf (s : State) (i : Nat) : Bool := Nat.land (s.irqStatus i) (s.reg (irqEnAddr.getD i 8)).toNat != 0

/-- CMD_IRQ_SRC (R266). -/
def State.irqSrc (s : State) : Nat := ((List.range 20).map fun i => if s.irqOf i then 2 ^ i else 0).sum

/-! ## Pins -/

/-- Reset is held: boot stage 1 (stage 3 of a warm boot) has not begun (R460). -/
def State.inReset (s : State) : Bool := s.boot.stage == 0

/-- The device sleeps or is off (R383). -/
def State.sleeping (s : State) : Bool := s.power.asleep.isSome

/-- The 25 MHz reference runs: not in a cold reset, nor in SLEEP and OFF (R383, R458, R460). -/
def State.refRuns (s : State) : Bool := !(s.inReset && s.boot.cold) && !s.sleeping

/-- IRQ_N is asserted (R266): in reset and sleep it is released (R460). -/
def State.irqN (s : State) : Bool := !s.inReset && s.irqSrc != 0

/-- FAULT_N is asserted (R213): until boot completes, in LIMP and in DARK. -/
def State.faultN (s : State) : Bool := s.boot.stage < 11 || s.safety != 0

/-- PH0 to PH3 are held low (R381, R382). -/
def State.phLow (s : State) : Bool := s.power.led == 0 || s.power.ov || s.power.vbatStop || s.power.vbatHigh

/-- Force-zero of R71: reset, DARK, an agreed dark request, the dark slot, a soft start, SHUTDOWN (R292), and the states
in which the array is not driven (R383). -/
def State.forceZero (s : State) : Bool :=
  s.inReset || s.safety == 2 || s.safe.dk.agreed == some true || s.tick.dark || s.power.led == 1 || s.power.shutHold
    || s.powerState != 0

/-- The limp clamp acts (R71): LIMP, or an agreed SB request. -/
def State.limpClamp (s : State) : Bool := s.safety == 1 || s.safe.sb.agreed == some true

/-- `now` lies in an interval. -/
def State.during (s : State) (i : Option (Nat × Nat)) : Bool := match i with | some (a, b) => a ≤ s.now && s.now < b | none => false

/-- TICK_OUT is active by its MODE (R49). -/
def State.tickOutActive (s : State) : Bool :=
  (s.tick.outMode % 2 == 1 && s.during s.tick.outTick) || (2 ≤ s.tick.outMode && s.during s.tick.outDark)

/-- The level of TICK_OUT (R49, R50): active is high with POL = 0; in reset and in sleep the pin is at its reset state. -/
def State.tickOutHigh (s : State) : Bool :=
  if s.inReset || s.sleeping then false else s.tickOutActive != (s.tick.outPol == 1)

/-- T_BIT in ns, and the high time of a bit (R452). -/
def satBit (timing : Nat) : Nat := [500, 1000, 1250, 2500].getD timing 500
def satHigh (timing : Nat) (b : Bool) : Nat := (if b then [350, 700, 800, 1600] else [150, 300, 400, 800]).getD timing 150

/-- The level of SAT_DO (R452, R453): each word from bit 47 down, each bit high and then low; low after the last word, where
no frame is being sent, and with EN = 0 or LEN = 0. -/
def State.satDoHigh (s : State) : Bool :=
  match s.sat.start with
  | none => false
  | some t =>
    let bit := satBit s.sat.timing
    let b := (s.now - t) / bit
    match s.sat.sent[b / 48]? with
    | none => false
    | some w => s.on SAT_CFG.EN && 1 ≤ s.rd SAT_CFG.LEN && (s.now - t) % bit < satHigh s.sat.timing (bitN w.toNat (47 - b % 48))

/-- Every command ends so: the pins follow the state, and IRQ_N becoming asserted sends its notice (R267). -/
def settle (s : State) : State :=
  let s1 := if s.irqN && !s.pins.irq && s.on CMD_CTRL.NOTIFY_IRQ then s.notice 0x12 (leBytes 4 s.irqSrc) else s
  { s1 with pins := { s1.pins with irq := s.irqN, fault := s.faultN, phLow := s.phLow, forceZero := s.forceZero, tickOut := s.tickOutHigh, satDo := s.satDoHigh }
            since := { s1.since with
              litZero := if s.forceZero then s1.since.litZero else [], clamped := s1.since.clamped || s.limpClamp
              ran := Nat.lor s1.since.ran (s.rd PIPE_SE_CTRL.ACTIVE) } }

end Sys2Proof.Machine
end

