-- ==== Sys2Proof/Machine/Arbiter.lean ====
section
/-!
DEFINITION. The bank arbiters: ports, transactions, grants, burst limits, wait hints, remaps, stuck and starved requesters
(R346 to R354).
-/
namespace Sys2Proof.Machine

/-! ## The input map (R346, R351) -/

/-- The input that `MEM_INMAP` gives each requester 0 to 6 (R351). -/
def inmapOf (v : Word) : List Nat := (List.range 7).map fun i => fget v (4 * i) 3

/-- A map assigns the seven requesters to seven different inputs 0 to 6 (R351). -/
def inmapOk (v : Word) : Bool := (inmapOf v).all (· < 7) && (List.range 7).all fun i => (inmapOf v).contains i

/-- The map takes effect, or the one in force is kept and MAP_REJECT is set (R351). `MEM_INMAP` itself has been
written. The next arbitration of every bank uses the map then in force. -/
def State.inmapWritten (s : State) (v : Word) : State :=
  if inmapOk v then (List.range 7).foldl (fun t i => t.wr ⟨0xA010, 4 * i, 3⟩ (fget v (4 * i) 3)) s
  else s.sets MEM_STATUS.MAP_REJECT

/-- What the arbiters take from the registers: the input of each requester and the burst limit of each input, 0 for
none. -/
structure ArbCfg where
  input : Nat → Nat
  limit : Nat → Nat

/-- The settings in force (R346, R349, R351): requester 7, SF, is fixed at input 7. -/
def State.arbCfg (s : State) : ArbCfg :=
  ⟨fun r => if r = 7 then 7 else s.rd ⟨0xA010, 4 * r, 3⟩, fun i => s.rd (MEM_BURST.LIMIT i)⟩

/-! ## Ports and transactions (R346, R347) -/

/-- Ports of a requester (R346). -/
def portsOf (req : Nat) : Nat := if req = 6 then 8 else if req = 5 ∨ req = 4 ∨ req = 3 then 2 else 1

/-- The bank of a transaction. -/
def Xact.bank (x : Xact) : Nat := x.addr / 1048576

/-- Two entries belong to one port. -/
def Xact.samePort (x : Xact) (req port : Nat) : Bool := x.req == req && x.port == port

/-- A port has a transaction outstanding. -/
def ArbSt.busy (a : ArbSt) (req port : Nat) : Bool := a.xacts.any (·.samePort req port)

/-- A port without an outstanding transaction takes its next one: at most one is outstanding (R347). -/
def ArbSt.next (a : ArbSt) (req port : Nat) : ArbSt :=
  if a.busy req port then a
  else match a.buffer.find? (·.samePort req port) with
    | none => a
    | some x => { a with xacts := a.xacts ++ [x], buffer := a.buffer.erase x }

/-- The single-bank transactions of an operation over the 32-byte units `u` to `u + n - 1` of the SRAM (R347): `fuel` banks
at most. -/
def splitOp (req port : Nat) (write : Bool) : Nat → Nat → Nat → List Xact
  | 0, _, _ => []
  | fuel + 1, u, n =>
    if n = 0 then []
    else
      let k := min n (32768 - u % 32768)
      ⟨req, port, 32 * u, write, k, true, 0, false, 0⟩ :: splitOp req port write fuel (u + k) (n - k)

/-- An operation of a port over `n` bytes of the SRAM from `a` is issued (R347). -/
def State.memOp (s : State) (req port a n : Nat) (write : Bool) : State :=
  let u := a / 32
  let xs := if n = 0 then [] else splitOp req port write 28 u ((a + n + 31) / 32 - u)
  { s with arb := ArbSt.next { s.arb with buffer := s.arb.buffer ++ xs } req port }

/-- A port drops its request: what it had in progress is given up (R348). -/
def State.memDrop (s : State) (req port : Nat) : State :=
  { s with arb := { s.arb with
      xacts := s.arb.xacts.filter fun x => !x.samePort req port
      buffer := s.arb.buffer.filter fun x => !x.samePort req port
      grants := s.arb.grants.filter fun g => !(g.2.req == req && g.2.port == port) } }

/-! ## One core cycle of a bank (R348 to R350) -/

/-- The grant of a bank. -/
def ArbSt.grantOf (a : ArbSt) (b : Nat) : Option Grant := (a.grants.find? (·.1 == b)).map (·.2)

/-- The port of an input granted last at a bank; before the first, the one that makes port 0 the next. -/
def ArbSt.lastOf (a : ArbSt) (b input req : Nat) : Nat := ((a.last.find? (·.1 == 8 * b + input)).map (·.2)).getD (portsOf req - 1)

/-- How far a port lies after the port granted last, in port order (R348). -/
def portOrder (req last port : Nat) : Nat := (port + 2 * portsOf req - last - 1) % portsOf req

/-- The first of two ports is served before the second (R348): by input, then by port order. -/
def ArbSt.before (a : ArbSt) (c : ArbCfg) (b : Nat) (x y : Xact) : Bool :=
  let i := c.input x.req
  c.input y.req < i || (i == c.input y.req
    && portOrder x.req (a.lastOf b i x.req) x.port < portOrder y.req (a.lastOf b i y.req) y.port)

/-- The requests at a bank. -/
def ArbSt.requests (a : ArbSt) (b : Nat) : List Xact := a.xacts.filter fun x => x.bank == b

/-- The arbitration of a bank that has no holder (R348, R349): the limit of the input is fixed at the grant. -/
def ArbSt.arbitrate (a : ArbSt) (c : ArbCfg) (b : Nat) : ArbSt :=
  if (a.grantOf b).isSome then a
  else
    let best := (a.requests b).foldl (fun (w : Option Xact) x => match w with
      | none => some x
      | some y => if a.before c b x y then some x else some y) none
    match best with
    | none => a
    | some x =>
      let i := c.input x.req
      let l := c.limit i
      { a with
        grants := (b, ⟨x.req, x.port, i, if l = 0 then none else some l, 0⟩) :: a.grants
        last := (8 * b + i, x.port) :: a.last.filter (·.1 != 8 * b + i)
        xacts := a.xacts.map fun y => if y.samePort x.req x.port then { y with waited := 0, starved := false, hint := 0 } else y }

/-- The wait hint of a losing port (R350). -/
def ArbSt.hint (a : ArbSt) (c : ArbCfg) (b : Nat) (g : Grant) (x : Xact) : Nat :=
  let i := c.input x.req
  let own (y : Xact) : Bool := y.samePort g.req g.port
  let held := ((a.requests b).find? own).map fun y => y.beats
  let left := match g.left with | some l => min l (held.getD 0) | none => held.getD 0
  let rest (y : Xact) : Nat := if own y then y.beats - left else y.beats
  let others := (a.requests b).filter fun y => !y.samePort x.req x.port
  let above := (others.filter fun y => i < c.input y.req).foldl (fun n y => n + rest y) 0
  let ahead := (others.filter fun y => c.input y.req == i && a.before c b y x).foldl
    (fun n y => n + (if c.limit i = 0 then rest y else min (rest y) (c.limit i))) 0
  let endless := g.left.isNone && ((a.requests b).find? own).any fun y => !y.declared
  if endless then 0xFFF else min 0xFFF (left + above + ahead)

/-- The ports that lose a cycle wait on, with a new hint (R350, R354). -/
def ArbSt.wait (a : ArbSt) (c : ArbCfg) (b : Nat) : ArbSt :=
  match a.grantOf b with
  | none => a
  | some g => { a with xacts := a.xacts.map fun x =>
      if x.bank == b && !x.samePort g.req g.port then { x with waited := x.waited + 1, hint := a.hint c b g x } else x }

/-- The holder's beat, at the end of which a complete transaction or an expired burst limit frees the bank (R348). What is
left of a transaction is a new request. -/
def ArbSt.beat (a : ArbSt) (b : Nat) : ArbSt :=
  match a.grantOf b with
  | none => a
  | some g =>
    let rest := a.grants.filter fun e => e.1 != b
    match a.xacts.find? (·.samePort g.req g.port) with
    | none => { a with grants := rest }
    | some x =>
      if x.beats ≤ 1 then
        ArbSt.next { a with grants := rest, xacts := a.xacts.filter fun y => !y.samePort g.req g.port } g.req g.port
      else
        let more : Bool := match g.left with | some l => 1 < l | none => true
        let g1 : Grant := { g with left := g.left.map (· - 1), still := 0 }
        { a with
          grants := if more then (b, g1) :: rest else rest
          xacts := a.xacts.map fun y => if y.samePort g.req g.port then { y with addr := y.addr + 32, beats := y.beats - 1 } else y }

/-- One core cycle of a bank. -/
def ArbSt.cycle (a : ArbSt) (c : ArbCfg) (b : Nat) : ArbSt := ((a.arbitrate c b).wait c b).beat b

/-- `n` core cycles of a bank. -/
def ArbSt.cycles (c : ArbCfg) (b : Nat) : Nat → ArbSt → ArbSt
  | 0, a => a
  | n + 1, a => ArbSt.cycles c b n (a.cycle c b)

/-- `n` core cycles in which the holder of a bank moves no beat (R353). -/
def ArbSt.stall (c : ArbCfg) (b : Nat) : Nat → ArbSt → ArbSt
  | 0, a => a
  | n + 1, a =>
    let a1 := (a.arbitrate c b).wait c b
    ArbSt.stall c b n { a1 with grants := a1.grants.map fun g => if g.1 == b then (b, { g.2 with still := g.2.still + 1 }) else g }

/-! ## Time, and the events (R348, R353, R354) -/

/-- Core cycles in a period of the reference: 250, 400 or 500 MHz (R348). -/
def State.coreCycles (s : State) : Nat := let o := s.rd POWER_STATUS.OP; if o = 0 then 10 else if o = 1 then 16 else 20

/-- A bank with requests over one period of the reference: whether the holder has a beat to move is a free value, the same
for the whole period. -/
def State.bankPeriod (s : State) (b : Nat) : State :=
  if (s.arb.requests b).isEmpty then s
  else
    let (n, s1) := s.fresh
    { s1 with arb := if Config.bit n then ArbSt.stall s1.arbCfg b s1.coreCycles s1.arb
        else ArbSt.cycles s1.arbCfg b s1.coreCycles s1.arb }

/-- The banks over one period of the reference. -/
def State.banksPeriod (s : State) : State := if s.arb.xacts.isEmpty then s else (List.range 28).foldl State.bankPeriod s

/-- The grant of a bank is withdrawn: the transaction ends after its last beat moved, and what is left of it is a new
request (R353). -/
def ArbSt.withdraw (a : ArbSt) (b : Nat) : ArbSt := { a with grants := a.grants.filter fun e => e.1 != b }

/-- HOLD_TIMEOUT: the holder of a bank has moved no beat for HOLD_TO core cycles (R353). -/
def doHoldTimeout (bank req port : Nat) (s : State) : State :=
  match s.arb.grantOf bank with
  | none => s
  | some g =>
    if g.req ≠ req ∨ g.port ≠ port ∨ g.still < max 16 (s.rd MEM_CTRL.HOLD_TO) then s
    else
      let s1 := { s with arb := s.arb.withdraw bank }
      ((((s1.sets MEM_STATUS.STUCK).wr MEM_STUCK_INFO.BANK bank).wr MEM_STUCK_INFO.REQ req).wr MEM_STUCK_INFO.PORT port).inc
        MEM_STUCK_INFO.COUNT

/-- A request has waited beyond the limit and has not been recorded (R354, R369). -/
def State.starves (s : State) (bank req port : Nat) (x : Xact) : Bool :=
  x.samePort req port && x.bank == bank && !x.starved && 256 * max 1 (s.rd MEM_CTRL.STARVE) < x.waited

/-- The port's request has been recorded. -/
def ArbSt.noted (a : ArbSt) (req port : Nat) : ArbSt :=
  { a with xacts := a.xacts.map fun x => if x.samePort req port then { x with starved := true } else x }

/-- STARVE: recorded once per request (R354). -/
def doStarve (bank req port : Nat) (s : State) : State :=
  if !s.arb.xacts.any (s.starves bank req port) then s
  else
    let s1 := { s with arb := s.arb.noted req port }
    ((((s1.sets MEM_STATUS.STARVE).wr MEM_STARVE_INFO.BANK bank).wr MEM_STARVE_INFO.REQ req).wr MEM_STARVE_INFO.PORT port).inc
      MEM_STARVE_INFO.COUNT

end Sys2Proof.Machine
end

