-- ==== Sys2Proof/Machine/Mem.lean ====
section
/-!
DEFINITION. Retention of the banks across sleep (R355, R356).
-/
namespace Sys2Proof.Machine

/-! ## Retention (R355, R356) -/

/-- The banks of a mask. -/
def banksOf (mask : Nat) : List Nat := (List.range 28).filter (bitN mask)

/-- The mask of a list of banks. -/
def bankMask (bs : List Nat) : Nat := ((List.range 28).filter bs.contains).foldl (fun n b => n + 2 ^ b) 0

/-- The retention CRC of a bank (R355). -/
def State.bankCrc (s : State) (b : Nat) : Nat := crc32c (s.sramBytes (b * 1048576) 1048576)

/-- SLEEP entry (R355): the CRCs and the mask of the named banks are recorded, and the others lose their content. -/
def State.retain (s : State) (mask : Nat) : State :=
  let s1 := (banksOf mask).foldl (fun t b => t.wr (MEM_RET_CRC.CRC b) (s.bankCrc b)) s
  (s1.wr MEM_RET_MASK.BANKS (bankMask (banksOf mask))).loseBanks ((List.range 28).filter fun b => !bitN mask b)

/-- The check at wake (R356): of the retained banks, those named in `lost` are found lost. -/
def State.retentionCheck (s : State) (lost : Nat) : State :=
  let l := (banksOf lost).filter fun b => bitN (s.rd MEM_RET_MASK.BANKS) b
  ((s.loseBanks l).wr MEM_WAKE_RETENTION_LOSS.BANKS (bankMask l)).setIf (!l.isEmpty) MEM_STATUS.RET_LOSS

end Sys2Proof.Machine
end

