-- ==== Sys2Proof/Machine/Cellar.lean ====
section
/-!
DEFINITION. The cellar: journaled stores, firmware pages, record slots, and the CELLAR opcodes (R300 to R307, R359 to
R370).
-/
namespace Sys2Proof.Machine

/-- First SRAM address of the staging area (R344). -/
def stagingBase : Nat := 0x1880000

/-- A store is in its shadow phase (R361): the commit begins after its last shadow page. -/
def CellarRun.inShadow (r : CellarRun) : Bool := r.job.isStore && !r.copying && r.done < r.pages

/-- The page writes up to the end of the phase: the commit of a store writes the two record copies (R361). -/
def CellarRun.limit (r : CellarRun) : Nat :=
  match r.job with
  | .activate _ _ => 0
  | .firmware _ _ _ _ _ _ => r.pages
  | _ => if r.copying then r.pages else r.pages + 2

/-- The bits of a register's fields with reset entry C. -/
def cMask (fs : List FDesc) : Nat :=
  (fs.map fun f => match f.rst with | .c _ => (2 ^ f.w - 1) * 2 ^ f.lo | _ => 0).sum

/-- The addresses of a descriptor. -/
def RDesc.addrs (d : RDesc) : List Nat := (List.range d.count).map fun i => d.base + i * d.stride

/-- The bits of a register's S fields (R17). -/
def sMask (fs : List FDesc) : Nat :=
  (fs.map fun f => if f.acc = .rws then (2 ^ f.w - 1) * 2 ^ f.lo else 0).sum

/-- The registers of words 1 to 14 of the safety parameter block (R237). -/
def sealRegs : List Nat :=
  [0x900C, 0x9010, 0x9014, 0x9024, 0x9028, 0x9034, 0x9038, 0x903C, 0x9040, 0x3000, 0x3014, 0xD00C, 0xD010, 0x1100C]

/-- The addresses whose C fields come from their own sources, never from the snapshot (R19, R303). -/
def ownSources : List Nat := [0x9044, 0x904C, 0x9050, 0xB010, 0xB01C, 0x13008]

/-- The registers of the CONFIG snapshot, with the bits it takes (R303). -/
def snapRegs : List (Nat × Nat) :=
  regTable.flatMap fun d =>
    if cMask d.fields = 0 then []
    else (d.addrs.filter fun a => !sealRegs.contains a && !ownSources.contains a).map fun a => (a, cMask d.fields)

/-- The bits of a register named by a mask. -/
def State.regBits (s : State) (a m : Nat) : Word := s.reg a &&& BitVec.ofNat 32 m

/-- The CONFIG snapshot of the present registers (R303). -/
def State.snapshot (s : State) : CfgSnap :=
  { regs := snapRegs.map fun r => (r.1, s.regBits r.1 r.2), persist := s.array.persist,
    plan := s.rd BIST_PLAN_CFG.PLAN, quick := s.on BIST_PLAN_CFG.QUICK_START }

/-- The image of a slot, if it is valid. -/
def Selector.img (v : Selector) (slot : Nat) : Option FwImage := if slot = 0 then v.imgA else v.imgB

/-- The selector with a slot's image replaced. -/
def Selector.withImg (v : Selector) (slot : Nat) (i : Option FwImage) : Selector :=
  if slot = 0 then { v with imgA := i } else { v with imgB := i }

/-- First page of each record slot of the seal region, 2 KiB each, and the page of each slot of the boot selector (R360). A
seal record takes two page writes, a selector record one (log entry 13). -/
def sealPage (k : Nat) : Nat := 0x7080 + 8 * k
def selPage (k : Nat) : Nat := 0x7092 + k

/-- A record of the boot selector goes to the slot not in force (R363). -/
def State.selWrite (s : State) (v : Selector) : State :=
  let q := s.cellar.selSeqs
  let t := s.scanStep
  ({ t with cellar := { t.cellar with selSlots := t.cellar.selSlots.set (nextSlot q) (some ⟨nextSeq q, v⟩) } }).pageWritten
    (selPage (nextSlot q))

/-- A record of the seal region goes to the slot not in force (R363). -/
def State.sealWrite (s : State) (block : Option SealRec) (digest : Option (List Byte)) : State :=
  let q := s.cellar.sealSeqs
  let t := s.scanStep
  ({ t with cellar := { t.cellar with
      sealLost := false, sealSlots := t.cellar.sealSlots.set (nextSlot q) (some ⟨nextSeq q, block, digest⟩) } }).pagesWritten
    (sealPage (nextSlot q)) 2

/-- Begin a cellar write (R301, R361). -/
def State.beginJob (s : State) (h : Nat) (j : CellarJob) : State :=
  let run : CellarRun := ⟨h, j, s.cellar.spareStart, j.pages, 0, s.now + pageNs, false⟩
  let s1 := ((({ s with cellar := { s.cellar with run := some run } }).sets CELLAR_STATUS.BUSY).wr CELLAR_PROG.DONE 0).wr
    CELLAR_PROG.TOTAL j.pages
  match j with
  | .store r _ _ _ => (s1.wr CELLAR_JOURNAL.PHASE 1).wr CELLAR_JOURNAL.REGION r
  | .shut _ snap => (s1.wr CELLAR_JOURNAL.PHASE 1).wr CELLAR_JOURNAL.REGION (if snap.isSome then 5 else 7)
  | _ => s1

/-- FIRST marks the slot not valid before writing (R306, R363). -/
def State.firstStage (s : State) (slot : Nat) : State :=
  { s with cellar := { s.cellar with begun := slot :: s.cellar.begun.filter (· != slot) } }.selWrite (s.cellar.selector.withImg slot none)

/-- Start a checked cellar command now: the store takes its data, FIRST invalidates its slot. -/
def State.startCellar (s : State) (h : Nat) (c : Cmd) : State :=
  match c with
  | .cellarStore r off len =>
    if r = 5 then s.beginJob h (.store 5 0 [] (some s.snapshot))
    else (s.memOp 2 0 stagingBase len false).beginJob h (.store r off (s.sramBytes stagingBase len) none)
  | .firmwareStage slot first last off total crc data =>
    (if first then s.firstStage slot else s).beginJob h (.firmware slot last off total crc data)
  | .firmwareActivate slot reboot => s.beginJob h (.activate slot reboot)
  | _ => s

/-- The status with which a command fails when its turn comes, by what the writes before it have left: a stage without FIRST
for a slot whose staging has not begun (R306), an activation of a slot that is not valid (R307). -/
def State.cellarFault (s : State) (c : Cmd) : Option Nat :=
  match c with
  | .firmwareStage slot first _ _ _ _ _ => if !first && !s.cellar.begun.contains slot then some stBadParam else none
  | .firmwareActivate slot _ => if (s.cellar.selector.img slot).isNone then some stVerify else none
  | _ => none

/-- The waiting commands take their turn until one has started (R301). -/
def State.nextJob : List (Ctx × Cmd) → State → State
  | [], s => { s with cellar := { s.cellar with waiting := [] } }
  | (x, c) :: r, s =>
    match s.cellarFault c with
    | some st => State.nextJob r (s.finish x.handle st [])
    | none => ({ s with cellar := { s.cellar with waiting := r } }).startCellar x.handle c

/-- The cellar write is over, with `n` pages written in its last phase: the next waiting command starts (R301). -/
def State.endJob (s : State) (n : Nat) : State :=
  let s1 := ((({ s with cellar := { s.cellar with run := none } }).wr CELLAR_STATUS.BUSY 0).wr CELLAR_STATUS.COPYBACK 0).wr
    CELLAR_JOURNAL.PHASE 0 |>.wr CELLAR_PROG.DONE n
  State.nextJob s1.cellar.waiting s1

/-- Start the command, or leave it PENDING behind the write in progress (R301). -/
def State.queueCellar (s : State) (x : Ctx) (c : Cmd) : State :=
  if s.cellar.run.isSome then { s.pend x.handle with cellar := { s.cellar with waiting := s.cellar.waiting ++ [(x, c)] } }
  else match s.cellarFault c with
    | some st => s.answer x st []
    | none => (s.pend x.handle).startCellar x.handle c

/-- With CELLAR_CTRL.EN = 0 the command completes NOT_NOW and REFUSED is set (R368). -/
def State.whenEnabled (s : State) (x : Ctx) (f : State → State) : State :=
  if s.on CELLAR_CTRL.EN then f s else (s.sets CELLAR_STATUS.REFUSED).answer x stNotNow []

/-- Parameters of a CELLAR_STORE are in range (R303). -/
def storeOk (r off len : Nat) : Bool :=
  if r = 5 then off == 0 && len == 0
  else (r == 2 || r == 3 || r == 4) && off % 256 == 0 && len % 256 == 0 && 256 ≤ len && len ≤ 524288 && off + len ≤ regionSize r

/-- CELLAR_STORE (R303). -/
def doCellarStore (x : Ctx) (r off len : Nat) (s : State) : State :=
  if !storeOk r off len then s.answer x stBadParam []
  else s.whenEnabled x fun s => s.queueCellar x (.cellarStore r off len)

/-- A store that reads the staging area is pending or executing (R302). -/
def State.stagingBusy (s : State) : Bool :=
  (match s.cellar.run with
    | some r => (match r.job with | .store k _ _ _ => k != 5 && !r.copying | _ => false)
    | none => false) ||
  s.cellar.waiting.any fun w => match w.2 with | .cellarStore k _ _ => k != 5 | _ => false

/-- CELLAR_WRITE (R302). -/
def doCellarWrite (x : Ctx) (soff : Nat) (data : List Byte) (s : State) : State :=
  if data.length = 0 ∨ 2048 < data.length ∨ 524288 < soff + data.length then s.answer x stBadParam []
  else if s.stagingBusy then s.answer x stNotNow []
  else ((s.scanStep.sramWrite (stagingBase + soff) data).memOp 0 0 (stagingBase + soff) data.length true).answer x stOk []

/-- Two byte ranges (start, length) overlap. -/
def overlap (a b : Nat × Nat) : Bool := a.1 < b.1 + b.2 && b.1 < a.1 + a.2

/-- The target range of a waiting cellar command. -/
def waitRange (c : Cmd) : Nat × Nat :=
  match c with
  | .cellarStore r off len => if r = 5 then (regionBase 5, 30720) else (regionBase r + off, len)
  | .firmwareStage slot _ _ off _ _ data => (regionBase slot + off, data.length)
  | _ => (0, 0)

/-- The range overlaps the target of a pending or executing store or firmware write (R304). -/
def State.targetBusy (s : State) (rg : Nat × Nat) : Bool :=
  (match s.cellar.run with
    | some r => !r.copying && overlap rg r.job.range
    | none => false) ||
  s.cellar.waiting.any fun w => overlap rg (waitRange w.2)

/-- CELLAR_READ (R304, R367). -/
def doCellarRead (x : Ctx) (src r off n : Nat) (s : State) : State :=
  if n = 0 ∨ 2048 < n ∨ 1 < src then s.answer x stBadParam []
  else if src = 1 then
    (if 524288 < off + n then s.answer x stBadParam [] else s.answer x stOk (s.sramBytes (stagingBase + off) n))
  else if 5 < r ∨ regionSize r < off + n then s.answer x stBadParam []
  else if s.targetBusy (regionBase r + off, n) then s.answer x stNotNow []
  else
    let a := regionBase r + off
    let s1 := s.rangeRead a n
    if (pagesOf a n).any s.pageBad then s1.answer x stVerify [] else s1.answer x stOk (s.cellarBytes a n)

/-- Version and compatibility bytes of a slot; 0 for a slot that is not valid. -/
def imgBytes (i : Option FwImage) : List Byte :=
  match i with
  | some f => leBytes 1 f.major ++ leBytes 1 f.minor ++ leBytes 1 f.patch ++ leBytes 1 f.compat
  | none => leBytes 4 0

/-- The reply of CELLAR_INFO (R305). -/
def State.cellarInfo (s : State) : List Byte :=
  let v := s.cellar.selector
  leBytes 4 8388608 ++ leBytes 1 v.slot
    ++ leBytes 1 ((if v.imgA.isSome then 1 else 0) + (if v.imgB.isSome then 2 else 0))
    ++ imgBytes v.imgA ++ imgBytes v.imgB ++ leBytes 1 (if s.cellar.run.isSome then 1 else 0) ++ leBytes 1 0
    ++ (List.range 8).flatMap fun r =>
        leBytes 4 (regionSize r) ++ leBytes 4 (s.wearOf (regionBase r / 256) (regionSize r / 256))

/-- CELLAR_INFO (R305). -/
def doCellarInfo (x : Ctx) (s : State) : State := s.answer x stOk s.cellarInfo

/-- The slot that runs, if any. -/
def State.runningSlot (s : State) : Option Nat := s.boot.fw.map fun _ => s.boot.slot

/-- FIRMWARE_STAGE (R306): whether the slot's staging has begun is judged when its turn comes. -/
def doFirmwareStage (x : Ctx) (slot : Nat) (first last : Bool) (off total crc : Nat) (data : List Byte) (s : State) : State :=
  if 1 < slot then s.answer x stBadParam []
  else if s.runningSlot = some slot then s.answer x stRefused []
  else if off % 256 ≠ 0 ∨ 2048 < data.length ∨ (!last ∧ data.length % 256 ≠ 0) ∨ 1048576 < off + data.length
      ∨ (last ∧ 1048576 < total) then s.answer x stBadParam []
  else s.whenEnabled x fun s => s.queueCellar x (.firmwareStage slot first last off total crc data)

/-- FIRMWARE_ACTIVATE (R307): whether the slot is valid is judged when its turn comes. -/
def doFirmwareActivate (x : Ctx) (slot : Nat) (reboot : Bool) (s : State) : State :=
  if 1 < slot then s.answer x stBadParam []
  else s.whenEnabled x fun s => s.queueCellar x (.firmwareActivate slot reboot)

/-! ## Page writes (R359, R361, R362, R366) -/

/-- The new content of the `i`-th page of a job. Bytes that the spec does not lay out, and what a last firmware page holds
beyond the data, are free values (log entry 7). -/
def State.pageBytes (s : State) (j : CellarJob) (i : Nat) : List Byte :=
  let p := j.page i
  let free := (List.range 256).map fun k => Config.cellarByte (s.pageWrites p + 1) (256 * p + k)
  let known := match j with
    | .store r _ data _ => if r = 5 then [] else data
    | .firmware _ _ _ _ _ data => data
    | .shut rec _ => if i = 0 then rec.bytes else []
    | .activate _ _ => []
  let b := match j with | .shut _ _ => known | _ => (known.drop (256 * i)).take 256
  b ++ free.drop b.length

/-- A page is written with these bytes. -/
def State.writePage (s : State) (p : Nat) (bs : List Byte) : State := (s.pageWritten p).cellarPut (256 * p) bs

/-- A page of the spare area is written, and the highest count there shown (R366). -/
def State.shadowPage (s : State) (r : CellarRun) (i : Nat) : State :=
  let t := s.writePage (r.sparePage i) (s.pageBytes r.job i)
  t.wr CELLAR_SPARE_WEAR.COUNT (t.wearOf 0x7800 2048)

/-- A store is committed: its new data is the committed image (R361). -/
def State.newImage (s : State) (j : CellarJob) : State :=
  match j with
  | .store 5 _ _ snap => { s with cellar := { s.cellar with config := snap } }
  | .store _ _ data _ => s.cellarPut j.range.1 data
  | .shut rec snap => { s with cellar := { s.cellar with shutRec := some rec, config := if snap.isSome then snap else s.cellar.config } }
  | _ => s

/-- Copy-back reads a spare page, with its ECC events, and writes it as read into the region: one that cannot be corrected gives
bytes that the spec leaves open (R361, R367). -/
def State.copyPage (s : State) (r : CellarRun) (i : Nat) : State :=
  let p := r.job.page i
  let q := r.sparePage i
  let t := { s.pageRead p with cellar := { (s.pageRead p).cellar with run := some { r with done := i + 1 } } }.pageWritten p
  if 2 < (if s.pageWrites q = 0 then 0 else s.pageErrs q) ∧ !opaquePage p then
    t.cellarPut (256 * p) ((List.range 256).map fun k => Config.cellarByte (s.pageWrites q) (256 * p + k))
  else t

/-- The next page write of the cellar write in progress. After the last shadow page the commit begins, whose first record copy
commits the store (R361). -/
def State.cellarStep (s : State) : State :=
  match s.cellar.run with
  | none => s
  | some r =>
    if r.limit ≤ r.done then s
    else
      let s0 := s.scanStep
      let i := r.done
      let next : CellarRun := { r with done := i + 1, due := r.due + pageNs }
      let t := if r.copying then s0.copyPage r i
        else if !r.job.isStore then s0.writePage (r.job.page i) (s0.pageBytes r.job i)
        else if i < r.pages then s0.shadowPage r i
        else if i = r.pages then (s0.pageWritten 0x7090).newImage r.job
        else s0.pageWritten 0x7091
      let u := { t with cellar := { t.cellar with run := some next } }
      if r.inShadow && i + 1 == r.pages then ((u.wr CELLAR_JOURNAL.PHASE 2).wr CELLAR_PROG.DONE 0).wr CELLAR_PROG.TOTAL 2
      else u.wr CELLAR_PROG.DONE (if r.job.isStore && !r.copying && r.pages ≤ i then i + 1 - r.pages else i + 1)

/-- The page writes that are left of the present phase. -/
def State.finishPhase (s : State) : State :=
  match s.cellar.run with
  | none => s
  | some r => (List.range (r.limit - r.done)).foldl (fun t _ => t.cellarStep) s

/-- Time has passed: a page whose 16 us are over is written (R359). Copy-back pauses while the logic region is hot (R364), and
nothing is written while the cellar is under test (R421), in SLEEP, OFF or before the journal has been examined. -/
def State.cellarPeriod (s : State) : State :=
  match s.cellar.run with
  | none => s
  | some r =>
    if (r.copying && s.therm.shutL) || s.underTest [9] || s.sleeping || (s.boot.stage < 5 && !s.boot.held) then
      { s with cellar := { s.cellar with run := some { r with due := s.now + pageNs } } }
    else if r.due ≤ s.now then s.cellarStep
    else s

/-! ## Phases -/

/-- The highest page write count that the region of a store will hold after copy-back (R303). -/
def State.wearAfter (s : State) (r : CellarRun) : Nat :=
  let p := r.job.range.1 / 256
  let reg := match r.job with | .store k _ _ _ => k | _ => 0
  max (s.wearOf (regionBase reg / 256) (regionSize reg / 256)) (if r.pages = 0 then 0 else s.wearOf p r.pages + 1)

/-- Copy-back begins: the next store takes the spare pages behind this one's (R361). -/
def State.beginCopy (s : State) (r : CellarRun) : State :=
  let start := (r.spare + r.pages) % 2048
  ({ s with cellar := { s.cellar with spareStart := start, run := some { r with handle := 0, copying := true, done := 0, due := s.now + pageNs } } }).wr
    CELLAR_JOURNAL.SPARE_START start

/-- The commit of a store ends (R361): the counters, and copy-back begins, paused if the logic region is hot (R364). -/
def State.commitStore (s : State) (r : CellarRun) : State :=
  let s1 := (s.finishPhase.beginCopy r).sets CELLAR_STATUS.COPYBACK
  let s2 := (((s1.wr CELLAR_JOURNAL.PHASE 3).inc CELLAR_STORE_CNT.COUNT).wr CELLAR_PROG.DONE 0).wr CELLAR_PROG.TOTAL r.pages
  s2.setIf s2.therm.shutL CELLAR_STATUS.THERMAL_EV

/-- A store that writes bytes of the limp beam record makes SF reload it (R231, R303). -/
def touchesLimp (j : CellarJob) : Bool := match j with | .store 3 off _ _ => off < 327680 | _ => false

/-- CELLAR_COMMIT_DONE: the second record copy is written and the store completes OK (R361). -/
def doCellarCommitDone (s : State) : State :=
  match s.cellar.run with
  | some r =>
    if !r.job.isStore || r.copying then s
    else
      let s1 := s.commitStore r
      let s2 := if touchesLimp r.job then { s1 with safe := { s1.safe with limpLoading := true } } else s1
      s2.finish r.handle stOk (leBytes 4 r.pages ++ leBytes 4 (s1.wearAfter r))
  | none => s

/-- COPYBACK_DONE: copy-back ends and the record is cleared (R361). It does not end while the logic region is hot (R364). -/
def doCopybackDone (s : State) : State :=
  match s.cellar.run with
  | some r => if r.copying ∧ !s.therm.shutL then s.finishPhase.endJob r.pages else s
  | none => s

/-- The image verified by LAST (R306). -/
def State.fwCheck (s : State) (slot total : Nat) : Nat × List Byte :=
  let img := s.cellarBytes (regionBase slot) total
  (crc32c img, img)

/-- The image that LAST found, as the selector records it, and its result bytes (R306). -/
def fwImage (img : List Byte) (total c : Nat) : FwImage :=
  ⟨total, c, (Config.headerMajor img).toNat, (Config.headerMinor img).toNat, (Config.headerPatch img).toNat,
    (Config.headerCompat img).toNat⟩

/-- The slot is not valid; where it was, a selector record says so (R306, R363, log entry 34). -/
def State.slotInvalid (s : State) (slot : Nat) : State :=
  if (s.cellar.selector.img slot).isSome then s.selWrite (s.cellar.selector.withImg slot none) else s

/-- FIRMWARE_PAGE_WRITE_DONE: the pages are written and, with LAST, the image is verified (R306). -/
def doFirmwarePageWriteDone (s : State) : State :=
  match s.cellar.run with
  | some r =>
    (match r.job with
     | .firmware slot last _ total crc _ =>
       let s2 := s.finishPhase
       if last then
         let (c, img) := s2.fwCheck slot total
         let f := fwImage img total c
         let res := leBytes 4 c ++ leBytes 1 f.major ++ leBytes 1 f.minor ++ leBytes 1 f.patch ++ leBytes 1 f.compat
         if c = crc ∧ Config.headerGood img then
           ((s2.selWrite (s2.cellar.selector.withImg slot (some f))).endJob r.pages).finish r.handle stOk res
         else ((s2.slotInvalid slot).endJob r.pages).finish r.handle stVerify res
       else (s2.endJob r.pages).finish r.handle stOk []
     | _ => s)
  | none => s

/-- RECORD_SLOT_WRITE_DONE: a boot selector or password digest record is written (R307, R242, R363). -/
def doRecordSlotWriteDone (s : State) : State :=
  let digest (s : State) : State :=
    match s.cellar.digestWrite with
    | (h, d, src) :: r =>
      let s1 := { s with cellar := { s.cellar with digestWrite := r } }
      (((s1.sealWrite s.cellar.sealRec (some d)).sets SAFE_SEAL_STATUS.PW_SET).log 0 0 0 src 3).finish h stOk []
    | [] => s
  match s.cellar.run with
  | some r =>
    (match r.job with
     | .activate slot reboot =>
       let s1 := s.selWrite { s.cellar.selector with slot := slot }
       let s2 := (s1.endJob 1).finish r.handle stOk []
       if reboot then { s2 with boot := { s2.boot with window := some (true, 1) } } else s2
     | _ => digest s)
  | none => digest s

/-! ## Stops (R364) -/

/-- The page in progress finishes (R364). -/
def State.lastPage (s : State) (r : CellarRun) : State := if r.done < r.pages then s.cellarStep else s

/-- A store in its shadow phase stops after the page in progress; its spare pages are discarded. The result holds the pages
written; bytes 4 to 7 are formed only at a commit (R303). -/
def State.stopStore (s : State) (r : CellarRun) (status : Nat) : State :=
  ((((s.lastPage r).wr CELLAR_PROG.TOTAL r.pages).endJob (r.done + 1))).finish r.handle status (leBytes 4 (r.done + 1))

/-- A firmware write ends early, with `n` pages written, and its slot is not valid (R306, R364). -/
def State.stopStage (s : State) (r : CellarRun) (n : Nat) (status : Nat) : State :=
  match r.job with
  | .firmware slot _ _ _ _ _ => ((s.slotInvalid slot).endJob n).finish r.handle status []
  | _ => s

/-- Record writes of the seal region stop; the slot in force stays so (R240, R364). -/
def State.stopRecords (s : State) (status : Nat) : State :=
  let s2 := s.safe.sealing.foldl (fun t e => t.finish e.1 status []) { s with safe := { s.safe with sealing := [] } }
  s2.cellar.digestWrite.foldl (fun t e => t.finish e.1 status []) { s2 with cellar := { s2.cellar with digestWrite := [] } }

/-- The logic-region shut-down threshold stops or pauses cellar writes (R303, R364). -/
def State.thermalStop (s : State) : State :=
  let s1 := match s.cellar.run with
    | none => s
    | some r =>
      (match r.job with
       | .store _ _ _ _ | .shut _ _ =>
         if r.copying then s.sets CELLAR_STATUS.THERMAL_EV
         else if r.inShadow then (s.sets CELLAR_STATUS.THERMAL_EV).stopStore r stThermal
         else s
       | .firmware _ _ _ _ _ _ =>
         ((s.sets CELLAR_STATUS.THERMAL_EV).lastPage r).stopStage r (min r.pages (r.done + 1)) stThermal
       | .activate _ _ => ((s.sets CELLAR_STATUS.THERMAL_EV).endJob 0).finish r.handle stThermal [])
  let any := !s1.safe.sealing.isEmpty || !s1.cellar.digestWrite.isEmpty
  (s1.setIf any CELLAR_STATUS.THERMAL_EV).stopRecords stThermal

/-- CANCEL of a CELLAR_STORE (R364): waiting or in its shadow phase it ends ABORTED; `none` is NOT_NOW. -/
def State.cancelStore (s : State) (h : Nat) : Option State :=
  if s.cellar.waiting.any (fun w => w.1.handle == h) then
    some (({ s with cellar := { s.cellar with waiting := s.cellar.waiting.filter fun w => w.1.handle != h } }).finish h stAborted [])
  else match s.cellar.run with
    | some r => if r.handle = h ∧ r.inShadow then some (s.stopStore r stAborted) else none
    | none => none

/-- A write to CELLAR_CTRL.EN while a cellar write, a seal store or a change-log write is in progress is ignored (R325).
SF writes the change log as long as an entry is pending, whatever EN is (R245, R368). -/
def State.enLocked (s : State) : Bool := s.cellar.run.isSome || !s.safe.sealing.isEmpty || !s.safe.log.isEmpty

/-- What a reset leaves of the cellar's work (R364, R471): a committed store copies back at boot, any other is lost, and its
shadow pages have no record; of a firmware write the pages written so far stay. -/
def State.cellarReset (s : State) : CellarSt :=
  let base (c : CellarSt) : CellarSt := { c with waiting := [], digestWrite := [], begun := [] }
  match s.cellar.run with
  | none => base s.cellar
  | some r =>
    let off (c : CellarSt) : CellarSt := base { c with run := none }
    (match r.job with
     | .store _ _ _ _ | .shut _ _ =>
       if r.copying then base s.cellar
       else if r.committed then base (s.beginCopy r).cellar
       else off { s.cellar with orphan := s.cellar.orphan || 0 < r.done }
     | .firmware slot _ _ _ _ _ => off (s.slotInvalid slot).cellar
     | .activate _ _ => off s.cellar)

/-- A page is left undefined in the middle of its write (R364): it has been written once more and reads with a free number of
bit errors. -/
def State.tornPage (s : State) (p : Nat) : State :=
  let (n, s1) := s.fresh
  let s2 := s1.pageWritten p
  { s2 with cellar := { s2.cellar with errs := SMap.put (fun _ => 0) s2.cellar.errs p (Config.tornErrors n) } }

/-- A record write in progress leaves its slot without a good record; the other slot stays in force (R363, R364). -/
def State.tornSeal (s : State) : State :=
  let k := nextSlot s.cellar.sealSeqs
  { s with cellar := { s.cellar with sealSlots := s.cellar.sealSlots.set k none } }.tornPage (sealPage k)

/-- The same for the boot selector. -/
def State.tornSel (s : State) : State :=
  let k := nextSlot s.cellar.selSeqs
  { s with cellar := { s.cellar with selSlots := s.cellar.selSlots.set k none } }.tornPage (selPage k)

/-- The page of the cellar write in progress that a loss of VSYS leaves undefined: a shadow page, a copy of the store record
in the journal, a firmware page or a selector record. One that copy-back was writing is written again (R364). -/
def State.tearRun (s : State) (r : CellarRun) : State :=
  match r.job with
  | .activate _ _ => s.tornSel
  | .firmware _ _ _ _ _ _ => if r.done < r.pages then s.tornPage (r.job.page r.done) else s
  | .store _ _ _ _ | .shut _ _ =>
    if r.copying || r.limit ≤ r.done then s
    else if r.inShadow then s.tornPage (r.sparePage r.done)
    else s.tornPage (0x7090 + (r.done - r.pages))

/-- Cellar address of a place of the change log (R244, R360). -/
def logPlace (k : Nat) : Nat := 0x70A000 + 32 * (k % 256)

/-- The bytes of an entry form a good entry (R244). -/
def goodEntry (b : List Byte) : Bool := u16 b 30 == crc16 (b.take 30)

/-- A change-log entry that was being written is torn (R363): its place holds bytes that fail the CRC. Whether SF was writing
the oldest pending entry is a free value. -/
def State.tornLog (s : State) : State :=
  if s.safe.log.isEmpty then s
  else
    let (n, s1) := s.fresh
    if !Config.bit n then s1
    else
      let a := logPlace s.cellar.logPos
      let s2 := s1.scanStep.pageWritten (a / 256)
      let b := (List.range 32).map fun i => Config.cellarByte (s2.pageWrites (a / 256)) (a + i)
      s2.cellarPut a (if goodEntry b then b.set 30 (b.getD 30 0 ^^^ 1) else b)

/-- Loss of VSYS leaves the page being written undefined (R364). -/
def State.tearPage (s : State) : State :=
  let s1 := match s.cellar.run with
    | none => s
    | some r => s.scanStep.tearRun r
  (if s.safe.sealing.isEmpty && s.cellar.digestWrite.isEmpty then s1 else s1.scanStep.tornSeal).tornLog

/-- The final statuses of R279 other than OK. -/
def failStatuses : List Nat :=
  [stBadParam, stLocked, stQueueFull, stNotNow, stAborted, stThermal, stInterrupted, stCalRejected, stVerify, stInsuff, stRefused]

/-- VNV stayed low at the retry of a page write: the write is handled as at a loss of VSYS (R364, R371), while the device runs
on. The status of a command whose write is lost is a free value among the final statuses of R279 other than OK (log entry
35). -/
def State.vnvLow (s : State) : State :=
  let (n, s0) := s.tearPage.fresh
  let status := failStatuses.getD (Config.value n % 11) stAborted
  let s1 := match s.cellar.run with
    | none => s0
    | some r =>
      (match r.job with
       | .store _ _ _ _ | .shut _ _ => if r.committed then s0 else (s0.endJob r.done).finish r.handle status []
       | .firmware _ _ _ _ _ _ => s0.stopStage r r.done status
       | .activate _ _ => (s0.endJob 0).finish r.handle status [])
  s1.stopRecords status

/-- Stage 4 of boot (R365): a committed store is copied back, shadow pages without a record are discarded. -/
def State.journal (s : State) : State :=
  let s1 := match s.cellar.run with
    | some _ =>
      let t := s.finishPhase
      (({ t with cellar := { t.cellar with run := none } }).sets CELLAR_STATUS.REPLAYED).sets SYS_BOOT_CAUSE.REPLAYED
    | none => s
  if s1.cellar.orphan then
    (({ s1 with cellar := { s1.cellar with orphan := false } }).sets CELLAR_STATUS.DISCARDED).sets SYS_BOOT_CAUSE.DISCARDED
  else s1

end Sys2Proof.Machine
end

