-- ==== Sys2Proof/Machine/Power.lean ====
section
/-!
DEFINITION. Operating points, the LED supply and the clock monitors (R371 to R382, R393 to R396).
-/
namespace Sys2Proof.Machine

/-! ## Operating points (R372 to R374) -/

/-- The highest point that may be in force: OP0 under the thermal cap and outside ACTIVE (R374, R383, R403). -/
def State.opMax (s : State) : Nat := if s.on THERM_THROTTLE.OP_CAP || s.powerState != 0 then 0 else 2

/-- The commands that wait for the operating point complete OK (R291, R374). -/
def State.opReached (s : State) : State :=
  s.power.wantHandles.foldl (fun (t : State) h => t.finish h stOk [])
    { s with power := { s.power with wantHandles := [] } }

/-- A raise starts: VCORE first (R373). -/
def State.opRaise (s : State) (p : Nat) : State :=
  ({ s with power := { s.power with step := some (p, true), autoStep := false } }).sets POWER_STATUS.OP_BUSY

/-- A lowering at a tick: the divider first, then VCORE (R373, R374). -/
def State.opLower (s : State) (p : Nat) : State :=
  (({ s with power := { s.power with step := some (p, false), autoStep := false, div := p, lower := false } }).sets POWER_STATUS.OP_BUSY).wr
    POWER_STATUS.OP p

/-- Act on the requested point away from a tick: a raise starts at once, a lowering waits for the tick and sets
OP_DEFER (R374). Automatic selection acts at ticks only. -/
def State.opKick (s : State) : State :=
  if s.power.step.isSome ∨ s.power.want = 3 then s
  else
    let t := min s.power.want s.opMax
    if s.power.div < t then s.opRaise t
    else if t < s.power.div then
      (if s.power.lower then s else ({ s with power := { s.power with lower := true } }).sets POWER_STATUS.OP_DEFER)
    else (if s.power.want ≤ s.opMax then s.opReached else s)

/-- A request for a point replaces any earlier one (R374). -/
def State.opRequest (s : State) (p : Nat) : State :=
  ({ s with power := { s.power with want := p, lower := false, autoStep := false } }).opKick

/-- The point after step 5 of a tick (R374): `auto` is the point that automatic selection takes. -/
def State.opTick (s : State) (auto : Nat) : State :=
  if s.power.step.isSome then s
  else
    let r := if s.power.want = 3 then auto else s.power.want
    let t := min r s.opMax
    let met (s : State) : State := if r ≤ s.opMax then s.opReached else s
    if t < s.power.div then met (s.opLower t)
    else if s.power.div < t then
      { s.opRaise t with power := { (s.opRaise t).power with autoStep := s.power.want == 3 && auto ≤ s.opMax } }
    else met s

/-- OP_STEP_DONE: a VCORE step completes (R373). The point that automatic selection took is then in force (R374). -/
def doOpStepDone (s : State) : State :=
  match s.power.step with
  | none => s
  | some (p, _) =>
    let s1 := (({ s with power := { s.power with step := none, autoStep := false, volt := p, div := p } }).wr POWER_STATUS.OP p).wr
      POWER_STATUS.OP_BUSY 0
    if s.power.autoStep then s1.opReached else s1.opKick

/-! ## LED supply (R375 to R382) -/

/-- A current in mA in the unit of `Terms.bankCurrent`. -/
def ofMilliamp (mA : Nat) : Nat := mA * 10240000

/-- TRIM as used, at most 500 mV (R379). -/
def State.vledTrim (s : State) : Nat := min 500 (s.rd POWER_VLED_TRIM.TRIM)

/-- VLED target in mV, rounded once (R377): `iMax` in units of 6.25 nA, `peak` in the unit of `Terms.bankCurrent`. -/
def State.vledTarget (s : State) (iMax peak : Nat) : Nat :=
  clampN 2600 4600 (rdiv ((s.rd POWER_VLED_CFG.V0 + s.vledTrim) * 10240000000
    + s.rd POWER_VLED_CFG.K_REF * iMax * 64000000 + s.rd POWER_VLED_CFG.K_DROP * peak) 10240000000)

/-- The target that the controller regulates to: the larger of two frames until the hand-over (R378). A higher one is a
rise, which ends when the band is reached (R382). -/
def State.showTarget (s : State) : State :=
  let t := if s.power.handed then s.power.tgtNow else max s.power.tgtNow s.power.tgtNext
  { s.wr POWER_VLED_STATUS.TARGET t with
    power := { s.power with rising := s.power.rising || (s.power.led == 2 && s.rd POWER_VLED_STATUS.TARGET < t) } }

/-- A new target at the end of a prediction pass, for a frame with this peak (R376, R378). -/
def State.newTarget (s : State) (mv peak : Nat) : State :=
  ({ s with power := { s.power with tgtNow := if s.power.handed then s.power.tgtNow else s.power.tgtNext,
                                    tgtNext := mv, handed := false, peak := peak } }).showTarget

/-- Phases for a current, in the unit of `Terms.bankCurrent`: 4 above 2 A, 2 from 0.5 A to 2 A, 1 below 0.5 A (R376). -/
def phasesFor (cur : Nat) : Nat := if ofMilliamp 2000 < cur then 4 else if ofMilliamp 500 ≤ cur then 2 else 1

/-- Phase shedding changes at the tick, by the predicted peak of the frame that begins (R376). -/
def State.shedPhases (s : State) : State :=
  { s with power := { s.power with phases := if s.on POWER_CTRL.SHED then phasesFor s.power.peak else 4 } }

/-- VLED_TARGET_HANDOVER at tick + T_SF (R378). -/
def doVledTargetHandover (s : State) : State :=
  ({ s with power := { s.power with tgtNow := s.power.tgtNext, handed := true } }).showTarget

/-- LED_REGULATION_REACHED: VLED is within the band around its target. A soft start, or a rise of the target, ends, and
LED_REG is set (R382). -/
def State.ledRegulated (s : State) : State :=
  if s.power.led ≠ 0 ∧ !s.phLow then
    ({ s with power := { s.power with led := 2, rising := false } }).sets POWER_STATUS.LED_REG
  else s

/-- The foldback of R380 acts. -/
def State.foldback (s : State) : Bool := s.power.drop != 0

/-- LED_REG_LOSS: VLED has been below the band for 1 ms. LED_REG is cleared, unless a foldback acts or a rise of the target
is in progress (R382). -/
def doLedRegLoss (s : State) : State :=
  if s.foldback ∨ s.power.rising then s else s.wr POWER_STATUS.LED_REG 0

/-- ILIM as used, in mA (R380). -/
def State.ilim (s : State) : Nat := clampN 1000 16000 (s.rd POWER_LED_ILIM.ILIM)

/-- The current at which a phase ends its high-side pulse, in units of 1/16 mA (R380): 1.25 x ILIM / 4. -/
def State.phaseLimit (s : State) : Nat := 5 * s.ilim

/-- The point to which the stage regulates, in mV (R380). -/
def State.regPoint (s : State) : Nat := s.rd POWER_VLED_STATUS.TARGET - s.power.drop

/-- LED_FOLDBACK: the sum of the phase currents, averaged over 10 us, in mA. Above ILIM the regulation point falls by 20 mV,
below 0.95 x ILIM it returns by 5 mV (R380). A sum beyond what the phases in use carry adds phases (R376). -/
def doLedFoldback (sum : Nat) (s : State) : State :=
  let p := s.power
  let drop := if s.ilim < sum then min (s.rd POWER_VLED_STATUS.TARGET) (p.drop + 20)
    else if sum * 100 < s.ilim * 95 then p.drop - 5 else p.drop
  ({ s with power := { p with drop := drop, phases := max p.phases (phasesFor (ofMilliamp sum)) } }).setIf
    (p.drop == 0 && drop != 0) POWER_STATUS.LED_ILIM

/-- VLED_OVERVOLTAGE (R381). -/
def doVledOvervoltage (s : State) : State :=
  (({ s with power := { s.power with ov := true } }).sets POWER_STATUS.VLED_OV).wr POWER_STATUS.LED_REG 0

/-- VBAT_LOW: 0 the input is back above 6.0 V, 1 below 6.0 V, 2 below 5.0 V for 100 us (R381). -/
def doVbatLow (level : Nat) (s : State) : State :=
  if level = 0 then { s with power := { s.power with vbatLow := false } }
  else if level = 1 then ({ s with power := { s.power with vbatLow := true } }).sets POWER_STATUS.VBAT_LOW
  else (({ s with power := { s.power with vbatLow := true, vbatStop := true } }).sets POWER_STATUS.VBAT_LOW).wr
    POWER_STATUS.LED_REG 0

/-- VBAT_HIGH (R381). -/
def doVbatHigh (s : State) : State :=
  (({ s with power := { s.power with vbatHigh := true } }).sets POWER_STATUS.VBAT_HIGH).wr POWER_STATUS.LED_REG 0

/-- A stop of the stage has ended: a supply that runs soft-starts (R381, R382). -/
def State.resoft (s : State) : State :=
  if s.power.led = 0 then s else { s with power := { s.power with led := 1 } }

/-- LED_SUPPLY_RESUME: 0 VLED below 4.6 V, 1 input above 5.5 V, 2 input below 36 V (R381). After an over-voltage the
phases resume without a soft start, and LED_REG reads 1 again if the target band had been reached (R382). -/
def doLedSupplyResume (c : Nat) (s : State) : State :=
  if c = 0 then
    let s1 := { s with power := { s.power with ov := false } }
    s1.setIf (s1.power.led == 2 && !s1.phLow) POWER_STATUS.LED_REG
  else if c = 1 then ({ s with power := { s.power with vbatStop := false } }).resoft
  else ({ s with power := { s.power with vbatHigh := false } }).resoft

/-- A headroom signal discards every instant of its sub-frame but those of the dark slot, those already reached too (R413). -/
def CalSt.noPoints (c : CalSt) : CalSt :=
  { c with headroom := true, kept := 0, run := c.run.map fun r => { r with points := r.points.take (r.points.length - c.kept) } }

/-- A headroom signal (R87, R379): TRIM at 500 mV sets HEADROOM_MAX, else it rises by 25 mV, once per write window; ignored
in a foldback. -/
def State.headroomSignal (s : State) : State :=
  let s1 := { s with cal := s.cal.noPoints }
  if s1.foldback then s1
  else
    let s2 := { s1 with power := { s1.power with headroom := true, lastHeadroom := s1.now } }
    if s1.vledTrim = 500 then s2.sets POWER_STATUS.HEADROOM_MAX
    else if s1.power.headroom then s2
    else s2.wr POWER_VLED_TRIM.TRIM (min 500 (s1.vledTrim + 25))

/-- HEADROOM_TRIM_DECAY: 10 s have passed without a headroom signal, or since the last fall (R379). -/
def doHeadroomTrimDecay (s : State) : State :=
  if s.now < s.power.lastHeadroom + 10000000000 then s
  else ({ s with power := { s.power with lastHeadroom := s.now } }).wr POWER_VLED_TRIM.TRIM (s.vledTrim - 5)

/-! ## Monitors and clocks -/

/-- VSYS_LOW: a rail monitor that resets nothing (R371): 0 VSYS rises above 3.0 V, 1 it falls below, 2 VNV is low at a page
write and at its retry. The monitors act whether or not any engine runs. -/
def doVsysLow (rail : Nat) (s : State) : State :=
  if rail = 0 then { s with power := { s.power with vsysLow := false } }
  else if rail = 1 then ({ s with power := { s.power with vsysLow := true } }).sets POWER_STATUS.VSYS_LOW
  else if s.inReset || s.sleeping then s else s.vnvLow

/-- SFCLK_MEASUREMENT, deviation in 0.01 % (R393). -/
def doSfclk (dev : Int) (s : State) : State :=
  let bad := 200 < dev.natAbs
  (({ s with power := { s.power with sfDev := bad } }).wrI POWER_SFCLK.DEV dev).setIf bad POWER_STATUS.SFCLK_DEV

/-- XTAL32_LOSS (R395). -/
def doXtalLoss (s : State) : State := ({ s with power := { s.power with xtal := false } }).wr POWER_TIME.XTAL32 0

/-- XTAL32_QUALIFIED, judged against the reference while it runs (R395). -/
def doXtalQualified (s : State) : State := ({ s with power := { s.power with xtal := true } }).sets POWER_TIME.XTAL32

/-- RC_OSCILLATOR_MEASUREMENT: reference cycles in 256 RC periods (R396). -/
def doRcMeasurement (cycles : Nat) (s : State) : State := { s with power := { s.power with rcCycles := cycles } }

/-- The period of the always-on clock in 1/8 ps (R396). -/
def State.aonPeriod8 (s : State) : Nat :=
  if s.power.xtal then 244140625 else if s.power.rcCycles = 0 then 8 * Config.rcPeriod else s.power.rcCycles * 1250

end Sys2Proof.Machine
end

