-- ==== Sys2Proof/Machine/Safe.lean ====
section
/-!
DEFINITION. Safe inputs, watchdogs, the release, the Keacy seal, the password and the change log (R209 to R245, R315 to
R318).
-/
namespace Sys2Proof.Machine

/-! ## Safe inputs (R221 to R226) -/

/-- T_D of a pair in ns (R224): DK when `dk`, else SB. -/
def State.discTime (s : State) (dk : Bool) : Nat :=
  clampN 1 1000 (s.rd (if dk then SAFE_IN_DK.DISC_TIME else SAFE_IN_SB.DISC_TIME)) * 1000000

/-- A pair. -/
def State.pair (s : State) (dk : Bool) : PairSt := if dk then s.safe.dk else s.safe.sb

/-- A pair replaced. -/
def State.setPair (s : State) (dk : Bool) (p : PairSt) : State :=
  if dk then { s with safe := { s.safe with dk := p } } else { s with safe := { s.safe with sb := p } }

/-- The fields of `SAFE_IN_STATUS` (R246). -/
def State.showInputs (s : State) : State :=
  let b (c : Bool) (v : Nat) : Nat := if c then v else 0
  let sb := s.safe.sb
  let dk := s.safe.dk
  s.setReg 0x902C (BitVec.ofNat 32 (b sb.a 1 + b sb.b 2 + b dk.a 4 + b dk.b 8 + b (sb.agreed == some true) 16
    + b (dk.agreed == some true) 32 + b sb.since.isSome 64 + b dk.since.isSome 128))

/-- A disagreement that ends now is a near miss (R223, R225). -/
def State.nearMiss (s : State) (dk : Bool) : Bool :=
  match (s.pair dk).since with
  | some t => !(s.pair dk).atStart && s.discTime dk < 2 * (s.now - t)
  | none => false

/-- Count a near miss (R225). -/
def State.countNear (s : State) (dk : Bool) : State :=
  let p := s.pair dk
  let s1 := ((s.setPair dk { p with near := p.near ++ [s.now] }).inc (if dk then SAFE_IN_NEAR.DK else SAFE_IN_NEAR.SB)).sets
    SAFE_STATUS.NEAR_MISS
  s1.setIf s1.degraded SAFE_STATUS.IN_DEGRADED

/-- A change of agreed state to a request acts: its cause arises, at the end of a SAFE_PATH test that is in progress (R421).
When within 2 ms that is, is a free value. -/
def State.inputActs (s : State) (mask : Nat) : State :=
  match s.safe.path with
  | some (t, m) => { s with safe := { s.safe with path := some (t, Nat.lor m mask) } }
  | none =>
    if s.underTest [10] then
      (let (n, s1) := s.fresh
       { s1 with safe := { s1.safe with path := some (s1.now + Config.value n % 2000001, mask) } })
    else s.raise mask

/-- The SAFE_PATH test has ended: what it held acts (R421). -/
def State.pathEnd (s : State) : State :=
  match s.safe.path with
  | some (_, m) => ({ s with safe := { s.safe with path := none } }).raise m
  | none => s

/-- Evaluate a pair after a change of its levels (R223, R226); `start` at the start of SF. -/
def State.evalPair (s : State) (dk start : Bool) : State :=
  let p := s.pair dk
  if p.a != p.b then
    let req := !p.a
    let s1 := if s.nearMiss dk then s.countNear dk else s
    let s2 := (s1.setPair dk { s1.pair dk with agreed := some req, since := none, atStart := false, faulted := false }).showInputs
    if req && p.agreed != some true then s2.inputActs (cause (if dk then 0 else 1)) else s2
  else
    match p.since with
    | some _ => s.showInputs
    | none => (s.setPair dk { p with since := some s.now, atStart := start, faulted := false }).showInputs

/-- SAFE_INPUT_EDGE: filtered channel 0 SBA, 1 SBB, 2 DKA, 3 DKB takes a level (R222, R223). Before SF starts, only the
level is kept. -/
def doSafeInputEdge (ch : Nat) (level : Bool) (s : State) : State :=
  let dk := 2 ≤ ch
  let p := s.pair dk
  let s1 := s.setPair dk (if ch % 2 = 0 then { p with a := level } else { p with b := level })
  if s1.safe.running then s1.evalPair dk false else s1

/-- SF starts, after reset or wake (R223): both pairs are evaluated afresh. Near misses of the last 10 s count on (R225). -/
def State.sfStart (s : State) : State :=
  let fresh (p : PairSt) : PairSt :=
    { p with agreed := none, since := none, atStart := false, faulted := false, near := p.near.filter fun t => s.now < t + 10000000000 }
  let s1 := { s with safe := { s.safe with running := true, sb := fresh s.safe.sb, dk := fresh s.safe.dk } }
  (s1.evalPair true true).evalPair false true

/-- SAFE_INPUT_FAULT: the disagreement has lasted T_D (R224). -/
def doSafeInputFault (dk : Bool) (s : State) : State :=
  let p := s.pair dk
  if p.since.isSome && !p.faulted then (s.setPair dk { p with faulted := true }).raise (cause (if dk then 2 else 3)) else s

/-- NEAR_MISS_WINDOW_EXPIRY: the oldest near miss leaves the 10 s (R225). -/
def doNearMissExpiry (dk : Bool) (s : State) : State :=
  s.setPair dk { s.pair dk with near := (s.pair dk).near.drop 1 }

/-- FAULTN_MISMATCH (R213). -/
def doFaultnMismatch (s : State) : State := s.setIf s.faultN SAFE_STATUS.FAULTN_MISMATCH

/-! ## Watchdogs (R235, R236) -/

/-- SC_WDOG: armed when boot completes (R468). -/
def doScWdog (s : State) : State := if s.boot.stage = 11 then s.raise (cause 7) else s

/-- SF_WDOG: armed in boot stage 6 (R462). -/
def doSfWdog (s : State) : State := if 6 ≤ s.boot.stage then s.raise (cause 8) else s

/-! ## Release (R229, R230, R318) -/

/-- A release that takes effect, as it stands before: its handles and what it changes. -/
def State.releaseNoted (s : State) (hs : List Nat) : Released :=
  ⟨s.cycle, hs, s.safety, s.rd SAFE_CAUSE.LATCHED,
    (s.rd SAFE_GUARD_STAT.DISC_RUN, s.rd SAFE_GUARD_STAT.SINGLE_RUN, s.rd SAFE_GUARD_STAT.HOLD_RUN),
    s.rd SAFE_STATUS.STATE_EV, s.rd SAFE_STATUS.UNLIT, s.power.led⟩

/-- The accepted release (R229): latched bits and guard runs cleared, NORMAL, the notice; a supply that was held low
starts. The fill keeps the face until R121 returns it. It is noted, since a cause of the same core cycle still wins (R230). -/
def State.releaseAccept (s : State) (hs : List Nat) : State :=
  let s1 := ((((s.wr SAFE_CAUSE.LATCHED 0).wr SAFE_GUARD_STAT.DISC_RUN 0).wr SAFE_GUARD_STAT.SINGLE_RUN 0).wr
    SAFE_GUARD_STAT.HOLD_RUN 0).wr SAFE_STATUS.STATE 0
  let s2 := (s1.sets SAFE_STATUS.STATE_EV).wr SAFE_STATUS.UNLIT 0
  ({ s2.pushCtl (normalNotice s2.tickCount) with safe := { s2.safe with released := some (s.releaseNoted hs) } }).ledStart

/-- SAFE_STATE_RELEASE (R229). -/
def doSafeStateRelease (x : Ctx) (s : State) : State :=
  if s.safety = 0 then s.answer x stOk []
  else if s.blocking ≠ 0 then s.answer x stRefused (leBytes 2 s.blocking ++ leBytes 1 0)
  else if s.safety = 1 then (s.releaseAccept [x.handle]).answer x stOk []
  else ({ s with safe := { s.safe with release := s.safe.release ++ [x.handle] } }.pend x.handle).ledStart

/-- The supply reports regulation: waiting releases take effect (R229). -/
def State.releaseReached (s : State) : State :=
  if s.safe.release.isEmpty || s.power.led != 2 then s
  else s.safe.release.foldl (fun t h => t.finish h stOk []) (({ s with safe := { s.safe with release := [] } }).releaseAccept s.safe.release)

/-- LED_REGULATION_REACHED (R229, R382). -/
def doLedRegulationReached (s : State) : State := s.ledRegulated.releaseReached

/-- RELEASE_SUPPLY_TIMEOUT (R229, R318). -/
def doReleaseSupplyTimeout (s : State) : State :=
  if s.safe.release.isEmpty then s else s.releaseRefused 0 1

/-! ## Seal (R237 to R241, R315) -/

/-- The bits of the S fields of the register at an address (R17). -/
def sBits (a : Nat) : Nat := sMask ((regFields a).getD [])

/-- The safety parameter block (R237). -/
def State.sealBlock (s : State) : List Word :=
  [0x00010060] ++ (sealRegs.map fun a => s.regBits a (sBits a)) ++ List.replicate 81 0

/-- The seal of a block (R238). -/
def sealOf (b : List Word) : Word := BitVec.ofNat 32 (crc32c (b.flatMap fun w => leBytes 4 w.toNat))

/-- SF recomputes the live seal (R241). -/
def State.sealRecompute (s : State) : State :=
  let v := sealOf s.sealBlock
  (s.wr SAFE_SEAL_LIVE.SEAL v.toNat).wrB SAFE_SEAL_STATUS.MATCH (v.toNat == s.rd SAFE_SEAL_STORED.SEAL)

/-- The seal state (R239). -/
def State.sealState (s : State) : Nat := s.rd SAFE_SEAL_STATUS.STATE

/-- SEAL_FAULT is latched (R239, R241). -/
def State.sealFault (s : State) : State := (s.wr SAFE_SEAL_STATUS.STATE 3).raise (cause 10)

/-- SEAL_CHECK: while SEALED, every 100 ms (R241). -/
def doSealCheck (s : State) : State :=
  if s.sealState ≠ 1 then s
  else if s.sealRecompute.on SAFE_SEAL_STATUS.MATCH then s.sealRecompute else s.sealRecompute.sealFault

/-- Seconds of lockout left (R242). -/
def State.lockoutS (s : State) : Nat := match s.safe.lockout with | some t => min 60 (cdiv (t - s.now) 1000000000) | none => 0

/-- SEAL_READ (R315). -/
def doSealRead (x : Ctx) (s : State) : State :=
  let s1 := s.sealRecompute
  s1.answer x stOk (leBytes 4 (s1.rd SAFE_SEAL_LIVE.SEAL) ++ leBytes 4 (s1.rd SAFE_SEAL_STORED.SEAL)
    ++ leBytes 1 s1.sealState ++ leBytes 1 (s1.rd SAFE_SEAL_STATUS.PW_SET) ++ leBytes 2 s1.lockoutS)

/-- SEAL_CONFIRM (R240). -/
def doSealConfirm (x : Ctx) (code : Nat) (s : State) : State :=
  if !s.on SAFE_SEAL_STATUS.PW_SET ∨ s.sealState = 1 ∨ s.sealState = 3 ∨ !s.on PIPE_FILL_STATUS.BEAM_VALID then
    s.answer x stRefused []
  else if (sealOf s.sealBlock).toNat ≠ code then s.answer x stVerify []
  else
    let s1 := s.sealRecompute.pend x.handle
    { s1 with safe := { s1.safe with sealing := s1.safe.sealing ++ [(x.handle, ⟨s.sealBlock, sealOf s.sealBlock⟩, srcCode x.src)] } }

/-- SEAL_STORE_DONE: the record is in its slot and the device is SEALED (R240, R363). -/
def doSealStoreDone (s : State) : State :=
  match s.safe.sealing with
  | [] => s
  | (h, rec, src) :: r =>
    let old := s.reg 0x904C
    let s1 := { s with safe := { s.safe with sealing := r } }
    let s2 := ((s1.sealWrite (some rec) s.cellar.digest).wr SAFE_SEAL_STATUS.STATE 1).wr SAFE_SEAL_STORED.SEAL rec.code.toNat
    (((s2.wr SAFE_STATUS.PROVISIONAL 0).sealRecompute).log 0 old rec.code src 2).finish h stOk []

/-! ## Password (R242, R243, R316) -/

/-- The sealed block is loaded into its registers (R241, R242); the limit of the discrepancy monitor may be met with it
(R225). -/
def State.loadBlock (s : State) (b : List Word) : State :=
  let s1 := (List.range 14).foldl (fun t i =>
    let a := sealRegs.getD i 0
    let m := BitVec.ofNat 32 (sBits a)
    t.setReg a ((t.reg a &&& ~~~m) ||| (b.getD (i + 1) 0 &&& m))) s
  s1.setIf s1.degraded SAFE_STATUS.IN_DEGRADED

/-- A wrong password (R242): the fifth in a row starts the lockout. -/
def State.wrongPassword (s : State) (src : Nat) : State :=
  let s1 := ((s.wr SAFE_SEAL_STATUS.PW_FAILS (min 5 (s.rd SAFE_SEAL_STATUS.PW_FAILS + 1))).sets SAFE_STATUS.PW_FAIL).log 0 0 0 src 6
  if 5 ≤ s1.rd SAFE_SEAL_STATUS.PW_FAILS then { s1 with safe := { s1.safe with lockout := some (s.now + 60000000000) } } else s1

/-- UNLOCK with the right password (R242). -/
def State.unlocked (s : State) (src : Nat) : State :=
  (((s.wr SAFE_SEAL_STATUS.STATE 2).wr SAFE_STATUS.PROVISIONAL 1).wr SAFE_SEAL_STATUS.PW_FAILS 0).log 0 0 0 src 4

/-- LOCK (R242). -/
def State.relocked (s : State) (src : Nat) : State :=
  let s1 := s.loadBlock (match s.cellar.sealRec with | some r => r.block | none => s.sealBlock)
  ((s1.wr SAFE_SEAL_STATUS.STATE 1).wr SAFE_STATUS.PROVISIONAL 0).log 0 0 0 src 5

/-- PASSWORD_UNLOCK (R242, R316). -/
def doPasswordUnlock (x : Ctx) (op len : Nat) (pw : List Byte) (s : State) : State :=
  if 2 < op ∨ (op ≤ 1 ∧ (len < 4 ∨ 16 < len)) ∨ (op = 2 ∧ len ≠ 0) then s.answer x stBadParam []
  else if op = 0 then
    if s.sealState = 0 ∨ s.sealState = 2 then
      let s1 := s.pend x.handle
      { s1 with cellar := { s1.cellar with digestWrite := s1.cellar.digestWrite ++ [(x.handle, sha256 pw, srcCode x.src)] } }
    else s.answer x stRefused []
  else if op = 1 then
    if s.sealState ≠ 1 ∨ s.safe.lockout.isSome then s.answer x stRefused []
    else if s.cellar.digest = some (sha256 pw) then (s.unlocked (srcCode x.src)).answer x stOk []
    else (s.wrongPassword (srcCode x.src)).answer x stRefused []
  else if s.sealState = 2 then (s.relocked (srcCode x.src)).answer x stOk []
  else s.answer x stRefused []

/-- LOCKOUT_END (R242). -/
def doLockoutEnd (s : State) : State := { s with safe := { s.safe with lockout := none } }

/-! ## Change log (R244, R245, R317) -/

/-- CHANGE_LOG_WRITE: SF writes the oldest pending entry over the oldest of the ring (R244, R245, R363). -/
def doChangeLogWrite (s : State) : State :=
  match s.safe.log with
  | [] => s
  | e :: r =>
    let a := logPlace s.cellar.logPos
    let t := s.scanStep
    (({ t with safe := { t.safe with log := r }, cellar := { t.cellar with logPos := (s.cellar.logPos + 1) % 256 } }).pageWritten
      (a / 256)).cellarPut a e.bytes

/-- The entries held: in the cellar and pending (R317), each with its age, 1 for the newest number. -/
def State.logHeld (s : State) : List (Nat × List Byte) :=
  let next := s.rd SAFE_LOG_STATUS.NEXT
  let age (b : List Byte) : Nat := (next + 65535 - u16 b 26) % 65536 + 1
  let stored := ((List.range 256).map fun i => s.cellarBytes (logPlace i) 32).filter goodEntry
  let all := stored ++ s.safe.log.map LogEnt.bytes
  (all.map fun b => (age b, b)).mergeSort fun a b => b.1 ≤ a.1

/-- CHANGE_LOG_READ (R317). With no entry held, the number of the oldest is a free value. -/
def doChangeLogRead (x : Ctx) (first max : Nat) (s : State) : State :=
  if max = 0 ∨ 63 < max then s.answer x stBadParam []
  else
    let next := s.rd SAFE_LOG_STATUS.NEXT
    let fage := (next + 65536 - first) % 65536
    match s.logHeld with
    | [] =>
      let (n, s1) := s.fresh
      s1.answer x stOk (leBytes 2 (Config.value n) ++ leBytes 2 next ++ leBytes 4 0)
    | (old, b) :: r =>
      let out := (((old, b) :: r).filter fun e => e.1 ≤ fage).take max
      s.answer x stOk (leBytes 2 (u16 b 26) ++ leBytes 2 next ++ leBytes 1 out.length ++ leBytes 1 (if old < fage then 1 else 0)
        ++ leBytes 2 0 ++ out.flatMap (·.2))

end Sys2Proof.Machine
end

