-- ==== Sys2Proof/Machine/Pipe.lean ====
section
/-!
DEFINITION. The strip engines, the governor, the fill unit and the limp store: from the composed frame to the codes (R93
to R122, R231 to R234).
-/
namespace Sys2Proof.Machine

/-! ## What the stages read -/

/-- The guard value of cell `i` of a plane held in segments of 56 cells; a missing byte is 0 (R194). -/
def guardCell (plane : List (List Byte)) (i : Nat) : Nat := ((plane.getD (i / 56) []).getD (i % 56) 0).toNat

/-- The cell that holds a pixel (R97). -/
def cellOf (x y : Nat) : Nat := 512 * (y / 4) + x / 4

/-- First SRAM address of output buffer k (R148, R344). -/
def bufBase (k : Nat) : Nat := k * 0x500000

/-- The composed value of one colour of a pixel in output buffer k (R148). -/
def State.composed (s : State) (k x y c : Nat) : Nat := leNat (s.sramBytes (bufBase k + 4 * (2048 * y + x) + 2 * c) 2)

/-- The buffer on display. -/
def State.dispBuf (s : State) : Nat := s.rd LAYER_COMP_STATUS.DISPLAY_BUF

/-- The trim byte of an emitter; 128 while the map is not valid (R108, R109). -/
def State.trimByte (s : State) (x y c : Nat) : Nat :=
  if s.pipe.trimValid then (s.sramByte (0x1600000 + 2 * (2048 * y + x) + c)).toNat else 128

/-- A value of a limp beam record (R231): cell column, cell row, colour. -/
def limpCell (rec : List Byte) (cx cy c : Nat) : Nat := u16 rec (4 * (512 * cy + cx) + 2 * c)

/-- L_lit of a set of display settings (R113). -/
def DispSet.lit (d : DispSet) : Nat := litSteps d.ramp d.nW

/-- The temperature factor of stage 4 at a pixel (R111, R112). -/
def DispSet.kTemp (d : DispSet) (x y c : Nat) : Nat :=
  if d.tcompEn then tempFactor (if c = 0 then d.alphaW else d.alphaC) (tileTemp d.temps (x / 16) (y / 8) - d.mean) else 32768

/-- The code factor F_bc under a scale (R99). -/
def DispSet.factor (d : DispSet) (scale b c : Nat) : Nat :=
  codeFactor (d.base.getD (2 * b + c) 0) scale (d.tc.getD (2 * b + c) 0) (d.trim.getD (2 * b + c) 0)

/-- EFF_bc under a scale (R69). -/
def DispSet.eff (d : DispSet) (scale b c : Nat) : Nat :=
  refEff (d.base.getD (2 * b + c) 0) scale (d.tc.getD (2 * b + c) 0) (d.trim.getD (2 * b + c) 0)

/-- Stages 1 to 5 of one emitter (R93): the composed value, its guard value and code factor. -/
def State.encode (s : State) (d : DispSet) (v g x y c f : Nat) : Bool × Nat :=
  let v3 := stage3 (stage2 (min v (guardL g)) f) (s.trimByte x y c) (d.sgain.getD (2 * (x / 256) + c) 0)
  stage5 d.split d.lit (stage4 v3 (d.kTemp x y c))

/-! ## Codes (R115 to R120) -/

/-- The code that the strip engine of the pixel prepares for sub-frame k (R30, R115). -/
def State.engineCode (s : State) (x y c k : Nat) : BitVec 11 :=
  let d := s.pipe.disp
  let (isel, tgt) := s.encode d (s.composed s.dispBuf x y c) (guardCell s.safe.guardDisp (cellOf x y)) x y c
    (d.factor s.pipe.scale (y % 8) c)
  codeOf isel (inv d.ramp d.nW (stage6 d.dither d.rotate d.nsf s.pipe.frame x y k tgt))

/-- ISEL and LEVEL of a fill code for a value under given settings (R117). -/
def fillLevel (ramp : List Nat) (nW split v : Nat) : Bool × Nat :=
  let (isel, tgt) := stage5 split (litSteps ramp nW) (16 * v)
  (isel, inv ramp nW (rdiv tgt 64))

/-- The fill code of an emitter (R117, R120). -/
def State.fillCode (s : State) (x y c : Nat) : BitVec 11 :=
  match s.safe.limp with
  | none => 0
  | some rec =>
    let g := if s.safety = 0 then guardCell s.safe.guardDisp (cellOf x y) else 255
    let (isel, l) := fillLevel s.pipe.disp.ramp s.pipe.disp.nW s.pipe.disp.split (min (limpCell rec (x / 4) (y / 4) c) (guardL g))
    codeOf isel l

/-- The strip engine of strip `t` supplies codes in this slot (R116, R121, R122, R469). -/
def State.stripRuns (s : State) (t : Nat) : Bool := bitN (s.rd PIPE_SE_CTRL.ACTIVE) t && !s.wholeFill

/-- The completion pointer of a strip at the start of a row slot, from the pixels that its engine has prepared (R116). -/
def State.pointer (s : State) (t done : Nat) : Nat := if s.stripRuns t then min 256 done / 4 * 4 else 0

/-- The code driven for an emitter in a row slot (R66, R116). -/
def State.rowCode (s : State) (progress : List Nat) (x y c k : Nat) : BitVec 11 :=
  if x % 256 < s.pointer (x / 256) (progress.getD (x / 256) 0) then s.engineCode x y c k else s.fillCode x y c

/-- The strips of a row that are completed with fill codes (R116). -/
def State.filledStrips (s : State) (progress : List Nat) : List Nat :=
  (List.range 8).filter fun t => s.pointer t (progress.getD t 0) < 256

/-- The codes of a row as listed entries: codes of 0 stay unlisted. -/
def State.rowCodes (s : State) (progress : List Nat) (y k : Nat) : List (Nat × BitVec 11) :=
  ((List.range 4096).map fun i => (4096 * y + i, s.rowCode progress (i / 2) y (i % 2) k)).filter fun e => e.2 != 0

/-- The in-pixel code of an emitter. -/
def State.code (s : State) (x y c : Nat) : BitVec 11 := SMap.get (fun _ => 0) s.array.codes (2 * (2048 * y + x) + c)

/-- Count the strips of a filled row (R119): not in a safe state, nor while the whole face is filled. -/
def State.countFill (s : State) (strips : List Nat) : State :=
  if s.wholeFill then s else strips.foldl (fun t i => (t.inc (PIPE_FILL_CNT.ROWS i)).sets PIPE_STATUS.FILL) s

/-- SE_STOP and SE_START: the RUN bits; a stopped engine's pointers are 0 at once (R122). -/
def State.runWritten (s : State) (run : Nat) : State :=
  (s.wr PIPE_SE_CTRL.RUN run).wr PIPE_SE_CTRL.ACTIVE (Nat.land (s.rd PIPE_SE_CTRL.ACTIVE) run)

/-- The engines in RUN start to prepare at a slot boundary (R122, R468); under test they stand still (R421). -/
def State.slotEngines (s : State) : State :=
  s.wr PIPE_SE_CTRL.ACTIVE (if s.wholeFill || s.boot.stage != 11 || s.underTest [2, 14] then 0 else s.rd PIPE_SE_CTRL.RUN)

/-! ## Settings (R35, R61, R110 to R112, R501) -/

/-- N_SF of a SUBFRAMES code; 0 for the code that is rejected (R55). -/
def nsfOf (code : Nat) : Nat := if code = 1 then 2 else if code = 2 then 4 else if code = 3 then 8 else 0

/-- Sample `TICK_RATE` (R35). -/
def State.sampleRate (s : State) : State :=
  let hz := s.rd TICK_RATE.FRAME_HZ
  let n := nsfOf (s.rd TICK_RATE.SUBFRAMES)
  if rateLegal hz n then { s with tick := { s.tick with rateNext := some (hz, n), rateBad := false } }
  else { s with tick := { s.tick with rateNext := none, rateBad := true } }

/-- The combination that the coming frame uses. -/
def State.comingRate (s : State) : Nat × Nat := s.tick.rateNext.getD (s.tick.hz, s.tick.nsf)

/-- SPLIT as used: a value outside its range reads back as written and is saturated here (R123; log entry 26). -/
def State.split (s : State) : Nat := clampN 64 1024 (s.rd PIPE_ENC.SPLIT)

/-- The display settings of R501 as they stand, with the temperatures given. -/
def State.settings (s : State) (temps : List Int) : DispSet :=
  let (hz, nsf) := s.comingRate
  let nW := nWof (hz * nsf)
  let useLoaded := s.on ARRAY_RAMP_CTRL.SEL && s.on ARRAY_RAMP_CTRL.LOADED
  let two (f : Nat → Fld) (g : Nat → Fld) : List Nat := (List.range 8).flatMap fun b => [s.rd (f b), s.rd (g b)]
  { hz := hz, nsf := nsf, nW := nW, ramp := if useLoaded then s.array.ramp else defaultRamp nW, rampLoaded := useLoaded
    split := s.split, dither := s.on PIPE_ENC.DITHER_EN, rotate := s.on PIPE_ENC.ROTATE
    base := two ARRAY_IREF_BASE.WARM ARRAY_IREF_BASE.COOL, trim := two ARRAY_IREF_TRIM.WARM ARRAY_IREF_TRIM.COOL
    tc := two ARRAY_IREF_TC.WARM ARRAY_IREF_TC.COOL, sgain := two PIPE_SGAIN.WARM PIPE_SGAIN.COOL
    tcompEn := s.on PIPE_TCOMP.EN, alphaW := s.rd PIPE_TCOMP.ALPHA_WARM, alphaC := s.rd PIPE_TCOMP.ALPHA_COOL
    temps := temps, mean := meanTemp temps, budget := s.rd PIPE_GOV_CTRL.EFF_BUDGET }

/-- SEL = 1 is taken without a loaded table (R61). -/
def State.rampReject (s : State) : State :=
  s.setIf (s.on ARRAY_RAMP_CTRL.SEL && !s.on ARRAY_RAMP_CTRL.LOADED) ARRAY_STATUS.RAMP_REJECT

/-- The temperatures latched at a pass start, or at the tick of a frame without a pass: mean, substitutes and the TC fields
(R110, R112). Latching them at that tick is the model's choice (log entry 25). -/
def State.latchTemps (s : State) : State :=
  let temps := s.therm.vals.take 16
  let mean := meanTemp temps
  let subst := ((List.range 16).filter s.therm.failed.contains).foldl (fun n i => n + 2 ^ i) 0
  let s1 := ((s.wrI PIPE_TCOMP_STATUS.MEAN mean).wr PIPE_TCOMP_STATUS.SUBST subst).setIf (subst != 0) PIPE_STATUS.TCOMP_SUBST
  if s1.on PIPE_TCOMP.EN then
    let d := mean - sext 16 (s1.rd PIPE_TCOMP_REF.T_REF)
    (List.range 8).foldl (fun t b => (t.wr (ARRAY_IREF_TC.WARM b) (tempFactor (s1.rd PIPE_TCOMP.ALPHA_WARM) d)).wr
      (ARRAY_IREF_TC.COOL b) (tempFactor (s1.rd PIPE_TCOMP.ALPHA_COOL) d)) s1
  else s1

/-! ## The limp store (R107, R117, R231, R232) -/

/-- The table of the limp beam for strip t, bank b and colour c, with no guard applied (R107): each cell row meets a
bank once and each cell gives it 4 pixels. -/
def limpTable (rec : List Byte) (d : DispSet) (t b c : Nat) : List Nat :=
  (List.range 64).map fun i =>
    ((List.range 80).map fun r => ((List.range 64).map fun u =>
      let (isel, l) := fillLevel d.ramp d.nW d.split (limpCell rec (64 * t + u) (2 * r + b / 4) c)
      4 * wEntry isel l i).sum).sum

/-- The W tables of a limp beam, indexed 16 t + 2 b + c. -/
def limpTables (rec : List Byte) (d : DispSet) : List (List Nat) :=
  (List.range 128).map fun i => limpTable rec d (i / 16) (i / 2 % 8) (i % 2)

/-- The limp ceiling of a colour as used (R246). -/
def State.limpCeil (s : State) (c : Nat) : Nat := clampN 320 3840 (s.rd (if c = 0 then SAFE_LIMP_CEIL.WARM else SAFE_LIMP_CEIL.COOL))

/-- R_L(S) for S = num / den (R232). -/
def State.limpRef (s : State) (c num den : Nat) : Nat := max 320 (min (s.limpCeil c) (rdiv (3840 * num) den))

/-- The bound of R232 at S = k / 4096 is within the limp budget. -/
def State.limpWithin (s : State) (w : List (List Nat)) (k : Nat) : Bool :=
  let tot := ((List.range 8).map fun b => ((List.range 2).map fun c =>
    s.limpRef c k 4096 * (Terms.mk w [] [] 0).wSum b c 0).sum).sum
  tot * 25 ≤ clampN 100 12000 (s.rd SAFE_LIMP_CFG.BUDGET) * 256000000

/-- S_LIMP for the tables of a beam, or none if the bound is exceeded even at 2^-12 (R232). -/
def State.limpScale (s : State) (w : List (List Nat)) : Option Nat :=
  let (m, ok) := chooseScale (s.limpWithin w)
  if ok then some m else none

/-- S_LIMP x tau as a fraction: numerator over 2^30, with tau as last taken in LIMP (R232). -/
def State.limpClampRef (s : State) (c : Nat) : Nat := s.limpRef c (s.rd PIPE_FILL_STATUS.LIMP_SCALE * s.safe.limpTau) (2 ^ 30)

/-- The limp beam record as the cellar gives it, with the ECC events of reading it; none if a page is erased or
uncorrectable (R231, R367, R467). -/
def State.limpRead (s : State) : Option (List Byte) × State :=
  let ps := pagesOf (regionBase 3) 327680
  let s1 := s.rangeRead (regionBase 3) 327680
  if ps.any fun p => (s.pageWrites p == 0 && !s.copyCovers p) || s.pageBad p then (none, s1)
  else (some (s.cellarBytes (regionBase 3) 327680), s1)

/-- A loaded record is accepted (R231, R232). -/
def State.limpAccepts (s : State) (rec : List Byte) : Bool :=
  crc32c rec == s.rd SAFE_LIMP_CRC.CRC && (s.limpScale (limpTables rec s.pipe.disp)).isSome

/-- The limp load of a boot is judged with no record accepted (R233). -/
def State.limpRefused (s : State) : State :=
  let s1 := { s with boot := { s.boot with limpJudged := true } }
  if s1.safety = 1 ∧ !s1.on PIPE_FILL_STATUS.BEAM_VALID then s1.raise (cause 14) else s1

/-- SF finishes reading the record and judges it (R231). The deferral of R233 ends with an accepted record's tick. -/
def State.limpJudge (s : State) : State :=
  let (rec, s1) := s.limpRead
  let s2 := { s1 with safe := { s1.safe with limpLoading := false } }
  match rec with
  | some r => if s2.limpAccepts r then { s2 with safe := { s2.safe with limpNext := some r } } else s2.limpRefused
  | none => s2.limpRefused

/-- LIMP_RECORD_ACCEPT (R231). -/
def doLimpRecordAccept (s : State) : State := if s.safe.limpLoading then s.limpJudge else s

/-- The tables and S_LIMP of the held beam under the settings on display. -/
def State.limpTabulate (s : State) (rec : List Byte) : State :=
  let w := limpTables rec s.pipe.disp
  let (scale, s1) := match s.limpScale w with
    | some m => (m, s)
    | none => let (n, s1) := s.fresh; (Config.value n % 65536, s1)
  ({ s1 with
    pipe := { s1.pipe with limpW := w }
    safe := { s1.safe with limpBasis := ⟨s.pipe.disp.ramp, s.pipe.disp.nW, s.pipe.disp.split⟩ } }).wr
      PIPE_FILL_STATUS.LIMP_SCALE scale

/-- An accepted record replaces the held beam at a tick (R231, R233, R234). -/
def State.limpInstall (s : State) : State :=
  match s.safe.limpNext with
  | none => s
  | some r =>
    let s1 := { s with safe := { s.safe with limp := some r, limpNext := none } }
    (({ s1.limpTabulate r with boot := { s.boot with limpJudged := true } }).sets PIPE_FILL_STATUS.BEAM_VALID).lightLimp

/-- LIMP_TABLE_RECOMPUTE (R231): a frame took another ramp table, N_W or SPLIT. With a beam whose bound no longer fits the
budget at 2^-12, S_LIMP is a free value. -/
def doLimpTableRecompute (s : State) : State :=
  match s.safe.limp with
  | none => s
  | some r => if s.safe.limpBasis = ⟨s.pipe.disp.ramp, s.pipe.disp.nW, s.pipe.disp.split⟩ then s else s.limpTabulate r

/-! ## The prediction pass (R100 to R107, R501) -/

/-- A prediction pass runs for the coming frame: NORMAL (R120), ACTIVE, and boot complete (R468). -/
def State.passRuns (s : State) : Bool := s.safety == 0 && s.boot.stage == 11 && s.powerState == 0 && !s.sleeping

/-- The weighted table of a strip, bank and colour from composed data (R100): F = 1, n rounded up, no dither. -/
def State.passTable (s : State) (d : DispSet) (buf t b c : Nat) : List Nat :=
  let es := (List.range 80).flatMap fun r => (List.range 256).map fun u =>
    let x := 256 * t + u
    let y := 8 * r + b
    let (isel, tgt) := s.encode d (s.composed buf x y c) (guardCell s.safe.guardNext (cellOf x y)) x y c 32768
    (isel, inv d.ramp d.nW (cdiv tgt 64))
  (List.range 64).map fun i => (es.map fun e => wEntry e.1 e.2 i).sum

/-- The tables of the coming frame: strips not in RUN take the limp beam's (R107), as all do before a composed frame is on
display (R469). -/
def State.passTables (s : State) (d : DispSet) (buf : Nat) : List (List Nat) :=
  (List.range 128).map fun i =>
    if bitN (s.rd PIPE_SE_CTRL.RUN) (i / 16) && !s.pipe.noFrame then s.passTable d buf (i / 16) (i / 2 % 8) (i % 2)
    else s.pipe.limpW.getD i []

/-- The effective references of all banks and colours under a scale, indexed 2 b + c. -/
def DispSet.effs (d : DispSet) (scale : Nat) : List Nat := (List.range 16).map fun i => d.eff scale (i / 2) (i % 2)

/-- The terms of the frame on display (R102). Where the fill unit supplied every row of a strip, because it drove the whole
face or the strip's engine prepared nothing in this frame, they are the limp beam's for that strip; the limp clamp counts
where it acted in the frame. -/
def State.oldTerms (s : State) : Terms :=
  let filled (t : Nat) : Bool := s.pipe.fillAll || s.pipe.noFrame || !bitN s.since.ran t
  let clamp (i e : Nat) : Nat := if s.since.clamped then min e (s.limpClampRef (i % 2)) else e
  { s.pipe.cur with
    w := (List.range 128).map fun i => (if filled (i / 16) then s.pipe.limpW else s.pipe.cur.w).getD i []
    eff := s.pipe.cur.eff.mapIdx clamp }

/-- The start of the pass after the composition has been judged: settings, budget and terms are taken (R103, R110, R501).
`buf` is the output buffer that the pass reads (R40). -/
def State.passTake (s : State) (buf : Nat) : State :=
  let s1 := s.latchTemps.sampleRate.rampReject
  let b := rdiv (clampN 100 12000 (s1.rd PIPE_GOV_CTRL.BUDGET) * s1.rd THERM_THROTTLE.TAU) 32768
  let s2 := s1.wr PIPE_GOV_CTRL.EFF_BUDGET b
  let d := s2.settings (s2.therm.vals.take 16)
  { s2 with
    pipe := { s2.pipe with next := some d, nextTerms := ⟨s2.passTables d buf, d.effs 32768, d.ramp, d.nW⟩ }
    tick := { s2.tick with passRunning := true, passDone := false, taken := true } }

/-- A trial scale meets the budget in both profiles (R101, R102). -/
def trialOk (d : DispSet) (terms old : Terms) (budget k : Nat) : Bool :=
  let new := { terms with eff := d.effs (8 * k) }
  within (peakOf new.profile) budget && within (peakOf (mixedProfile new old)) budget

/-- PREDICTION_PASS_DONE: the governor's result (R104), and the target of the LED supply (R377). -/
def doPredictionPassDone (s : State) : State :=
  match s.pipe.next with
  | none => s
  | some d =>
    if !s.tick.passRunning then s
    else
      let (m, ok) := chooseScale (trialOk d s.pipe.nextTerms s.oldTerms (s.rd PIPE_GOV_CTRL.EFF_BUDGET))
      let at' (sc : Nat) : Nat := peakOf (Terms.profile { s.pipe.nextTerms with eff := d.effs sc })
      let s1 := { s with
        pipe := { s.pipe with govS := some m, unmet := !ok, nextTerms := { s.pipe.nextTerms with eff := d.effs m } }
        tick := { s.tick with passRunning := false, passDone := true } }
      let s2 := ((s1.wr PIPE_GOV_SCALE.SCALE m).wr PIPE_GOV_STATUS.PEAK (toMilliamp (at' m))).wr PIPE_GOV_STATUS.PEAK1
        (toMilliamp (at' 32768))
      let s3 := (s2.setIf (m < 32768) PIPE_STATUS.GOV_LIMIT).setIf (!ok) PIPE_STATUS.GOV_UNMET
      let s4 := s3.newTarget (s3.vledTarget ((d.effs m).foldl max 0) (at' m)) (at' m)
      if s4.safety = 0 then s4.ledStart else s4

/-- GOV_SCALE_WRITE, the write itself made: between the pass and the tick a higher value is saturated (R105). A value outside 0x0008 to
0x8000 is stored and latched as it is (log entry 26). -/
def State.scaleWritten (s : State) : State :=
  match s.pipe.govS with
  | some m => s.wr PIPE_GOV_SCALE.SCALE (min m (s.rd PIPE_GOV_SCALE.SCALE / 8 * 8))
  | none => s

end Sys2Proof.Machine
end

