-- ==== Sys2Proof/Machine/Array.lean ====
section
/-!
DEFINITION. The emitter array: write windows and row slots, the references, cut windows, fault latches, row kill (R56 to
R92, R295, R313, R314).
-/
namespace Sys2Proof.Machine

/-! ## Cut windows (R73 to R81, R295, R296) -/

/-- An update of a window (R75, R77): a set or a clear writes both registers, which discards staged rows; a write of
ARRAY_CUT_COLS applies the rows as they stand. A Y above 639 is treated as 639; ARRAY_CUT_ROWS then shows 639, where after
a register write it shows what was written (DESIGN CHOICE, log entry 28). -/
def CutOp.apply : CutOp → CutView → CutView
  | .set r, _ => ⟨min r.y0 639, min r.y1 639, ⟨⟨min r.y0 639, min r.y1 639, r.g0, r.g1⟩, true⟩⟩
  | .clear, v => ⟨v.cut.rect.y0, v.cut.rect.y1, { v.cut with en := false }⟩
  | .cols g0 g1 en, v => ⟨v.y0, v.y1, ⟨⟨v.y0, v.y1, g0, g1⟩, en⟩⟩

/-- Window `w` as it stands. -/
def State.cutView (s : State) (w : Nat) : CutView :=
  ⟨s.rd (ARRAY_CUT_ROWS.Y0 w), s.rd (ARRAY_CUT_ROWS.Y1 w), s.array.cuts.getD w ⟨⟨0, 0, 0, 0⟩, false⟩⟩

/-- Window `w` takes effect, and its registers show it (R75). -/
def State.cutShow (s : State) (w : Nat) (v : CutView) : State :=
  (((((s.cutReplace w v.cut).wr (ARRAY_CUT_ROWS.Y0 w) v.y0).wr (ARRAY_CUT_ROWS.Y1 w) v.y1).wr (ARRAY_CUT_COLS.G0 w)
    v.cut.rect.g0).wr (ARRAY_CUT_COLS.G1 w) v.cut.rect.g1).wrB (ARRAY_CUT_COLS.EN w) v.cut.en

/-- A set defines an empty window (R77). -/
def cutEmpty (y0 y1 g0 g1 : Nat) : Bool := min y1 639 < min y0 639 || g1 < g0

/-- An update of window `w`, which stands at `v`. A write of ARRAY_CUT_COLS has written its register already. -/
def State.cutUpdate (s : State) (w : Nat) (v : CutView) (o : CutOp) : State :=
  match o with
  | .cols _ _ _ => s.cutReplace w (o.apply v).cut
  | _ => s.cutShow w (o.apply v)

/-- What the SPI port did to window `w` in this core cycle, if anything. -/
def State.cutTie (s : State) (w : Nat) : Option CutTie := s.array.cutSpi.find? fun e => e.w == w && e.cycle == s.cycle

/-- The updates of a window from the SPI port are noted, to be applied again after one from a link. -/
def State.noteTie (s : State) (e : CutTie) : State :=
  { s with array := { s.array with cutSpi := e :: s.array.cutSpi.filter fun d => d.cycle == s.cycle && d.w != e.w } }

/-- An update of window `w`, which stood at `v` before it, reaches the gate controller over a path. Commands between which no
time passes share a core cycle (log entry 22): there a link's update is applied before those from the SPI port, also where
these have been made already (R76). -/
def State.cutFrom (s : State) (src : Source) (w : Nat) (v : CutView) (o : CutOp) : State :=
  match s.cutTie w with
  | none => if src = .spi then (s.cutUpdate w v o).noteTie ⟨w, s.cycle, v, [o]⟩ else s.cutUpdate w v o
  | some e =>
    if src = .spi then (s.cutUpdate w v o).noteTie { e with ops := e.ops ++ [o] }
    else
      let b := o.apply e.base
      (s.cutShow w (e.ops.foldl (fun v o => o.apply v) b)).noteTie { e with base := b }

/-- CUT_WINDOW_SET (R77, R295, R296). -/
def doCutWindowSet (x : Ctx) (w y0 y1 g0 g1 : Nat) (s : State) : State :=
  if cutEmpty y0 y1 g0 g1 then s.answer x stBadParam []
  else if s.safety ≠ 0 then s.answer x stRefused []
  else (s.cutFrom x.src w (s.cutView w) (.set ⟨y0, y1, g0, g1⟩)).answer x stOk []

/-- CUT_WINDOW_CLEAR (R295). -/
def doCutWindowClear (x : Ctx) (mask : Nat) (s : State) : State :=
  (((List.range 16).filter (bitN mask)).foldl (fun t w => t.cutFrom x.src w (t.cutView w) .clear) s).answer x stOk []

/-- `ARRAY_CUT_COLS_w` has been written by a path: the window takes effect with the rows as they stand (R75, R77). -/
def State.colsWritten (s : State) (src : Source) (w : Nat) : State :=
  let t := s.cutFrom src w (s.cutView w) (.cols (s.rd (ARRAY_CUT_COLS.G0 w)) (s.rd (ARRAY_CUT_COLS.G1 w)) (s.on (ARRAY_CUT_COLS.EN w)))
  let c := t.array.cuts.getD w ⟨⟨0, 0, 0, 0⟩, false⟩
  t.setIf (c.en && !c.acts) ARRAY_STATUS.CUT_EMPTY

/-- A segment lies in a rectangle. -/
def Rect.covers (r : Rect) (y g : Nat) : Bool := r.y0 ≤ y && y ≤ r.y1 && r.g0 ≤ g && g ≤ r.g1

/-- The drive enable of the segment of row `y` and column group `g` is held off (R73, R80). -/
def State.segDark (s : State) (y g : Nat) : Bool :=
  s.array.cuts.any (fun c => c.acts && c.area.covers y g) || s.array.held.any fun h => h.1 == y % 8 && h.2.1.covers y g

/-- ARRAY_CUT_CTRL.ACTIVE (R92). -/
def State.cutActive (s : State) : Nat := ((List.range 16).filter fun w => (s.array.cuts.getD w ⟨⟨0, 0, 0, 0⟩, false⟩).acts).foldl
  (fun n w => n + 2 ^ w) 0

/-! ## Row kill (R88 to R91, R314) -/

/-- A row is killed. -/
def State.isKilled (s : State) (y : Nat) : Bool := s.array.killed.any fun k => k.1 == y

/-- Kill a row: recorded with its source, its anode switch opens (R88, R90). -/
def State.kill (s : State) (y : Nat) (host : Bool) : State :=
  ({ s with array := { s.array with killed := s.array.killed ++ [(y, host)], reopen := s.array.reopen.filter (· != y) } }).sets
    ARRAY_STATUS.ROWKILL_EV

/-- Release a row: its anode supply reopens from its bank's next lit interval (R91). The later rows of the table move up, so
that ARRAY_ROWKILL_0 to 15 list the killed rows in order of killing (DESIGN CHOICE, log entry 23). -/
def State.unkill (s : State) (y : Nat) : State :=
  { s with array := { s.array with killed := s.array.killed.filter fun k => k.1 != y
                                   reopen := y :: s.array.reopen.filter (· != y) } }

/-- The row's anode switch is open (R88, R91). -/
def State.rowOpen (s : State) (y : Nat) : Bool := s.isKilled y || s.array.reopen.contains y

/-- Add a row to the persist list, or take it out (R314). -/
def State.setPersist (s : State) (y : Nat) (inList : Bool) : State :=
  let l := s.array.persist.filter (· != y)
  { s with array := { s.array with persist := if inList then l ++ [y] else l } }

/-- An entry goes back to its place in a list: behind those entries that stood before it. -/
def putBack {α : Type} (was : α → Bool) (e : α) (l : List α) : List α := l.takeWhile was ++ e :: l.dropWhile was

/-- A release that has been made in this core cycle loses the tie: it reopens nothing, and the row stands in the table, and in
the persist list, as before (R91, R314). -/
def State.unrelease (s : State) (r : RowRelease) : State :=
  let t := { s with array := { s.array with
    killed := putBack (fun k => r.before.contains k.1) (r.row, r.host) s.array.killed
    reopen := s.array.reopen.filter (· != r.row)
    persist := match r.persist with | some l => putBack l.contains r.row s.array.persist | none => s.array.persist
    releases := s.array.releases.filter fun q => q.row != r.row } }
  t.recomplete r.h stBadParam []

/-- ROW_KILL with kill (R314). -/
def State.rowKilled (s : State) (x : Ctx) (y : Nat) (persist : Bool) : State :=
  let s1 := if s.isKilled y then s else s.kill y true
  let s2 := if persist && !s1.array.persist.contains y then s1.setPersist y true else s1
  ({ s2 with array := { s2.array with kills := (y, s.cycle) :: s2.array.kills.filter fun k => k.2 == s.cycle } }).answer x stOk []

/-- ROW_KILL with release (R91, R314). -/
def State.rowReleased (s : State) (x : Ctx) (y : Nat) (persist : Bool) : State :=
  let s1 := if persist then (s.unkill y).setPersist y false else s.unkill y
  let r : RowRelease := ⟨y, x.handle, s.cycle, s.array.killed.any fun k => k.1 == y && k.2, (s.array.killed.map (·.1)).takeWhile (· != y),
    if persist && s.array.persist.contains y then some (s.array.persist.takeWhile (· != y)) else none⟩
  ({ s1 with array := { s1.array with releases := r :: s1.array.releases.filter fun q => q.cycle == s.cycle } }).answer x stOk []

/-- The release of a row in this core cycle. -/
def State.releasedNow (s : State) (y : Nat) : Option RowRelease := s.array.releases.find? fun r => r.row == y && r.cycle == s.cycle

/-- ROW_KILL (R91, R314). Commands between which no time passes share a core cycle (log entry 22): there a kill wins against a
release of the row, in either order. -/
def doRowKill (x : Ctx) (y op : Nat) (persist : Bool) (s : State) : State :=
  if 639 < y ∨ 1 < op then s.answer x stBadParam []
  else if op = 0 then
    let t := match s.releasedNow y with | some r => s.unrelease r | none => s
    if (persist ∧ !t.array.persist.contains y ∧ 16 ≤ t.array.persist.length) ∨ (!t.isKilled y ∧ 16 ≤ t.array.killed.length) then
      s.answer x stNotNow []
    else t.rowKilled x y persist
  else if !s.isKilled y ∨ s.array.kills.contains (y, s.cycle) then s.answer x stBadParam []
  else s.rowReleased x y persist

/-- Killed again during boot from the stored list (R90, R314). -/
def State.bootKills (s : State) (rows : List Nat) : State :=
  rows.foldl (fun t y => if t.isKilled y then t else (t.kill y true)) { s with array := { s.array with persist := rows } }

/-- ARRAY_ROWKILL_n (R92). -/
def State.rowkillWord (s : State) (n : Nat) : Word :=
  match s.array.killed.drop n with
  | [] => 0
  | k :: _ => BitVec.ofNat 32 (k.1 + (if k.2 then 4096 else 0) + 32768)

/-! ## Fault scan (R82 to R87, R89) -/

/-- The sub-frame of the slot in progress. -/
def State.subframe (s : State) : Nat := match s.tick.slot with | some j => j / 8 | none => 0

/-- The reads that confirm a fault (R84). -/
def State.confirmCount (s : State) : Nat := max 1 (min (clampN 1 8 (s.rd ARRAY_CTRL.FAULT_CONFIRM)) (s.tick.nsf - 1))

/-- The row-kill policy on a confirmed SHORT (R89). -/
def State.killPolicy (s : State) (y : Nat) : State :=
  if s.isKilled y then s
  else if s.rd ARRAY_ROWKILL_CFG.POLICY ≠ 0 ∧ s.array.killed.length < clampN 1 16 (s.rd ARRAY_ROWKILL_CFG.MAX) then s.kill y false
  else
    let s1 := s.sets ARRAY_STATUS.STUCK_UNKILLED
    if 2 ≤ s.rd ARRAY_ROWKILL_CFG.POLICY then s1.raise (cause 13) else s1

/-- Two entries name the same fault (R86). -/
def FaultEnt.same (f g : FaultEnt) : Bool := f.em == g.em && f.short == g.short

/-- The confirmations of this core cycle (R313). -/
def State.confirmedNow (s : State) : Confirmed := if s.array.confirmed.cycle = s.cycle then s.array.confirmed else ⟨s.cycle, [], 0⟩

/-- A confirmation joins those of this core cycle, and the fault list if `joins` (R86, R313). -/
def State.noteConfirmed (s : State) (f : FaultEnt) (joins : Bool) : State :=
  let c := s.confirmedNow
  { s with array := { s.array with
    confirmed := ⟨s.cycle, c.faults ++ [f], c.joined + joins.toNat⟩, faults := if joins then s.array.faults ++ [f] else s.array.faults } }

/-- A fault is confirmed (R86). -/
def State.confirm (s : State) (e : Emitter) (short : Bool) : State :=
  let f := FaultEnt.mk e short (BitVec.ofNat 32 s.tickCount)
  let listed := s.array.faults.any f.same
  let s1 := (s.inc (if short then ARRAY_FAULT_CNT.SHORT else ARRAY_FAULT_CNT.OPEN)).noteConfirmed f
    (!listed && s.array.faults.length < 1024)
  let s2 := s1.setIf (!listed && 1023 ≤ s.array.faults.length) ARRAY_STATUS.FAULT_OVF
  let s3 := s2.sets ARRAY_STATUS.FAULT_NEW
  if short then s3.killPolicy e.y else s3

/-- One latch is read as set (R84): a further candidate over 512 is confirmed at once. -/
def State.latchSet (s : State) (e : Emitter) (short : Bool) : State :=
  let same (c : Cand) : Bool := c.em == e && c.short == short
  let rest := s.array.cands.filter fun c => !same c
  match s.array.cands.find? same with
  | some c =>
    if s.confirmCount ≤ c.reads + 1 then ({ s with array := { s.array with cands := rest } }).confirm e short
    else { s with array := { s.array with cands := rest ++ [⟨e, short, c.reads + 1⟩] } }
  | none =>
    if s.confirmCount ≤ 1 ∨ 512 ≤ s.array.cands.length then s.confirm e short
    else { s with array := { s.array with cands := s.array.cands ++ [⟨e, short, 1⟩] } }

/-- The ramp table and N_W of the lit interval that a bank's write window ends: in sub-frame 0 those of the frame before. -/
def State.endedRamp (s : State) : List Nat × Nat := if s.subframe = 0 then s.array.litRamp else (s.pipe.disp.ramp, s.pipe.disp.nW)

/-- The OPEN latch of an emitter can have set in the lit interval just ended (R82): its code was lit for at least 8 steps, and
neither its segment nor its row was off, nor its bank's references at 0, from the interval's beginning. -/
def State.openable (s : State) (y : Nat) (e : Nat × Bool) : Bool :=
  let v := (s.code e.1 y e.2.toNat).toNat
  8 ≤ onSteps s.endedRamp.1 s.endedRamp.2 (v % 1024) && !s.since.litZero.contains (y % 8) && !s.array.litRows.contains y
    && !s.array.litBar.any fun r => r.1 == y % 8 && r.2.covers y (e.1 / 16)

/-- The latches of a row are read and cleared (R84, R87): every SHORT, in the order given, then every OPEN (DESIGN CHOICE,
log entry 24: within a row slot the spec gives no order). With more than 64 OPEN latches, none of them makes a candidate,
and OPEN candidates of the row keep their counts (DESIGN CHOICE, log entry 24). -/
def State.scanRow (s : State) (y : Nat) (shorts latched : List (Nat × Bool)) : State :=
  let opens := latched.filter (s.openable y)
  let short := 64 < opens.length
  let s1 := if short then (s.sets ARRAY_STATUS.HEADROOM).headroomSignal else s
  let keep (c : Cand) : Bool :=
    c.em.y != y || (if c.short then shorts.contains (c.em.x, c.em.cool) else short || opens.contains (c.em.x, c.em.cool))
  let s2 := { s1 with array := { s1.array with cands := s1.array.cands.filter keep } }
  let s3 := shorts.foldl (fun t e => t.latchSet ⟨e.1, y, e.2⟩ true) s2
  if short then s3 else opens.foldl (fun t e => t.latchSet ⟨e.1, y, e.2⟩ false) s3

/-! ## Write windows (R63 to R67) -/

/-- The codes of a row are written (R66): entries 4096 y to 4096 y + 4095 take the row's listed codes. -/
def State.writeRow (s : State) (y : Nat) (row : List (Nat × BitVec 11)) : State :=
  let below := s.array.codes.filter fun e => e.1 < 4096 * y
  let above := s.array.codes.filter fun e => 4096 * (y + 1) ≤ e.1
  { s with array := { s.array with codes := below ++ row ++ above } }

/-- ROW_SLOT: the row's latches are read and its codes written (R65, R66, R84, R116). -/
def State.rowSlot (s : State) (y : Nat) (shorts opens : List (Nat × Bool)) (progress : List Nat) : State :=
  let s1 := s.scanRow y shorts opens
  let filled := s1.filledStrips progress
  let s2 := s1.writeRow y (s1.rowCodes progress y s.subframe)
  let old := s2.array.fillRows.filter fun e => e.1 != y
  ({ s2 with array := { s2.array with fillRows := old ++ filled.map fun t => (y, t) } }).countFill filled

/-- The DACs of a bank take the references of the frame (R70). -/
def State.dacLoad (s : State) (b : Nat) : State :=
  (s.wr (ARRAY_IREF_EFF.WARM b) (s.pipe.disp.eff s.pipe.scale b 0)).wr (ARRAY_IREF_EFF.COOL b) (s.pipe.disp.eff s.pipe.scale b 1)

/-- The slot in progress is one of bank b (R30). -/
def State.slotOf (s : State) (b : Nat) : Bool := match s.tick.slot with | some j => j % 8 == b | none => false

/-- WRITE_WINDOW_OPEN (R30, R63, R64, R70, R379): the window of a bank falls in the bank's own slots. -/
def doWriteWindowOpen (b : Nat) (s : State) : State :=
  if !s.slotOf b ∨ s.powerState ≠ 0 then s
  else
  let s1 := { s with
    array := { s.array with parked := b :: s.array.parked.filter (· != b), armed := b :: s.array.armed.filter (· != b) }
    power := { s.power with headroom := false } }
  if s.subframe = 0 then s1.dacLoad b else s1

/-- The part of WRITE_WINDOW_END that the array does (R63, R80, R91): the bank's lit interval begins, and what is off at its
beginning is noted (R82). -/
def State.windowEnd (s : State) (b : Nat) : State :=
  let rows := (s.array.killed.map (·.1)).filter (· % 8 == b)
  let held := (s.array.held.filter fun h => h.1 != b || h.2.2).map fun h => if h.1 == b then (h.1, h.2.1, false) else h
  { s with array := { s.array with
      parked := s.array.parked.filter (· != b), armed := s.array.armed.filter (· != b)
      held := held
      reopen := s.array.reopen.filter fun y => y % 8 != b
      litBar := s.array.litBar.filter (·.1 != b) ++ ((actingRects s.array.cuts) ++ (held.filter (·.1 == b)).map (·.2.1)).map fun r => (b, r)
      litRows := s.array.litRows.filter (· % 8 != b) ++ rows }
           since := { s.since with
      litZero := if s.forceZero then b :: s.since.litZero.filter (· != b) else s.since.litZero.filter (· != b) } }

/-! ## Slots and the dark slot (R30, R48, R116) -/

/-- SLOT_START: the next slot of the frame begins, and the engines in RUN start on it (R116, R122). -/
def doSlotStart (s : State) : State :=
  let j := match s.tick.slot with | none => 0 | some i => i + 1
  if s.tick.tickAt.isNone ∨ 8 * s.tick.nsf ≤ j then s
  else
  let s1 := { s with tick := { s.tick with slot := some j }
                     cal := if j % 8 = 0 then { s.cal with headroom := false, kept := 0 } else s.cal }
  ((s1.wr TICK_PHASE.SUBFRAME (j / 8)).wr TICK_PHASE.SLOT j).slotEngines

/-- The interval in which TICK_OUT shows the dark slot (R49): the slot less 1 us at each end; none below 3 us. A slot ends
with its frame at the latest (R48). -/
def State.darkOut (s : State) : Option (Nat × Nat) :=
  let stop := min (s.now + s.tick.darkLen * 1000) (s.tick.tickAt.getD s.now + s.tick.frameLen)
  if stop < s.now + 3000 then none else some (s.now + 1000, stop - 1000)

/-- DARK_SLOT_START (R48): a slot of length 0, or whose offset lies beyond its frame, is not shown. -/
def doDarkSlotStart (s : State) : State :=
  if s.tick.darkLen = 0 ∨ s.tick.frameLen ≤ s.tick.darkOff * 1000 then s
  else { s with tick := { s.tick with dark := true, outDark := s.darkOut } }

/-- DARK_SLOT_END (R48, R71): a slot that has ended with its frame does not end again (log entry 83). -/
def doDarkSlotEnd (s : State) : State :=
  if !s.tick.dark then s else { s with tick := { s.tick with dark := false }, cal := { s.cal with darkEnd := some s.now } }

/-! ## What the array drives (R71, R73, R88) -/

/-- The DAC output of a bank and colour, 0 warm (R71): force-zero, then the limp clamp, then EFF. -/
def State.dacOut (s : State) (b c : Nat) : Nat :=
  let e := s.rd (if c = 0 then ARRAY_IREF_EFF.WARM b else ARRAY_IREF_EFF.COOL b)
  if s.forceZero then 0 else if s.limpClamp then min e (s.limpClampRef c) else e

/-- The drive of an emitter is off whatever its code: its segment is cut, its bank parked, or its row open. -/
def State.driveOff (s : State) (x y : Nat) : Bool := s.segDark y (x / 16) || s.array.parked.contains (y % 8) || s.rowOpen y

/-- FAULT_MAP_READ (R313). -/
def faultBytes (f : FaultEnt) : List Byte :=
  leBytes 2 f.em.x ++ leBytes 2 (f.em.y + (if f.em.cool then 16384 else 0) + (if f.short then 32768 else 0)) ++ leBytes 4 f.tick.toNat

/-- The fault list without the confirmations of this core cycle (R313): commands between which no time passes share one (log
entry 22). -/
def State.faultsBefore (s : State) : List FaultEnt := s.array.faults.take (s.array.faults.length - s.confirmedNow.joined)

/-- The first `n` entries leave the list; the confirmations of this core cycle stand behind the rest, as far as they are not in
it and it has room (R86, R313). -/
def State.faultsClear (s : State) (n : Nat) : State :=
  let rest := s.faultsBefore.drop n
  let l := s.confirmedNow.faults.foldl (fun l f => if l.any f.same || 1024 ≤ l.length then l else l ++ [f]) rest
  { s with array := { s.array with faults := l, confirmed := { s.confirmedNow with joined := l.length - rest.length } } }

/-- FAULT_MAP_READ (R86, R313): a confirmation in the same core cycle is appended after the removal. -/
def doFaultMapRead (x : Ctx) (start max : Nat) (clear : Bool) (s : State) : State :=
  if max = 0 ∨ 255 < max ∨ (clear ∧ start ≠ 0) then s.answer x stBadParam []
  else
    let l := s.faultsBefore
    let out := (l.drop start).take max
    (if clear then s.faultsClear out.length else s).answer x stOk (leBytes 2 l.length ++ leBytes 1 out.length ++ leBytes 1 0 ++ out.flatMap faultBytes)

end Sys2Proof.Machine
end

