-- ==== Sys2Proof/Machine/Mon.lean ====
section
/-!
DEFINITION. Histogram monitors, CRC units, the scan engine and the output region signatures (R299, R311, R312, R426 to
R434).
-/
namespace Sys2Proof.Machine

/-! ## Histogram monitors (R312, R426 to R428) -/

/-- The bin of a value (R427). -/
def binOf (log2 : Bool) (shift v : Nat) : Nat := if log2 then (if v = 0 then 0 else min 31 (Nat.log2 v + 1)) else min 31 (v / 2 ^ shift)

/-- One value enters an accumulation; COUNT and the bins saturate (R427). -/
def Hist.add (log2 : Bool) (shift : Nat) (h : Hist) (v : Nat) : Hist :=
  { min := Nat.min h.min v, max := Nat.max h.max v, count := Nat.min 0xFFFFFFFF (h.count + 1), sum := h.sum + v
    bins := h.bins.modify (binOf log2 shift v) fun n => Nat.min 0xFFFFFFFF (n + 1) }

/-- A monitor's setting replaced. -/
def State.setMon (s : State) (m : Nat) (c : MonSt) : State := { s with test := { s.test with mons := s.test.mons.set m c } }

/-- A monitor. -/
def State.mon (s : State) (m : Nat) : MonSt := s.test.mons.getD m MonSt.init

/-- Monitor `m` gathers values. -/
def State.gather (s : State) (m : Nat) (vs : List Nat) : State :=
  let c := s.mon m
  s.setMon m { c with acc := vs.foldl (Hist.add c.log2 c.shift) c.acc }

/-- Every enabled monitor of one of the given sources gathers the values that `f` gives it. -/
def State.gatherAll (s : State) (srcs : List Nat) (f : MonSt → List Nat) : State :=
  (List.range 8).foldl (fun t m => if (t.mon m).en && srcs.contains (t.mon m).source then t.gather m (f (t.mon m)) else t) s

/-- The numbers from `a` to `b`, both included. -/
def span (a b : Nat) : List Nat := (List.range (b + 1 - a)).map (a + ·)

/-- The pixels of a region, in raster order. -/
def regionPixels (x0 y0 x1 y1 : Nat) : List (Nat × Nat) := (span y0 y1).flatMap fun y => (span x0 x1).map fun x => (x, y)

/-- A monitor's pixels. -/
def MonSt.pixels (c : MonSt) : List (Nat × Nat) := regionPixels c.rect.1 c.rect.2.1 c.rect.2.2.1 c.rect.2.2.2

/-- Sources 0 and 1: the composed values of the buffer that goes on display (R426). -/
def State.gatherComposed (s : State) : State :=
  s.gatherAll [0, 1] fun c => c.pixels.map fun p => s.composed s.dispBuf p.1 p.2 c.source

/-- Sources 2 and 3: the values after stage 1, in the prediction pass over buffer `buf` by the engines in RUN (R426). -/
def State.gatherPass (s : State) (buf : Nat) : State :=
  s.gatherAll [2, 3] fun c => (c.pixels.filter fun p => bitN (s.rd PIPE_SE_CTRL.RUN) (p.1 / 256)).map fun p =>
    min (s.composed buf p.1 p.2 (c.source - 2)) (guardL (guardCell s.safe.guardNext (cellOf p.1 p.2)))

/-- The value that sources 4 and 5 gather for a code (R426). -/
def codeValue (v : BitVec 11) : Nat := if 1024 ≤ v.toNat then (v.toNat - 1024) * 64 else v.toNat

/-- Sources 4 and 5: the codes of row `y` in sub-frame 0, as driven (R426). -/
def State.gatherRow (s : State) (y : Nat) : State :=
  s.gatherAll [4, 5] fun c =>
    if c.rect.2.1 ≤ y ∧ y ≤ c.rect.2.2.2 then (span c.rect.1 c.rect.2.2.1).map fun x => codeValue (s.code x y (c.source - 4)) else []

/-- Source 6: the reconciled guard of every cell that overlaps the region (R426). -/
def State.gatherGuard (s : State) : State :=
  s.gatherAll [6] fun c => (span (c.rect.2.1 / 4) (c.rect.2.2.2 / 4)).flatMap fun r =>
    (span (c.rect.1 / 4) (c.rect.2.2.1 / 4)).map fun u => guardCell s.safe.guardNext (512 * r + u)

/-- The frame that ends its gathering at this tick counts for a source (R426): `fresh` when a newly composed frame goes
on display. -/
def State.monCounts (s : State) (fresh : Bool) (source : Nat) : Bool :=
  if source < 2 then fresh else if source < 4 then s.safety != 1 else if source < 6 then true
  else s.on SAFE_STATUS.GUARD_ACTIVE && s.daelo.pastDeadline

/-- The readout takes the accumulated set (R428). -/
def State.monCopy (s : State) (m : Nat) : State :=
  let c := s.mon m
  s.setMon m { c with out := c.acc, outTick := BitVec.ofNat 32 s.tickCount }

/-- Accumulation restarts (R428). -/
def State.monRestart (s : State) (m : Nat) : State := s.setMon m { s.mon m with acc := Hist.init, counted := 0, clear := false }

/-- One monitor at a tick (R428). -/
def State.monTick1 (s : State) (fresh : Bool) (m : Nat) : State :=
  let c := s.mon m
  if !c.en then (if c.clear then s.monRestart m else s)
  else
    let s1 := if s.monCounts fresh c.source then s.setMon m { c with counted := c.counted + 1 } else s
    let s2 :=
      if c.frames = 0 then s1.monCopy m
      else if (s1.mon m).counted = c.frames then ((s1.monCopy m).monRestart m).wr ⟨0xF000, m, 1⟩ 1
      else s1
    if c.clear then s2.monRestart m else s2

/-- The monitors at a tick (R428). -/
def State.monTick (s : State) (fresh : Bool) : State :=
  (List.range 8).foldl (fun t m => t.monTick1 fresh m) (if fresh then s.gatherComposed else s)

/-- MONITOR_CONFIG's parameters are in range (R299, R312, R426). -/
def monOk (mon source shift x0 y0 x1 y1 : Nat) : Bool :=
  mon ≤ 7 && source ≤ 6 && shift ≤ 15 && x0 ≤ x1 && x1 ≤ 2047 && y0 ≤ y1 && y1 ≤ 639

/-- Latch a command at the next tick (R280): it is PENDING until then. -/
def State.atTick (s : State) (x : Ctx) (c : Cmd) : State :=
  let s1 := s.pend x.handle
  { s1 with cmd := { s1.cmd with tickCmds := s1.cmd.tickCmds ++ [(x.handle, c)] } }

/-- MONITOR_CONFIG executes (R312). -/
def doMonitorConfig (x : Ctx) (mon : Nat) (en log2 : Bool) (source shift x0 y0 x1 y1 frames : Nat) (s : State) : State :=
  if monOk mon source shift x0 y0 x1 y1 then s.atTick x (.monitorConfig mon en log2 source shift x0 y0 x1 y1 frames)
  else s.answer x stBadParam []

/-- MONITOR_CONFIG latches (R428). -/
def State.monLatch (s : State) (mon : Nat) (en log2 : Bool) (source shift x0 y0 x1 y1 frames : Nat) : State :=
  let c := { s.mon mon with en := en, log2 := log2, source := source, shift := shift, rect := (x0, y0, x1, y1), frames := frames }
  (((s.setMon mon c).monRestart mon).wrB ⟨0xF00C, mon, 1⟩ en).wrB ⟨0xF00C, 8 + mon, 1⟩ log2

/-- The reply of MONITOR_READ (R312). -/
def MonSt.bytes (c : MonSt) : List Byte :=
  leBytes 4 c.out.min ++ leBytes 4 c.out.max ++ leBytes 4 c.out.count ++ leBytes 8 c.out.sum ++ c.out.bins.flatMap (leBytes 4)
    ++ leBytes 4 c.outTick.toNat

/-- MONITOR_READ (R312, R428). -/
def doMonitorRead (x : Ctx) (mon : Nat) (clear : Bool) (s : State) : State :=
  if 7 < mon then s.answer x stBadParam []
  else (if clear then s.setMon mon { s.mon mon with clear := true } else s).answer x stOk (s.mon mon).bytes

/-! ## CRC units (R429, R430) -/

/-- ALG of a unit as used: 3 is treated as 1 (R438). -/
def State.crcAlg (s : State) (k : Nat) : Nat := let a := s.rd (CRC_CTRL.ALG k); if a = 3 then 1 else a

/-- The running register of a unit replaced. -/
def State.setCrc (s : State) (k v : Nat) : State := { s with test := { s.test with crc := s.test.crc.set k v } }

/-- INIT is served (R430). -/
def State.crcRestart (s : State) (k : Nat) : State :=
  ((s.setCrc k (crcInit (s.crcAlg k))).wr (CRC_COUNT.COUNT k) 0).wr (CRC_CTRL.INIT k) 0

/-- `CRC_k_CTRL` has been written; `old` is the ALG field before (R430). -/
def State.crcCtrlWritten (s : State) (k old : Nat) : State :=
  if s.on (CRC_CTRL.INIT k) ∨ s.rd (CRC_CTRL.ALG k) ≠ old then s.crcRestart k else s

/-- Bytes per data write (R438). -/
def State.crcBytes (s : State) (k : Nat) : Nat := let b := s.rd (CRC_CTRL.BYTES k); if b = 0 then 4 else b

/-- A write to `CRC_k_DATA` is processed (R430), unless the unit is stopped by its test (R421); the register reads 0. -/
def State.crcData (s : State) (k : Nat) (v : Word) : State :=
  if s.underTest [13] then s
  else
  let n := s.crcBytes k
  (s.setCrc k ((leBytes n v.toNat).foldl (crcByte (s.crcAlg k)) (s.test.crc.getD k 0))).incBy (CRC_COUNT.COUNT k) n

/-- `CRC_k_VALUE` (R430). -/
def State.crcValue (s : State) (k : Nat) : Word := BitVec.ofNat 32 (crcOut (s.crcAlg k) (s.test.crc.getD k 0))

/-! ## Scan engine (R311, R324, R431) -/

/-- SCAN_CHECK's parameters are in range (R311). -/
def scanOk (space alg start len : Nat) : Bool :=
  space ≤ 1 && alg ≤ 2 && start % 32 == 0 && len % 32 == 0 && 32 ≤ len && start + len ≤ (if space = 0 then 0x1C00000 else 0x800000)

/-- SCAN_CHECK (R311, R324). -/
def doScanCheck (x : Ctx) (space alg : Nat) (compare : Bool) (start len expect : Nat) (s : State) : State :=
  if !scanOk space alg start len then s.answer x stBadParam []
  else if !s.on CRC_SCAN_CTRL.EN ∨ s.test.scan.isSome then s.answer x stNotNow []
  else
    let s1 := s.pend x.handle
    let s2 := { s1 with test := { s1.test with scan := some ⟨x.handle, space, alg, compare, start, len, expect, 0, crcInit alg⟩ } }
    let s3 := if space = 0 then s2.memOp 1 0 start len false else s2
    ((((s3.wr CRC_SCAN_CTRL.ALG alg).wr CRC_SCAN_CTRL.SPACE space).wr CRC_SCAN_CRC.CRC (crcOut alg (crcInit alg))).wr
      CRC_SCAN_COUNT.COUNT 0).sets CRC_STATUS.SCAN_BUSY

/-- The scan ends with a status and the result bytes of R311. -/
def State.scanEnd (s : State) (r : ScanRun) (status : Nat) : State :=
  (({ s with test := { s.test with scan := none } }.memDrop 1 0).wr CRC_STATUS.SCAN_BUSY 0).finish r.handle status
    (leBytes 4 (s.rd CRC_SCAN_CRC.CRC) ++ leBytes 4 (s.rd CRC_SCAN_COUNT.COUNT))

/-- SCAN_DONE (R311, R367, R431). -/
def doScanDone (s : State) : State :=
  match s.test.scan with
  | none => s
  | some r =>
    let s1 := (s.scanTo r r.len).sets CRC_STATUS.SCAN_DONE
    let bad := (r.compare && s1.rd CRC_SCAN_CRC.CRC != r.expect) || (r.space == 1 && (pagesOf r.start r.len).any s.pageBad)
    (s1.setIf bad CRC_STATUS.SCAN_MISMATCH).scanEnd r (if bad then stVerify else stOk)

/-- The scan stops after the beat in progress and completes ABORTED (R311, R324): how many beats is a free value. -/
def State.scanAbort (s : State) : State :=
  match s.test.scan with
  | none => s
  | some r => (s.scanStep.sets CRC_STATUS.SCAN_ABORT).scanEnd r stAborted

/-! ## Output region signatures (R299, R432, R433) -/

/-- REGION_SIG_SET executes (R299). -/
def doRegionSigSet (x : Ctx) (k : Nat) (en check : Bool) (point x0 y0 x1 y1 expect : Nat) (s : State) : State :=
  if k ≤ 15 ∧ point ≤ 1 ∧ x0 ≤ x1 ∧ x1 ≤ 2047 ∧ y0 ≤ y1 ∧ y1 ≤ 639 then
    s.atTick x (.regionSigSet k en check point x0 y0 x1 y1 expect)
  else s.answer x stBadParam []

/-- REGION_SIG_SET latches (R433, R437). -/
def State.sigLatch (s : State) (k : Nat) (en check : Bool) (point x0 y0 x1 y1 expect : Nat) : State :=
  let s1 := (((s.wr (MON_SIG_X.X0 k) x0).wr (MON_SIG_X.X1 k) x1).wr (MON_SIG_Y.Y0 k) y0).wr (MON_SIG_Y.Y1 k) y1
  let s2 := (((s1.wrB (MON_SIG_Y.EN k) en).wrB (MON_SIG_Y.CHECK k) check).wr (MON_SIG_Y.POINT k) point).wr (MON_SIG_EXPECT.VALUE k) expect
  let s3 := s2.wrB ⟨0xF008, 16 + k, 1⟩ (en && check)
  { s3 with test := { s3.test with sigHave := s3.test.sigHave.filter (· != k) } }

/-- With CHECK, a value is compared with EXPECT (R433). -/
def State.sigCompare (s : State) (k : Nat) : State :=
  if !s.on (MON_SIG_Y.CHECK k) then s
  else
    let s1 := s.inc (MON_SIG_CNT.COMPARED k)
    if s1.rd (MON_SIG_VALUE.VALUE k) = s1.rd (MON_SIG_EXPECT.VALUE k) then s1
    else ((s1.wr ⟨0xF008, k, 1⟩ 1).sets MON_STATUS.SIG_MISS).inc (MON_SIG_CNT.MISS k)

/-- A new signature (R433). -/
def State.sigStore (s : State) (k v : Nat) : State :=
  (({ s with test := { s.test with sigHave := k :: s.test.sigHave.filter (· != k) } }).wr (MON_SIG_VALUE.VALUE k) v).sigCompare k

/-- The signature of region `k` over 4 bytes per pixel (R432). -/
def State.sigOf (s : State) (k : Nat) (pix : Nat → Nat → List Byte) : Nat :=
  crc32c ((regionPixels (s.rd (MON_SIG_X.X0 k)) (s.rd (MON_SIG_Y.Y0 k)) (s.rd (MON_SIG_X.X1 k)) (s.rd (MON_SIG_Y.Y1 k))).flatMap
    fun p => pix p.1 p.2)

/-- Signature `k` is enabled at a point. -/
def State.sigAt (s : State) (k point : Nat) : Bool := s.on (MON_SIG_Y.EN k) && s.rd (MON_SIG_Y.POINT k) == point

/-- The signatures of POINT 0 at a tick (R433): `fresh` when a newly composed frame goes on display. A repeat keeps the
value and compares it again. -/
def State.sigTick (s : State) (fresh : Bool) : State :=
  ((List.range 16).filter fun k => s.sigAt k 0).foldl (fun t k =>
    if fresh then t.sigStore k (t.sigOf k fun x y => leBytes 2 (t.composed t.dispBuf x y 0) ++ leBytes 2 (t.composed t.dispBuf x y 1))
    else if t.test.sigHave.contains k then t.sigCompare k else t) s

/-- The signatures of POINT 1, at the end of bank 7's window of sub-frame 0 (R433). -/
def State.sigCodes (s : State) : State :=
  ((List.range 16).filter fun k => s.sigAt k 1).foldl (fun t k =>
    t.sigStore k (t.sigOf k fun x y => leBytes 2 (t.code x y 0).toNat ++ leBytes 2 (t.code x y 1).toNat)) s

/-- The strip engines in RUN fetch their part of a row from the buffer on display (R34, R346); what an engine had not fetched
of an earlier row is late and given up (R116). -/
def State.rowFetch (s : State) (y : Nat) : State :=
  ((List.range 8).filter (bitN (s.rd PIPE_SE_CTRL.RUN))).foldl (fun t k =>
    (t.memDrop 6 k).memOp 6 k (bufBase t.dispBuf + 4 * (2048 * y + 256 * k)) 1024 false) s

/-- ROW_SLOT (R65): the array's part, and the monitors of sources 4 and 5 in sub-frame 0. Outside ACTIVE no row is written
(R383). A row slot falls in an open window of its bank, whose SHORT latches are armed (R64, R83). -/
def doRowSlot (y : Nat) (shorts opens : List (Nat × Bool)) (progress : List Nat) (s : State) : State :=
  if 639 < y ∨ !s.slotOf (y % 8) ∨ !s.array.armed.contains (y % 8) ∨ s.powerState ≠ 0 then s
  else
  if s.underTest [2, 14] then (s.scanRow y shorts opens).writeRow y []
  else
  let s1 := (s.rowFetch y).rowSlot y shorts opens progress
  if s1.subframe = 0 then s1.gatherRow y else s1

/-- WRITE_WINDOW_END (R63, R433): only an open window ends. Outside ACTIVE every bank stays parked (R383). -/
def doWriteWindowEnd (b : Nat) (s : State) : State :=
  if !s.array.parked.contains b ∨ s.powerState ≠ 0 then s
  else
  let s1 := s.windowEnd b
  if b = 7 ∧ s1.subframe = 0 then s1.sigCodes else s1

end Sys2Proof.Machine
end

