-- ==== Sys2Proof/Machine/Cal.lean ====
section
/-!
DEFINITION. Content-statistics calibration: samples, fits, checks and application (R308, R411 to R419).
-/
namespace Sys2Proof.Machine

/-! ## Samples (R411 to R413) -/

/-- The step at which bank b stands in bank-0 period k (R412). -/
def stepOf (k b : Nat) : Nat := (k + 1024 - 128 * (b + 1) % 1024) % 1024

/-- The weight of a code lit at step `st` (R412). -/
def litWeight (d : DispSet) (st : Nat) (v : BitVec 11) : Nat :=
  if st < 1024 - d.nW ∧ d.ramp.getD st 0 < v.toNat % 1024 then (if 1024 ≤ v.toNat then 64 else 1) else 0

/-- The weighted count W of a strip, bank and colour at bank-0 period k: killed rows are left out (R412). -/
def State.weightedCount (s : State) (k t b c : Nat) : Nat :=
  ((List.range 80).map fun r =>
    let y := 8 * r + b
    if s.isKilled y then 0
    else ((List.range 256).map fun u => litWeight s.pipe.disp (stepOf k b) (s.code (256 * t + u) y c)).sum).sum

/-- The effective reference in force, before any override (R69). -/
def State.effInForce (s : State) (b c : Nat) : Nat := s.rd (if c = 0 then ARRAY_IREF_EFF.WARM b else ARRAY_IREF_EFF.COOL b)

/-- The eight predicted currents of a sample in units of 6.25 nA / 64 (R412); 0 in the dark slot (R413). -/
def State.predicted (s : State) (k t c : Nat) : List Nat :=
  (List.range 8).map fun b => if s.tick.dark then 0 else s.effInForce b c * s.weightedCount k t b c

/-- The instant is discarded for every strip (R413). -/
def State.discardAll (s : State) : Bool :=
  if s.tick.dark then false
  else s.forceZero || s.limpClamp || s.foldback || !s.on POWER_STATUS.LED_REG || s.cal.headroom
    || (match s.cal.darkEnd with | some t => s.now < t + 2000 | none => false)

/-- The instant is discarded for one strip (R413). -/
def State.discardStrip (s : State) (t : Nat) : Bool :=
  (s.array.cuts.any fun c => c.acts && c.rect.g0 ≤ 16 * t + 15 && 16 * t ≤ c.rect.g1)
    || (s.array.fillRows.any fun e => e.2 == t) || !bitN (s.rd PIPE_SE_CTRL.RUN) t

/-- The samples that an instant adds: `readings` in 0.125 mA, indexed 2 s + c. -/
def State.calPoints (s : State) (r : CalRun) (k : Nat) (readings : List Nat) : List CalPoint :=
  if s.discardAll then []
  else (r.pairs.filter fun p => !s.discardStrip p.1).map fun p =>
    ⟨p.1, p.2, s.predicted k p.1 p.2, readings.getD (2 * p.1 + p.2) 0⟩

/-- Instants per sub-frame (R436). -/
def State.calInstants (s : State) : Nat := let n := s.rd CAL_CTRL.SAMPLES; if n = 0 then 8 else n

/-- `n` instants drawn from the LFSR, and the LFSR after them (R412). -/
def drawInstants : Nat → BitVec 31 → List Nat × BitVec 31
  | 0, r => ([], r)
  | n + 1, r => let (l, e) := drawInstants n (Config.lfsr r); ((Config.lfsr r).toNat % 1024 :: l, e)

/-- `n` instants for each of some sub-frames. -/
def drawFrames (n : Nat) : Nat → BitVec 31 → List (List Nat) × BitVec 31
  | 0, r => ([], r)
  | m + 1, r =>
    let (l, e) := drawInstants n r
    let (ls, e1) := drawFrames n m e
    (l :: ls, e1)

/-- The draw of a tick, for as many sub-frames as the coming frame can have; the instants drawn before are those of the
frame that begins (R412). -/
def State.calDraw (s : State) : State :=
  let (d, e) := drawFrames s.calInstants 8 s.cal.lfsr
  { s with cal := { s.cal with instants := s.cal.drawn, drawn := d, lfsr := e, kept := 0 } }

/-- The points of an instant join the run's. Those of the dark slot stand before the others of their sub-frame, which a headroom
signal discards (R413). -/
def State.calKeep (s : State) (r : CalRun) (pts : List CalPoint) : State :=
  let n := r.points.length - s.cal.kept
  if s.tick.dark then { s with cal := { s.cal with run := some { r with points := r.points.take n ++ pts ++ r.points.drop n } } }
  else { s with cal := { s.cal with run := some { r with points := r.points ++ pts }, kept := s.cal.kept + pts.length } }

/-- An instant of a sub-frame has been reached. -/
def State.calReached (s : State) (sub i : Nat) : State :=
  { s with cal := { s.cal with instants := s.cal.instants.modify sub fun l => l.eraseIdx i } }

/-- CAL_SAMPLE: the instant numbered `i` of those of the sub-frame in progress that are still to come is reached, with the
readings of the 16 channels (R411 to R413). There is none with another number. A channel reads at most 2,000 mA. -/
def doCalSample (sub i : Nat) (readings : List Nat) (s : State) : State :=
  match (s.cal.instants.getD sub [])[i]? with
  | none => s
  | some k =>
    if sub ≠ s.subframe then s
    else
      let s1 := s.calReached sub i
      match s1.cal.run with
      | some r =>
        if r.wait = 0 ∧ s1.rd CAL_STATUS.PHASE = 1 then s1.calKeep r (s1.calPoints r k (readings.map (min 16000)))
        else s1
      | none => s1

/-! ## Sufficiency (R415) -/

/-- One reduction of the normal equations by their first row. -/
def reduceBy (p : List Rat) (rows : List (List Rat)) : List (List Rat) :=
  rows.map fun r => List.zipWith (fun a b => a - r.headD 0 / p.headD 1 * b) (r.drop 1) (p.drop 1)

/-- The reduced rows, each beginning with its pivot, from equations with the right side last. -/
def triangle : Nat → List (List Rat) → List (List Rat)
  | 0, _ => []
  | _ + 1, [] => []
  | n + 1, r :: rest => r :: triangle n (reduceBy r rest)

/-- The unknowns of reduced rows. -/
def backSub : List (List Rat) → List Rat
  | [] => []
  | r :: rest =>
    let xs := backSub rest
    let known := (List.zipWith (· * ·) (r.drop 1) xs).sum
    ((r.getLastD 0 - known) / r.headD 1) :: xs

/-- The regressors of a sample in mA, with the constant last; one regressor in strip mode. -/
def CalPoint.row (full : Bool) (p : CalPoint) : List Rat :=
  (if full then p.xs else [p.xs.sum]).map (fun x => ((x : Nat) : Rat) / 10240000) ++ [1]

/-- The normal equations of a fit (R414). -/
def normalEqs (full : Bool) (ps : List CalPoint) : List (List Rat) :=
  let n := if full then 9 else 2
  let rows := ps.map fun p => (p.row full, ((p.y : Nat) : Rat) / 8)
  (List.range n).map fun i =>
    ((List.range n).map fun j => (rows.map fun r => r.1.getD i 0 * r.1.getD j 0).sum) ++ [(rows.map fun r => r.1.getD i 0 * r.2).sum]

/-- Full mode is used (R414). -/
def State.calFull (s : State) (r : CalRun) : Bool := s.on CAL_CTRL.BANK_EN && r.strips == 255

/-- MIN_SAMPLES as used (R436). -/
def State.minSamples (s : State) : Nat := max 64 (s.rd CAL_CTRL.MIN_SAMPLES)

/-- Every pivot is at least 2^-20 of the largest diagonal element (R415). -/
def pivotsOk (eqs : List (List Rat)) : Bool :=
  let top := (eqs.mapIdx fun i r => r.getD i 0).foldl max 0
  (triangle 9 eqs).all fun r => top ≤ r.headD 0 * 1048576 && 0 < r.headD 0

/-- The fit of one strip and colour is sufficient (R415). -/
def State.fitSufficient (s : State) (full : Bool) (ps : List CalPoint) : Bool :=
  let sums := ps.map fun p => p.xs.sum
  let top := sums.foldl max 0
  s.minSamples ≤ ps.length && 204800000 ≤ top && (sums.any fun x => 4 * x ≤ 3 * top)
    && (!full || ((List.range 8).all fun b => s.minSamples ≤ 8 * (ps.filter fun p => 0 < p.xs.getD b 0).length)
      && pivotsOk (normalEqs true ps))

/-- Every selected fit is sufficient. -/
def State.calSufficient (s : State) (r : CalRun) : Bool := r.pairs.all fun p => s.fitSufficient (s.calFull r) (r.fit p.1 p.2)

/-! ## The fit and its checks (R414, R416) -/

/-- A rational as an unsigned 1.15 factor, rounded and saturated (R13, R414). -/
def factor115 (q : Rat) : Nat := min 65535 (q * 32768 + 1 / 2).floor.toNat

/-- The mean of rationals. -/
def meanRat (l : List Rat) : Rat := l.sum / ((l.length : Nat) : Rat)

/-- A fit: its coefficients (one, or one per bank) and offset in mA. -/
def solveFit (full : Bool) (ps : List CalPoint) : List Rat := backSub (triangle 9 (normalEqs full ps))

/-- The new value of R416; a factor of 0 leaves none in range. -/
def newGain (old f : Nat) : Nat := if f = 0 then 65536 else rdiv (old * 32768) f

/-- The strip factor of a fit (R414). -/
def stripFactor (fit : List Rat) : Nat := factor115 (meanRat fit.dropLast)

/-- Field of a strip gain, and of a bank trim. -/
def gainFld (t c : Nat) : Fld := if c = 0 then PIPE_SGAIN.WARM t else PIPE_SGAIN.COOL t
def trimFld (b c : Nat) : Fld := if c = 0 then ARRAY_IREF_TRIM.WARM b else ARRAY_IREF_TRIM.COOL b

/-- The bank factor of a colour from its eight strip fits (R414); with a mean of 0 it is a free value. -/
def bankFactor (fits : List (List Rat)) (b hole : Nat) : Nat :=
  let all := meanRat (fits.map fun f => meanRat f.dropLast)
  if all = 0 then hole % 65536 else factor115 (meanRat (fits.map fun f => f.getD b 0) / all)

/-- The first failed check of R416: pairs of old and new value, and the offsets in mA; 0 when all pass. -/
def calReason (vals : List (Nat × Nat)) (offsets : List Rat) : Nat :=
  if vals.any fun v => v.2 < 22938 || 42598 < v.2 then 1
  else if vals.any fun v => v.1 < 20 * (max v.1 v.2 - min v.1 v.2) then 2
  else if offsets.any fun o => 25 < o || o < -25 then 3
  else 0

/-- The factors of a fit are shown (R414, R436). -/
def State.showFit (s : State) (gains trims : List (Nat × Nat × Nat)) : State :=
  let s1 := (List.range 8).foldl (fun t i => (t.setReg (0xE040 + 4 * i) 0).setReg (0xE060 + 4 * i) 0) s
  let s2 := gains.foldl (fun t g => t.wr (if g.2.1 = 0 then CAL_FIT.WARM g.1 else CAL_FIT.COOL g.1) g.2.2) s1
  trims.foldl (fun t g => t.wr (if g.2.1 = 0 then CAL_BFIT.WARM g.1 else CAL_BFIT.COOL g.1) g.2.2) s2

/-- CAL_FIT_DONE (R414, R416). -/
def doCalFitDone (s : State) : State :=
  match s.cal.run with
  | none => s
  | some r =>
    if s.rd CAL_STATUS.PHASE ≠ 2 then s
    else
      let full := s.calFull r
      let (hole, s0) := s.fresh
      let fits := r.pairs.map fun p => (p.1, p.2, solveFit full (r.fit p.1 p.2))
      let gf := fits.map fun f => (f.1, f.2.1, stripFactor f.2.2)
      let colours := (List.range 2).filter (bitN r.colours)
      let bf := if full then colours.flatMap fun c => (List.range 8).map fun b =>
          (b, c, bankFactor ((fits.filter fun f => f.2.1 == c).map fun f => f.2.2) b (Config.value hole))
        else []
      let gains := gf.map fun g => (g.1, g.2.1, newGain (s.rd (gainFld g.1 g.2.1)) g.2.2)
      let trims := bf.map fun g => (g.1, g.2.1, newGain (s.rd (trimFld g.1 g.2.1)) g.2.2)
      let vals := (gains.map fun g => (s.rd (gainFld g.1 g.2.1), g.2.2)) ++ trims.map fun g => (s.rd (trimFld g.1 g.2.1), g.2.2)
      let reason := calReason vals (fits.map fun f => f.2.2.getLastD 0)
      let s1 := s0.showFit gf bf
      if reason ≠ 0 then (s1.wr CAL_STATUS.REASON reason).calEnd CAL_STATUS.REJECTED stCalRejected
      else ({ s1 with cal := { s1.cal with run := some { r with gains := gains, trims := trims } } }).wr CAL_STATUS.PHASE 3

/-! ## Application (R308, R417) -/

/-- A gain change in 0.01 % (R308); from an old value of 0 it is a free value. -/
def gainChange (hole : Int) (old new : Nat) : Int := if old = 0 then hole else rdivI (((new : Int) - old) * 10000) old

/-- The largest of changes (strip, colour, change), the first of equals; none is 0. -/
def largestChange (l : List (Nat × Nat × Int)) : Nat × Nat × Int :=
  l.foldl (fun m e => if m.2.2.natAbs < e.2.2.natAbs then e else m) (0, 0, 0)

/-- New gains and trims are written together, with the result bytes of R308. -/
def State.calWrite (s : State) (strips colours frames : Nat) (gains trims : List (Nat × Nat × Nat)) : State × List Byte :=
  let (n, s0) := s.fresh
  let big := largestChange (gains.map fun g => (g.1, g.2.1, gainChange (Config.value n) (s.rd (gainFld g.1 g.2.1)) g.2.2))
  let s1 := gains.foldl (fun t g => t.wr (gainFld g.1 g.2.1) g.2.2) s0
  let s2 := trims.foldl (fun t g => t.wr (trimFld g.1 g.2.1) g.2.2) s1
  (s2, leBytes 1 strips ++ leBytes 1 colours ++ leBytes 2 frames ++ leBytes 2 (codeI 16 big.2.2) ++ leBytes 1 (big.1 + 128 * big.2.1))

/-- The applying tick of a run (R417): the reference temperature is taken at the tick of every run that is applied. -/
def State.calApply (s : State) (r : CalRun) : State :=
  let (s1, res) := s.calWrite r.strips r.colours r.frames r.gains r.trims
  let s2 := (s1.wrI CAL_REF_T.T (rdivI r.temps.sum r.temps.length)).sets CAL_STATUS.REF_VALID
  (((({ s2 with cal := { s2.cal with run := none } }).wr CAL_STATUS.PHASE 0).wr CAL_STATUS.AUTO_RUN 0).sets CAL_STATUS.APPLIED
    |>.calLast r).finish r.handle stOk res

/-- A field of the CONFIG snapshot, or the value read where the region holds none (R417). -/
def State.storedField (s : State) (f : Fld) (d : Nat) : Nat :=
  match s.cellar.config with
  | none => d
  | some c => match c.regs.find? (·.1 == f.addr) with
    | some e => fget e.2 f.lo f.w
    | none => d

/-- CALIBRATE with MODE 1 latches (R417). -/
def State.calRestore (s : State) (h colours strips : Nat) : State :=
  let cs := (List.range 2).filter (bitN colours)
  let gains := ((List.range 8).filter (bitN strips)).flatMap fun t => cs.map fun c => (t, c, s.storedField (gainFld t c) 32768)
  let trims := (List.range 8).flatMap fun b => cs.map fun c => (b, c, s.storedField (trimFld b c) 32768)
  let (s1, res) := s.calWrite strips colours 0 gains trims
  s1.finish h stOk res

/-- A calibration is running, or a restore waits for its tick (R308). -/
def State.calBusy (s : State) : Bool :=
  s.cal.run.isSome || s.cmd.tickCmds.any fun e => match e.2 with | .calibrate .. => true | _ => false

/-- Start a run (R412, R419): `wait` ticks until its first frame of collection. -/
def State.calStart (s : State) (h colours strips maxFrames wait : Nat) : State :=
  (({ s with cal := { s.cal with run := some ⟨h, colours, strips, maxFrames, wait, 0, [], [], [], []⟩ } }).wr CAL_STATUS.PHASE 1).wrB
    CAL_STATUS.AUTO_RUN (h == 0)

/-- CALIBRATE (R308). -/
def doCalibrate (x : Ctx) (mode colours strips maxFrames : Nat) (s : State) : State :=
  if 1 < mode ∨ colours = 0 ∨ strips = 0 ∨ (maxFrames ≠ 0 ∧ (maxFrames < 8 ∨ 1200 < maxFrames)) then s.answer x stBadParam []
  else if s.calBusy then s.answer x stNotNow []
  else if mode = 1 then s.atTick x (.calibrate mode colours strips maxFrames)
  else (s.pend x.handle).calStart x.handle colours strips (if maxFrames = 0 then 240 else maxFrames) 2

/-! ## At a tick (R412, R415, R417 to R419) -/

/-- An automatic run starts (R419). -/
def State.autoDue (s : State) : Bool :=
  let drift := (sext 16 (s.rd PIPE_TCOMP_STATUS.MEAN) - sext 16 (s.rd CAL_REF_T.T)).natAbs
  s.on CAL_CTRL.AUTO && (!s.on CAL_STATUS.REF_VALID || 16 * max 1 (s.rd CAL_CTRL.DT) < drift)
    && s.safety == 0 && s.powerState == 0 && s.pipe.trimValid && s.on SAFE_STATUS.GUARD_ACTIVE && !s.calBusy
    && !(match s.power.hs with | some h => h.ready.contains 14 | none => false)
    && (match s.cal.lastFail with | some t => t + 60000000000 ≤ s.now | none => true)

/-- A frame of collection ends (R415). -/
def State.calFrame (s : State) (r : CalRun) : State :=
  let r1 := { r with frames := r.frames + 1, temps := r.temps ++ [sext 16 (s.rd PIPE_TCOMP_STATUS.MEAN)] }
  let s1 := { s with cal := { s.cal with run := some r1 } }
  if s1.calSufficient r1 then s1.wr CAL_STATUS.PHASE 2
  else if r.maxFrames ≤ r1.frames then s1.calEnd CAL_STATUS.INSUFF stInsuff
  else s1

/-- Calibration at a tick; `changed`: the trellis or the ramp table in force has changed (R418). The instants of the coming
frame are drawn first (R412). -/
def State.calTick (s0 : State) (changed : Bool) : State :=
  let s := s0.calDraw
  match s.cal.run with
  | none => if s.autoDue then s.calStart 0 3 255 240 1 else s
  | some r =>
    if changed then s.calEnd CAL_STATUS.INTERRUPTED stInterrupted
    else if s.rd CAL_STATUS.PHASE = 3 then s.calApply r
    else if s.rd CAL_STATUS.PHASE = 2 then s
    else if r.wait = 0 then s.calFrame r
    else { s with cal := { s.cal with run := some { r with wait := r.wait - 1 } } }

end Sys2Proof.Machine
end

