-- ==== Sys2Proof/Machine/Group.lean ====
section
/-!
DEFINITION. The group bus and the satellite chain (R319, R440 to R455).
-/
namespace Sys2Proof.Machine

/-! ## Roles (R440, R443) -/

/-- ROLE, MEMBER and COUNT in force. -/
def State.role (s : State) : Nat := s.rd GROUP_CFG.ROLE
def State.member (s : State) : Nat := s.rd GROUP_CFG.MEMBER
def State.members (s : State) : Nat := s.rd GROUP_CFG.COUNT

/-- The device drives GSYNC: a leader without a role conflict (R440, R443). -/
def State.leads (s : State) : Bool := s.role == 1 && !s.group.conflict

/-- Exchanges take place: a leader, or a follower that is not LOST (R441, R447). -/
def State.exchanging (s : State) : Bool := s.leads || (s.role == 2 && s.rd GROUP_STATUS.SYNC != 4)

/-- GROUP_CONFIG executes (R319). -/
def doGroupConfig (x : Ctx) (role member count : Nat) (s : State) : State :=
  if 2 < role ∨ count < 1 ∨ 4 < count ∨ count ≤ member then s.answer x stBadParam [] else s.atTick x (.groupConfig role member count)

/-- GROUP_CONFIG latches (R440): a role conflict ends; only a follower without one keeps its SYNC state. Members at or above COUNT are
no longer missed (R456). -/
def State.groupLatch (s : State) (role member count : Nat) : State :=
  let s1 := ((s.wr GROUP_CFG.ROLE role).wr GROUP_CFG.MEMBER member).wr GROUP_CFG.COUNT count
  let misses := (List.range 4).map fun m => if role = 0 ∨ count ≤ m ∨ m = member then 0 else s.group.misses.getD m 0
  let s2 := { s1 with group := { s1.group with
    conflict := false, misses := misses, missingPresent := s.group.missingPresent && misses.any (3 ≤ ·) } }
  if role = 2 ∧ !s.group.conflict then s2
  else ({ s2 with group := { s2.group with lastEdge := none, interval := 0, valid := 0, missedEdges := 0, err := none } }).wr
    GROUP_STATUS.SYNC 0

/-- GROUP_STATUS (R319). -/
def doGroupStatus (x : Ctx) (s : State) : State :=
  let b (c : Bool) (v : Nat) : Nat := if c then v else 0
  s.answer x stOk (leBytes 1 s.role ++ leBytes 1 s.member ++ leBytes 1 (s.rd GROUP_STATUS.SEEN)
    ++ leBytes 1 (b (s.rd GROUP_STATUS.SYNC == 4) 1 + b s.group.sealPresent 2 + b (s.group.compatPresent || s.group.fwPresent) 4)
    ++ leBytes 4 s.tickCount
    ++ (List.range 4).flatMap fun m => leBytes 4 (s.rd (GROUP_WORD_LO.WORD m)) ++ leBytes 4 (s.rd (GROUP_WORD_HI.WORD m)))

/-! ## Following the leader (R446 to R448) -/

/-- The follower loses its leader (R443, R445, R447). -/
def State.loseLeader (s : State) : State :=
  let s1 := { s with group := { s.group with lastEdge := none, valid := 0, missedEdges := 0, err := none } }
  ((s1.wr GROUP_STATUS.SYNC 4).sets GROUP_STATUS.LEADER_LOST).wr GROUP_STATUS.SEEN 0

/-- The phase error against own tick `t` at 40 ns resolution (R446). -/
def phaseErr (t edge : Nat) : Int := rdivI ((t : Int) - edge + 60) 40 * 40

/-- The own tick nearest to an edge: the last one, or the coming one (R446). -/
def State.nearTick (s : State) : Nat :=
  let t := s.tick.tickAt.getD s.now
  if 2 * (s.now - t) ≤ s.tick.frameLen then t else t + s.tick.frameLen

/-- The limits of R33 on a frame of N_SF sub-frames, in ns. -/
def periodMin (nsf : Nat) : Nat := max (cdiv (nsf * 1000000000) 1920) (cdiv 1000000000 240)
def periodMax (nsf : Nat) : Nat := min (nsf * 1000000000 / 400) (1000000000 / 50)

/-- The clamp of R448 on a hold frame. -/
def holdClamp (nsf : Nat) (len : Int) : Nat :=
  (clampI (cdiv (nsf * 1000000000) 1920 : Nat) (nsf * 1000000000 / 400 : Nat) len).toNat

/-- A period within the limits of R33. -/
def periodClamp (nsf : Nat) (p : Int) : Nat := (clampI (periodMin nsf : Nat) (periodMax nsf : Nat) p).toNat

/-- The period P − e / q with the correction limited to P / d either way, rounded once to 1 ns (R13), within the limits of
R33 (R45, R446). -/
def correctedPeriod (nsf : Nat) (p : Nat) (e : Int) (q d : Nat) : Nat :=
  periodClamp nsf (rdivI ((p * q * d : Nat) - clampI (-(p * q : Nat)) (p * q : Nat) (e * d)) (q * d))

/-- The state that a phase error gives, and the error for the next frame to answer (R446). -/
def State.follow (s : State) (e : Int) : State :=
  ({ s with group := { s.group with err := some e } }).wr GROUP_STATUS.SYNC
    (if e.natAbs ≤ 20000 then 1 else if e.natAbs ≤ 1000000 then 2 else 3)

/-- The interval from the previous edge lies within 5 % of 1 / FRAME_HZ (R446). -/
def State.edgeValid (s : State) : Bool :=
  match s.group.lastEdge with
  | none => false
  | some t => let d := (s.now - t) * s.tick.hz * 100; 95000000000 ≤ d && d ≤ 105000000000

/-- A valid edge: its interval, its phase error, and with SRC = 2 what follows from them. While a hold frame that
answers an earlier error is in progress, what it leaves of the error counts (R448). -/
def State.validEdge (s : State) : State :=
  let t := s.nearTick
  let e := phaseErr t s.now
  let s1 := ({ s with group := { s.group with interval := s.now - s.group.lastEdge.getD s.now, lastEdge := some s.now, missedEdges := 0 } }).wrI
    GROUP_PHASE.E e
  if s.tick.src ≠ 2 then s1
  else s1.follow (if s.tick.hold ∧ some t = s.tick.tickAt then e + ((s.tick.frameLen : Int) - s1.group.interval) else e)

/-- GSYNC_EDGE (R441, R446, R447). -/
def doGsyncEdge (s : State) : State :=
  if s.role ≠ 2 ∨ s.group.conflict then s
  else
    let s1 := { s with group := { s.group with got := List.replicate 4 false } }
    if s.rd GROUP_STATUS.SYNC = 4 then
      if s.edgeValid then
        let s2 := { s1 with group := { s1.group with valid := s.group.valid + 1 } }
        if 2 ≤ s2.group.valid then (s2.wr GROUP_STATUS.SYNC 0).validEdge
        else { s2 with group := { s2.group with interval := s.now - s.group.lastEdge.getD s.now, lastEdge := some s.now } }
      else { s1 with group := { s1.group with valid := 0, lastEdge := some s.now } }
    else if s.edgeValid then s1.validEdge
    else if s.group.interval = 0 then { s1 with group := { s1.group with lastEdge := some s.now } }
    else s1

/-- GSYNC_EDGE_MISSED (R447): a follower misses edges once it has a P_G, whatever its tick source. -/
def doGsyncEdgeMissed (s : State) : State :=
  if s.role ≠ 2 ∨ s.group.interval = 0 ∨ s.rd GROUP_STATUS.SYNC = 4 then s
  else if 2 ≤ s.group.missedEdges then s.loseLeader
  else { s with group := { s.group with missedEdges := s.group.missedEdges + 1 } }

/-! ## The exchange (R441 to R445) -/

/-- DEPART: an entry handshake to SLEEP or OFF is in progress (R385, R445). -/
def State.departs (s : State) : Bool := match s.power.hs with | some h => 2 ≤ h.target | none => false

/-- The state word (R444). -/
def State.stateWord (s : State) : BitVec 64 :=
  let f := s.boot.fw.getD ⟨0, 0, 0, 0, 0, 0⟩
  let b (c : Bool) (i : Nat) : Nat := if c then 2 ^ i else 0
  BitVec.ofNat 64 (s.rd SAFE_SEAL_STORED.SEAL + s.sealState * 2 ^ 32 + s.safety * 2 ^ 34
    + b (s.rd SAFE_CAUSE.LATCHED % 32768 != 0) 36 + b (s.role == 1) 37 + b s.departs 38 + s.member * 2 ^ 40 + f.compat % 256 * 2 ^ 48
    + crc8 (leBytes 1 f.major ++ leBytes 1 f.minor ++ leBytes 1 f.patch) * 2 ^ 56)

/-- The last word of a slot (R456). -/
def State.putWord (s : State) (m : Nat) (w : BitVec 64) : State :=
  let s1 := (s.wr (GROUP_WORD_LO.WORD m) (w.toNat % 2 ^ 32)).wr (GROUP_WORD_HI.WORD m) (w.toNat / 2 ^ 32)
  { s1 with group := { s1.group with got := s1.group.got.set m true } }

/-- A word held for a slot. -/
def State.wordOf (s : State) (m : Nat) : Nat := s.rd (GROUP_WORD_LO.WORD m) + s.rd (GROUP_WORD_HI.WORD m) * 2 ^ 32

/-- The bits of a number, bit 0 first. -/
def bitList (w v : Nat) : List Bool := (List.range w).map (bitN v)

/-- The 82 levels of a slot (R441): start bit, word, CRC-16, stop bit. -/
def slotLevels (w : BitVec 64) : List Bool :=
  [false] ++ bitList 64 w.toNat ++ bitList 16 (crc16 (leBytes 8 w.toNat)) ++ [true]

/-- The word that sampled levels carry: none unless start bit, CRC and stop bit are correct (R441). -/
def slotWord (levels : List Bool) : Option (BitVec 64) :=
  let w := BitVec.ofNat 64 (((levels.drop 1).take 64).foldr (fun b n => 2 * n + b.toNat) 0)
  if levels = slotLevels w then some w else none

/-- The levels driven up to a collision, which falls on a bit sent as 1 (R442); the choice `n` is free. -/
def cutLevels (levels : List Bool) (n : Nat) : List Bool :=
  let ones := (List.range levels.length).filter fun i => levels.getD i false
  levels.take (ones.getD (n % ones.length) 0 + 1)

/-- GROUP_SLOT_SEND: the member's own slot (R441, R442, R445). With `collision`, GDAT reads 0 where the member sends 1 and it
releases GDAT for the rest of the slot. -/
def doGroupSlotSend (collision : Bool) (s : State) : State :=
  if !s.exchanging then s
  else
    let w := s.stateWord
    if collision then
      let (n, s1) := s.fresh
      ({ s1 with pins := { s1.pins with gdat := cutLevels (slotLevels w) (Config.value n) } }).sets GROUP_STATUS.COLLISION
    else
      let s1 := { s with pins := { s.pins with gdat := slotLevels w } }
      ({ s1 with group := { s1.group with departing := s1.group.departing || s.departs } }).putWord s.member w

/-- A leader takes a leader's word from another slot (R443). -/
def State.roleConflict (s : State) : State :=
  ({ s with group := { s.group with conflict := true } }).loseLeader.sets GROUP_STATUS.ROLE_CONFLICT

/-- GROUP_SLOT_WORD: what another member's slot brought (R441, R443, R445). -/
def doGroupSlotWord (m : Nat) (levels : List Bool) (s : State) : State :=
  if !s.exchanging ∨ s.members ≤ m ∨ m = s.member then s
  else match slotWord levels with
    | none => s.inc GROUP_CNT.MISSED
    | some w =>
      let s1 := s.putWord m w
      if s.leads && bitN w.toNat 37 then s1.roleConflict
      else if s.role == 2 && bitN w.toNat 37 && bitN w.toNat 38 then s1.loseLeader
      else s1

/-! ## Judgement (R449 to R451) -/

/-- The other members. -/
def State.others (s : State) : List Nat := (List.range s.members).filter (· != s.member)

/-- A member's word was received in this exchange and takes part (R445). -/
def State.heard (s : State) (m : Nat) : Bool := s.group.got.getD m false && !bitN (s.wordOf m) 38

/-- Differences of a word from the own state: SEAL or SEAL_ST, COMPAT, FW_TAG with equal COMPAT (R449). -/
def State.sealDiffers (s : State) (m : Nat) : Bool := bits (s.wordOf m) 0 34 != bits s.stateWord.toNat 0 34
def State.compatDiffers (s : State) (m : Nat) : Bool := bits (s.wordOf m) 48 8 != bits s.stateWord.toNat 48 8
def State.fwDiffers (s : State) (m : Nat) : Bool := !s.compatDiffers m && bits (s.wordOf m) 56 8 != bits s.stateWord.toNat 56 8

/-- The run of a difference over received words (R449): a word that takes no part ends it. -/
def State.diffRun (s : State) (run : List Nat) (differs : Nat → Bool) : List Nat :=
  (List.range 4).map fun m =>
    if !s.group.got.getD m false then run.getD m 0
    else if bitN (s.wordOf m) 38 ∨ !differs m then 0 else min 2 (run.getD m 0 + 1)

/-- The counters of an exchange: DEPART, consecutive misses and the runs of R449. -/
def State.exchangeCount (s : State) : State :=
  let dep := (List.range 4).map fun m =>
    if s.group.got.getD m false then bitN (s.wordOf m) 38 else s.group.depart.getD m false
  let miss := (List.range 4).map fun m =>
    if s.group.got.getD m false ∨ dep.getD m false ∨ !s.others.contains m then 0 else s.group.misses.getD m 0 + 1
  { s with group := { s.group with
      depart := dep, misses := miss, sealDiff := s.diffRun s.group.sealDiff s.sealDiffers
      compatDiff := s.diffRun s.group.compatDiff s.compatDiffers } }

/-- Dissent of one kind is judged against member `m` in this exchange. -/
def State.dissents (s : State) (run : List Nat) (m : Nat) : Bool := s.heard m && 2 ≤ run.getD m 0

/-- A judged dissent enters LIMP by DISSENT_ACTION (R449). -/
def State.dissentLimp (s : State) : Bool :=
  let judged := s.others.filter fun m => s.dissents s.group.sealDiff m || s.dissents s.group.compatDiff m
  let a := s.rd GROUP_SAFE_CFG.DISSENT_ACTION
  if a = 0 then false
  else if a = 2 then s.role == 2 && judged.any fun m => bitN (s.wordOf m) 37
  else !judged.isEmpty

/-- A pull condition holds (R450). -/
def State.pulled (s : State) : Bool :=
  s.on GROUP_SAFE_CFG.FOLLOW && (s.others.filter s.heard).any fun m =>
    (bits (s.wordOf m) 34 2 == 1 || bits (s.wordOf m) 34 2 == 2) && bitN (s.wordOf m) 36

/-- The status of an exchange (R447, R449, R456). -/
def State.exchangeShow (s : State) : State :=
  let seal' := s.others.any (s.dissents s.group.sealDiff)
  let compat := s.others.any (s.dissents s.group.compatDiff)
  let fw := (s.others.filter s.heard).any s.fwDiffers
  let missing := s.others.any fun m => 3 ≤ s.group.misses.getD m 0
  let s1 := { s with group := { s.group with
    sealPresent := seal', compatPresent := compat, fwPresent := fw, missingPresent := missing
    groupPresent := s.dissentLimp || s.pulled } }
  let seen := ((List.range 4).filter fun m => s.group.got.getD m false).foldl (fun n m => n + 2 ^ m) 0
  ((((s1.wr GROUP_STATUS.SEEN seen).setIf seal' GROUP_STATUS.SEAL_DISSENT).setIf compat GROUP_STATUS.COMPAT_DISSENT).setIf fw
    GROUP_STATUS.FW_DIFF).setIf missing GROUP_STATUS.MEMBER_MISSING

/-- GROUP_EXCHANGE_END (R449 to R451). -/
def doGroupExchangeEnd (s : State) : State :=
  if !s.exchanging then s
  else
    let s1 := s.exchangeCount.exchangeShow
    let pull := s1.pulled
    let s2 := if s1.group.groupPresent then s1.raise (cause 15) else s1
    (s2.setIf (pull && s.safety == 0 && s2.safety == 1) GROUP_STATUS.PULLED)

/-! ## The satellite chain (R452 to R455) -/

/-- SAT_CONFIG executes (R319, R452). -/
def doSatConfig (x : Ctx) (len timing : Nat) (en tcomp : Bool) (s : State) : State :=
  if 64 < len ∨ 3 < timing then s.answer x stBadParam [] else s.atTick x (.satConfig len timing en tcomp)

/-- SAT_CONFIG latches (R452). -/
def State.satLatch (s : State) (len timing : Nat) (en tcomp : Bool) : State :=
  (((s.wr SAT_CFG.LEN len).wr SAT_CFG.TIMING timing).wrB SAT_CFG.EN en).wrB SAT_CFG.TCOMP tcomp

/-- SAT_WRITE executes (R319). -/
def doSatWrite (x : Ctx) (first : Nat) (words : List (BitVec 48)) (s : State) : State :=
  if 63 < first ∨ words.length = 0 ∨ 64 < words.length ∨ s.rd SAT_CFG.LEN < first + words.length then s.answer x stBadParam []
  else s.atTick x (.satWrite first words)

/-- What an unlisted image word reads as. -/
def noWord (_ : Nat) : BitVec 48 := 0

/-- SAT_WRITE latches (R453). -/
def State.satPut (s : State) (first : Nat) (words : List (BitVec 48)) : State :=
  ({ s with sat := { s.sat with image := SMap.putAll noWord s.sat.image first words } }).wr SAT_STATUS.WAIT 0

/-- The chain has answered READY to an entry, so it starts no frame (R385). -/
def State.satReady (s : State) : Bool := s.power.hs.any fun h => h.ready.contains 18

/-- The chain at a tick, after commands have latched (R453, R454). -/
def State.satTick (s : State) : State :=
  let s1 := { s with sat := { s.sat with theta := s.therm.ntc.take 2 ++ [sext 16 (s.rd PIPE_TCOMP_STATUS.MEAN)] } }
  if s.on SAT_STATUS.SENDING then (s1.sets SAT_STATUS.SKIP).inc SAT_SKIP_CNT.COUNT
  else { s1 with sat := { s1.sat with due := s.on SAT_CFG.EN && 1 ≤ s.rd SAT_CFG.LEN && !s.on SAT_STATUS.WAIT && !s.satReady } }

/-- TSRC names an NTC that is disabled or failed (R454). -/
def State.tsrcBad (s : State) : Bool :=
  let k := s.rd SAT_CTRL.TSRC
  k < 2 && (!bitN (s.rd THERM_CTRL.NTC_EN) k || s.therm.ntcFail.getD k false)

/-- Every channel is sent as 0 (R454). -/
def State.satBlank (s : State) : Bool :=
  (s.safety == 2 && s.on SAT_CTRL.DARK_BLANK) || (s.safety == 1 && s.on SAT_CTRL.LIMP_BLANK)

/-- A channel value as sent (R454): class 0 to 3, temperature in 1/16 degree C. -/
def State.satChannel (s : State) (v cls : Nat) (theta : Int) : Nat :=
  let d := theta - sext 16 (s.rd SAT_TREF.T)
  let k := (clampI 24576 40960 (32768 + rdivI (sext 16 (s.rd (SAT_ALPHA.ALPHA cls)) * d) 512)).toNat
  min 65535 (rdiv (v * k) 32768)

/-- A word as sent (R454). -/
def State.satWord (s : State) (w : BitVec 48) : BitVec 48 :=
  if s.satBlank then 0
  else if !s.on SAT_CFG.TCOMP then w
  else
    let k := s.rd SAT_CTRL.TSRC
    let th := s.sat.theta.getD (if s.tsrcBad then 2 else min k 2) 0
    let ch (i : Nat) (f : Fld) : Nat := s.satChannel (bits w.toNat (16 * i) 16) (s.rd f) th
    BitVec.ofNat 48 (ch 0 SAT_CLASS.CH0 + ch 1 SAT_CLASS.CH1 * 2 ^ 16 + ch 2 SAT_CLASS.CH2 * 2 ^ 32)

/-- SAT_FRAME_START: 20 us after the tick (R453, R454). -/
def doSatFrameStart (s : State) : State :=
  if !s.sat.due then s
  else
    let len := s.rd SAT_CFG.LEN
    let fb := s.on SAT_CFG.TCOMP && !s.satBlank && s.tsrcBad
    let s1 := { s with sat := { s.sat with
      due := false, start := some s.now, timing := s.rd SAT_CFG.TIMING, fallback := fb
      sent := (SMap.getAll noWord s.sat.image 0 len).map s.satWord } }
    ((s1.sets SAT_STATUS.SENDING).wr SAT_FRAME.US ((48 * len * satBit (s.rd SAT_CFG.TIMING) + 80000) / 1000)).setIf fb
      SAT_STATUS.TSRC_FB

/-- SAT_FRAME_END (R453). A frame that was cut has ended (R455). -/
def doSatFrameEnd (s : State) : State :=
  if s.on SAT_STATUS.SENDING then ({ s with sat := { s.sat with start := none } }).wr SAT_STATUS.SENDING 0 else s

/-- Words of the frame being sent that have begun by now: a cut lets the word in progress end (R455). -/
def State.satBegun (s : State) : Nat := match s.sat.start with | some t => cdiv (s.now - t) (48 * satBit s.sat.timing) | none => 64

/-- Entry to SLEEP or OFF cuts a chain frame at a 48-bit boundary (R455): the word in progress is sent to its end, those after
it are not sent. -/
def State.satCut (s : State) : State :=
  let s1 := { s with sat := { s.sat with due := false, fallback := false, sent := s.sat.sent.take s.satBegun } }
  if s.on SAT_STATUS.SENDING then (s1.wr SAT_STATUS.SENDING 0).sets SAT_STATUS.CUT else s1

/-- After wake the image reads 0 and the chain waits for a SAT_WRITE (R453). -/
def State.satWake (s : State) : State :=
  ({ s with sat := { s.sat with image := [], sent := [], start := none, due := false, fallback := false } }).sets SAT_STATUS.WAIT

end Sys2Proof.Machine
end

