-- ==== Sys2Proof/Machine/Compose.lean ====
section
/-!
DEFINITION. From planes, symbols and cask beams to a composed pixel (R124 to R138, R150 to R169).
-/
namespace Sys2Proof.Machine

/-! ## Fields of a layer configuration (R149, R175) -/

/-- Bits of word `i` of the LAYER set. -/
def LayerCfg.l (c : LayerCfg) (i lo w : Nat) : Nat := fget (c.lay.getD i 0) lo w

/-- Bits of word `i` of the SCALE set. -/
def LayerCfg.s (c : LayerCfg) (i lo w : Nat) : Nat := fget (c.sc.getD i 0) lo w

def LayerCfg.en (c : LayerCfg) : Bool := c.l 0 0 1 == 1
def LayerCfg.kind (c : LayerCfg) : Nat := c.l 0 1 3
def LayerCfg.scale (c : LayerCfg) : Bool := c.l 0 4 1 == 1
def LayerCfg.link (c : LayerCfg) : Nat := c.l 0 5 1
def LayerCfg.mixSel (c : LayerCfg) : Nat := c.l 0 6 2
def LayerCfg.yDepth (c : LayerCfg) : Nat := c.l 0 8 2
def LayerCfg.tSub (c : LayerCfg) : Nat := c.l 0 10 2
def LayerCfg.maskDepth (c : LayerCfg) : Nat := c.l 0 12 1
def LayerCfg.beam (c : LayerCfg) : Nat := c.l 0 13 1
def LayerCfg.mode (c : LayerCfg) : Nat := c.l 1 0 2
def LayerCfg.galpha (c : LayerCfg) : Nat := c.l 1 8 8
def LayerCfg.policy (c : LayerCfg) : Nat := c.l 2 0 2
def LayerCfg.subBeam (c : LayerCfg) : Nat := c.l 2 4 1
def LayerCfg.x0 (c : LayerCfg) : Nat := c.l 3 0 11
def LayerCfg.y0 (c : LayerCfg) : Nat := c.l 3 16 10
def LayerCfg.w (c : LayerCfg) : Nat := c.l 4 0 12
def LayerCfg.h (c : LayerCfg) : Nat := c.l 4 16 10
def LayerCfg.sw (c : LayerCfg) : Nat := c.l 5 0 12
def LayerCfg.sh (c : LayerCfg) : Nat := c.l 5 16 10
/-- Base of a buffer's primary plane; the low 5 bits are not stored (R129). -/
def LayerCfg.base (c : LayerCfg) (b : Nat) : Nat := c.l (6 + b) 0 23 / 32 * 32
def LayerCfg.tOff (c : LayerCfg) : Nat := c.l 8 0 23 / 32 * 32
def LayerCfg.yPitch (c : LayerCfg) : Nat := c.l 9 0 16 / 32 * 32
def LayerCfg.tPitch (c : LayerCfg) : Nat := c.l 9 16 16 / 32 * 32
def LayerCfg.ovl (c : LayerCfg) (k : Nat) : Nat := c.l 10 (16 * k) 16
def LayerCfg.tapsH (c : LayerCfg) : Nat := c.s 0 0 3
def LayerCfg.tapsV (c : LayerCfg) : Nat := c.s 0 4 3
def LayerCfg.coefH (c : LayerCfg) : Nat := c.s 0 8 3
def LayerCfg.coefV (c : LayerCfg) : Nat := c.s 0 12 3
def LayerCfg.sym (c : LayerCfg) : Nat := c.s 1 0 8
/-- Homography coefficient i, two's complement (R163). -/
def LayerCfg.hom (c : LayerCfg) (i : Nat) : Int := sext 32 (c.s (2 + i) 0 32)

/-- The layer reads the layer store (KIND 0, 1, 4). -/
def LayerCfg.stored (c : LayerCfg) : Bool := c.kind == 0 || c.kind == 1 || c.kind == 4

/-- The layer goes through its scaler (R150). -/
def LayerCfg.scaled (c : LayerCfg) : Bool := c.scale && c.kind < 2

/-- Size of the T plane (R127). -/
def LayerCfg.tw (c : LayerCfg) : Nat := if c.tSub = 2 then c.sw else cdiv c.sw 2
def LayerCfg.th (c : LayerCfg) : Nat := if c.tSub = 0 then cdiv c.sh 2 else c.sh

/-- Bits of a sample of the primary plane (R126). -/
def LayerCfg.sampleBits (c : LayerCfg) : Nat :=
  if c.kind = 0 then (if c.yDepth = 0 then 8 else if c.yDepth = 1 then 10 else 12)
  else if c.kind = 1 then 32 else (if c.maskDepth = 0 then 1 else 4)

/-- Bytes of a line of the primary plane (R126). -/
def LayerCfg.lineBytes (c : LayerCfg) : Nat := cdiv (c.sampleBits * c.sw) 8

/-! ## Samples of the layer store (R126 to R129) -/

/-- First SRAM address of the layer store (bank 10). -/
def layerStore : Nat := 0xA00000

/-- Sample `i` of a packed line of `w`-bit samples at an SRAM address (R126). -/
def State.packed (s : State) (a w i : Nat) : Nat := leNat (s.sramBytes (a + w * i / 8) (cdiv w 8 + 1)) / 2 ^ (w * i % 8) % 2 ^ w

/-- A sample of the primary plane of buffer b. -/
def State.prim (s : State) (c : LayerCfg) (b u v : Nat) : Nat :=
  s.packed (layerStore + c.base b + v * c.yPitch) c.sampleBits u

/-- A sample of the T plane of buffer b. -/
def State.tRaw (s : State) (c : LayerCfg) (b u v : Nat) : Nat := s.packed (layerStore + c.base b + c.tOff + v * c.tPitch) 8 u

/-- The tint index of an unscaled layer (R128). -/
def State.tIndex (s : State) (c : LayerCfg) (b u v : Nat) : Nat :=
  let r := if c.tSub = 0 then v / 2 else v
  if c.tSub = 2 then s.tRaw c b u r
  else if u % 2 = 0 then s.tRaw c b (u / 2) r
  else (s.tRaw c b ((u - 1) / 2) r + s.tRaw c b (min ((u + 1) / 2) (c.tw - 1)) r + 1) / 2

/-! ## Scaler (R151 to R155) -/

/-- The source position of a destination index in 2^-16 samples (R151). -/
def srcPos (src dst i : Nat) : Int :=
  let step := 65536 * src / dst
  (i * step + step / 2 : Nat) - (32768 : Int)

/-- The bilinear content of a coefficient set (R152). -/
def bilinear : List Int := (List.range 64).flatMap fun (p : Nat) => [0, 0, 0, 4096 - 64 * (p : Int), 64 * (p : Int), 0, 0, 0]

/-- A coefficient set as loaded. -/
def coefSet (coef : List (Nat × List Int)) (k : Nat) : List Int := ((coef.find? (·.1 == k)).map (·.2)).getD bilinear

/-- The coefficient of tap k of a phase with N taps in use (R152): unused taps add to tap 3 or 4. -/
def tapOf (set : List Int) (n phase k : Nat) : Int :=
  let at' (j : Nat) : Int := set.getD (8 * phase + j) 0
  let used (j : Nat) : Bool := 4 - n / 2 ≤ j && j ≤ 3 + n / 2
  let rest := (((List.range 8).filter fun j => !used j).map at').sum
  if used k then at' k + (if k = (if phase < 32 then 3 else 4) then rest else 0) else 0

/-- A source index kept in its plane (R151). -/
def clampIdx (i : Int) (n : Nat) : Nat := (clampI 0 ((n : Int) - 1) i).toNat

/-- One filtered sample at base (u0, v0) and phases, `at'` giving the source samples (R154). -/
def filter2 (setH setV : List Int) (nH nV : Nat) (sw sh : Nat) (u0 v0 : Int) (ph pv : Nat) (at' : Nat → Nat → Nat) : Nat :=
  let col (u : Nat) : Int :=
    rdivI (((List.range 8).map fun k => tapOf setV nV pv k * (at' u (clampIdx (v0 + k - 3) sh) : Nat)).sum) 1024
  (clampI 0 65535 (rdivI (((List.range 8).map fun k => tapOf setH nH ph k * col (clampIdx (u0 + k - 3) sw)).sum) 16384)).toNat

/-- The scaled tint index (R155). -/
def State.tScaled (s : State) (c : LayerCfg) (b : Nat) (px py : Int) : Nat :=
  let tp := if c.tSub = 2 then px else (px - 32768) / 2
  let tq := if c.tSub = 0 then (py - 32768) / 2 else py
  let t0 := tp / 65536
  let v0 := tq / 65536
  let wx := (tp / 1024 % 64).toNat
  let wy := (tq / 1024 % 64).toNat
  let row (v : Int) : Nat :=
    s.tRaw c b (clampIdx t0 c.tw) (clampIdx v c.th) * (64 - wx) + s.tRaw c b (clampIdx (t0 + 1) c.tw) (clampIdx v c.th) * wx
  (row v0 * (64 - wy) + row (v0 + 1) * wy + 2048) / 4096

/-! ## Mix and cask codes (R94, R95, R168, R169) -/

/-- An entry of a mix table (R95). -/
def mixEntry (mix : List (Nat × List (Nat × Nat))) (k t : Nat) : Nat × Nat :=
  match mix.find? (·.1 == k) with
  | some e => e.2.getD t (0, 0)
  | none => defaultMix t

/-- A cask code decoded (R168). -/
def caskValue (c : Nat) : Nat := guardL c

/-- The ordered-dither matrix of R169. -/
def bayer (x y : Nat) : Nat :=
  [0, 8, 2, 10, 12, 4, 14, 6, 3, 11, 1, 9, 15, 7, 13, 5].getD (4 * (y % 4) + x % 4) 0

/-- A linear value encoded as a cask code (R169). -/
def caskCode (v x y : Nat) : Nat :=
  let t := ((List.range 256).filter fun c => caskValue c ≤ v).foldl max 0
  if t = 255 then 255
  else
    let d := caskValue (t + 1) - caskValue t
    if (2 * bayer x y + 1) * d < 32 * (v - caskValue t) then t + 1 else t

/-- First SRAM address of a cask beam (R167). -/
def beamBase (k : Nat) : Nat := (16 + 3 * k) * 1048576

/-- The decoded sample of a beam at a pixel, 0 warm (R168). -/
def State.beamSample (s : State) (k x y c : Nat) : Nat := caskValue (s.sramByte (beamBase k + 2 * (2048 * y + x) + c)).toNat

/-! ## Symbols (R159, R160, R163 to R165) -/

/-- First SRAM address of the symbol store (bank 25). -/
def symbolStore : Nat := 0x1900000

/-- A directory entry (R159). -/
structure SymEntry where
  offset : Nat
  width : Nat
  height : Nat
  warm : Nat
  cool : Nat
  format : Nat
  valid : Bool
  loading : Bool
  pitch : Nat
  deriving DecidableEq, Repr

/-- The fields of a directory entry (R159). -/
def symOf (p : List Byte) : SymEntry :=
  ⟨u32 p 0, u16 p 4, u16 p 6, u16 p 8, u16 p 10, u8 p 12, bitN (u8 p 13) 0, bitN (u8 p 13) 1, u16 p 14⟩

/-- The bytes of the directory entry of a symbol. -/
def State.symBytes (s : State) (i : Nat) : List Byte := s.sramBytes (symbolStore + 16 * i) 16

/-- The directory entry of a symbol. -/
def State.symEntry (s : State) (i : Nat) : SymEntry := symOf (s.symBytes i)

/-- A directory entry written (R159). -/
def State.putSymEntry (s : State) (i : Nat) (e : SymEntry) : State :=
  s.sramWrite (symbolStore + 16 * i) (leBytes 4 e.offset ++ leBytes 2 e.width ++ leBytes 2 e.height ++ leBytes 2 e.warm
    ++ leBytes 2 e.cool ++ leBytes 1 e.format ++ leBytes 1 ((if e.valid then 1 else 0) + (if e.loading then 2 else 0)) ++ leBytes 2 e.pitch)

/-- Bits of a texel (R160). -/
def texelBits (f : Nat) : Nat := [1, 4, 8, 32].getD f 8

/-- Bytes of the symbol's data (R160). -/
def SymEntry.bytes (e : SymEntry) : Nat := e.pitch * e.height

/-- A texel: alpha, warm, cool (R160); outside the symbol alpha is 0 and the colour that of the nearest texel (R165). -/
def State.texel (s : State) (e : SymEntry) (i j : Int) : Nat × Nat × Nat :=
  let ci := clampIdx i e.width
  let cj := clampIdx j e.height
  let inside := 0 ≤ i && i < e.width && 0 ≤ j && j < e.height
  let v := s.packed (symbolStore + e.offset + cj * e.pitch) (texelBits e.format) ci
  let a := if e.format = 0 then 255 * v else if e.format = 1 then 17 * v else if e.format = 2 then v else bits v 16 8
  (if inside then a else 0, if e.format = 3 then caskValue (bits v 0 8) else e.warm, if e.format = 3 then caskValue (bits v 8 8) else e.cool)

/-- The four-texel combination of one quantity (R165). -/
def combine4 (q00 q10 q01 q11 fu fv : Nat) : Nat :=
  ((q00 * (256 - fu) + q10 * fu) * (256 - fv) + (q01 * (256 - fu) + q11 * fu) * fv + 32768) / 65536

/-- A coordinate of R164 in 1/256 texel: the exact quotient is num x 2^15 / den - 1/2; the unit's error of up to 2^-9
texel before rounding down leaves two results, of which `hi` chooses. -/
def warpCoord (num den : Int) (hi : Bool) : Int := (16777216 * num - 257 * den) / (2 * den) + (if hi then 1 else 0)

/-- The sample of a warped symbol: warm, cool, PA (R163 to R165). `seed` numbers the free choices of R164. -/
def State.warpSample (s : State) (c : LayerCfg) (e : SymEntry) (seed x y : Nat) : Nat × Nat × Nat :=
  let xx : Int := 2 * x + 1
  let yy : Int := 2 * y + 1
  let den := c.hom 6 * xx + c.hom 7 * yy + c.hom 8 * 65536
  if den ≤ 0 then (0, 0, 0)
  else
    let u := warpCoord (c.hom 0 * xx + c.hom 1 * yy + 2 * c.hom 2) den (Config.bit seed)
    let v := warpCoord (c.hom 3 * xx + c.hom 4 * yy + 2 * c.hom 5) den (Config.bit (seed + 1))
    if 1048576 ≤ u.natAbs ∨ 1048576 ≤ v.natAbs then (0, 0, 0)
    else
      let i0 := u / 256
      let j0 := v / 256
      let fu := (u % 256).toNat
      let fv := (v % 256).toNat
      let t00 := s.texel e i0 j0
      let t10 := s.texel e (i0 + 1) j0
      let t01 := s.texel e i0 (j0 + 1)
      let t11 := s.texel e (i0 + 1) (j0 + 1)
      let q (f : Nat × Nat × Nat → Nat) : Nat := combine4 (f t00) (f t10) (f t01) (f t11) fu fv
      if e.format = 3 then (q (·.2.1), q (·.2.2), q (·.1)) else (e.warm, e.cool, q (·.1))

/-! ## A layer's sample and the blend -/

/-- The source samples that a layer's scaler or its unscaled path gives at destination offset (i, j). -/
def State.storeSample (s : State) (c : LayerCfg) (b nV : Nat) (mix : List (Nat × List (Nat × Nat)))
    (coef : List (Nat × List Int)) (i j : Nat) : Nat × Nat × Nat :=
  if c.kind = 4 then (c.ovl 0, c.ovl 1, if c.maskDepth = 0 then 255 * s.prim c b i j else 17 * s.prim c b i j)
  else
    let px := srcPos c.sw c.w i
    let py := srcPos c.sh c.h j
    let filt (at' : Nat → Nat → Nat) : Nat :=
      filter2 (coefSet coef c.coefH) (coefSet coef c.coefV) (2 * c.tapsH) nV c.sw c.sh (px / 65536) (py / 65536)
        (px / 1024 % 64).toNat (py / 1024 % 64).toNat at'
    if c.kind = 1 then
      let one (k u v : Nat) : Nat := bits (s.prim c b u v) (16 * k) 16
      if c.scaled then (filt (one 0), filt (one 1), 255) else (one 0 i j, one 1 i j, 255)
    else
      let y16 (u v : Nat) : Nat := expandY c.yDepth (s.prim c b u v)
      let y := if c.scaled then filt y16 else y16 i j
      let t := if c.scaled then s.tScaled c b px py else s.tIndex c b i j
      let m := mixEntry mix c.mixSel t
      (mixOne y m.1, mixOne y m.2, 255)

/-- The effective alpha (R137). -/
def alphaOf (ga pa : Nat) : Nat := (ga + ga / 128) * (pa + pa / 128) / 256

/-- One colour blended (R138). -/
def blend (mode c s a : Nat) : Nat :=
  match mode with
  | 0 => max c ((s * a + 128) / 256)
  | 1 => min 65535 (c + (s * a + 128) / 256)
  | 2 => (s * a + c * (256 - a) + 128) / 256
  | _ => (c * (65536 - ((65536 - (s + s / 32768)) * a + 128) / 256) + 32768) / 65536

/-- A layer's destination rectangle holds the pixel (R124). -/
def LayerCfg.covers (c : LayerCfg) (x y : Nat) : Bool := c.x0 ≤ x && x < c.x0 + c.w && c.y0 ≤ y && y < c.y0 + c.h

/-- What a composition or a racking composes: configurations, judgements, vertical taps, background, tables, and the
number of its first free choice. -/
structure Recipe where
  cfg : List LayerCfg
  judge : List Judge
  tapsV : List Nat
  bgW : Nat
  bgC : Nat
  mix : List (Nat × List (Nat × Nat))
  coef : List (Nat × List Int)
  seed : Nat
  deriving DecidableEq, Repr

/-- The sample of layer n at a pixel of its rectangle: warm, cool, PA; none where the layer is hidden. -/
def State.layerSample (s : State) (r : Recipe) (n x y : Nat) : Option (Nat × Nat × Nat) :=
  let c := r.cfg.getD n LayerCfg.init
  match r.judge.getD n .hidden with
  | .hidden => none
  | .buffer b => some (s.storeSample c b (2 * r.tapsV.getD n 0) r.mix r.coef (x - c.x0) (y - c.y0))
  | .beam k => some (s.beamSample k x y 0, s.beamSample k x y 1, 255)
  | .symbol _ e => some (s.warpSample c (symOf e) (r.seed + ((2048 * y + x) * 8 + n) * 2) x y)

/-- The composed pixel, warm and cool (R125): layers 0 to 7 over the background; `shown` tells whether a layer takes
part at this pixel. -/
def State.composePixel (s : State) (r : Recipe) (shown : Nat → Bool) (x y : Nat) : Nat × Nat :=
  (List.range 8).foldl (fun acc n =>
    let c := r.cfg.getD n LayerCfg.init
    if shown n && c.covers x y then
      match s.layerSample r n x y with
      | none => acc
      | some (w, k, pa) =>
        let a := alphaOf c.galpha pa
        (blend c.mode acc.1 w a, blend c.mode acc.2 k a)
    else acc) (r.bgW, r.bgC)

/-- Free choices that one composition or racking uses. -/
def recipeFree : Nat := 20971520

end Sys2Proof.Machine
end

