-- ==== Sys2Proof/Machine/Layers.lean ====
section
/-!
DEFINITION. Layer configurations, commits, buffers and the composition of a frame (R125 to R148, R157, R158, R166).
-/
namespace Sys2Proof.Machine

/-! ## Configuration checks (R129, R143, R150, R157, R166) -/

/-- The configuration of layer n as its registers hold it (R139). -/
def State.regCfg (s : State) (n : Nat) : LayerCfg :=
  ⟨(List.range 11).map fun i => s.reg (0x5000 + 0x100 * n + 4 * i), (List.range 11).map fun i => s.reg (0x6000 + 0x100 * n + 4 * i)⟩

/-- The active configuration of layer n. -/
def State.actCfg (s : State) (n : Nat) : LayerCfg := s.layer.active.getD n LayerCfg.init

/-- A plane of a layer: first byte, byte after the last, and the offset of the register that names it (R129). -/
structure Plane where
  lo : Nat
  hi : Nat
  reg : Nat
  deriving DecidableEq, Repr

/-- The planes of both buffers (R129). -/
def LayerCfg.planes (c : LayerCfg) : List Plane :=
  if !c.stored then []
  else (List.range 2).flatMap fun b =>
    [Plane.mk (c.base b) (c.base b + (c.sh - 1) * c.yPitch + c.lineBytes) (0x18 + 4 * b)]
      ++ (if c.kind = 0 then
            [Plane.mk (c.base b + c.tOff) (c.base b + c.tOff + (c.th - 1) * c.tPitch + c.tw) 0x20]
          else [])

/-- Two planes share a byte. -/
def Plane.meets (a b : Plane) : Bool := a.lo < b.hi && b.lo < a.hi

/-- The first plane that meets an earlier one of the list or one of `others`. Within a layer the planes are taken as in
`LayerCfg.planes`: primary and T of buffer 0, then those of buffer 1; of two that overlap the later one is named (DESIGN CHOICE,
log entry 64: R143 gives no order within a layer's planes). -/
def firstOverlap (others : List Plane) : List Plane → Option Plane
  | [] => none
  | p :: r => if others.any p.meets then some p else firstOverlap (others ++ [p]) r

/-- The line-buffer demand S_W (R156). -/
def LayerCfg.demand (c : LayerCfg) : Nat := if c.kind = 1 then 2 * c.sw else c.sw

/-- The ratio and tap checks of R157 hold. -/
def LayerCfg.ratioOk (c : LayerCfg) : Bool :=
  c.kind != 4 && c.sw ≤ 2 * c.w && c.w ≤ 16 * c.sw && c.sh ≤ 2 * c.h && c.h ≤ 16 * c.sh
    && 1 ≤ c.tapsH && c.tapsH ≤ 4 && 1 ≤ c.tapsV && c.tapsV ≤ 4

/-- w' at the centre of a pixel is at least 2^-8 (R166). -/
def LayerCfg.wOk (c : LayerCfg) (x y : Nat) : Bool :=
  16777216 ≤ c.hom 6 * (2 * (x : Int) + 1) + c.hom 7 * (2 * (y : Int) + 1) + c.hom 8 * 65536

/-- The four corners pass the warp check (R166). -/
def LayerCfg.warpOk (c : LayerCfg) : Bool :=
  c.wOk c.x0 c.y0 && c.wOk (c.x0 + c.w - 1) c.y0 && c.wOk c.x0 (c.y0 + c.h - 1) && c.wOk (c.x0 + c.w - 1) (c.y0 + c.h - 1)

/-- The first failing check of layer n (R143), as the address of the register named. `others` are the planes of the other
layers; `fit`: the line-buffer limit is among the checks. -/
def layerFault (c : LayerCfg) (n : Nat) (others : List Plane) (fit : Bool) : Option Nat :=
  let lay (o : Nat) : Option Nat := some (0x5000 + 0x100 * n + o)
  let sc (o : Nat) : Option Nat := some (0x6000 + 0x100 * n + o)
  if 4 < c.kind ∨ c.yDepth = 3 ∨ c.tSub = 3 then lay 0
  else if c.w < 1 ∨ c.h < 1 ∨ 2048 < c.x0 + c.w ∨ 640 < c.y0 + c.h then lay 0x0C
  else if c.kind = 3 then (if c.warpOk then none else sc 0x20)
  else if c.kind = 2 then none
  else if !c.scale ∧ (c.sw ≠ c.w ∨ c.sh ≠ c.h) then lay 0x10
  else if c.scale ∧ !(c.ratioOk && (!fit || 2 * c.tapsV * c.demand ≤ 16384)) then sc 0
  else if c.yPitch < c.lineBytes ∨ (c.kind = 0 ∧ c.tPitch < c.tw) then lay 0x24
  else match c.planes.find? fun p => 0x600000 < p.hi with
    | some p => lay p.reg
    | none => match firstOverlap others c.planes with
      | some p => lay p.reg
      | none => none

/-- The checks that name no enable: Y/T, direct and overlay layers without scaling have equal sizes (R143), and an overlay layer
is not scaled (R150). -/
def sizeFault (c : LayerCfg) (n : Nat) : Option Nat :=
  if [0, 1, 4].contains c.kind ∧ !c.scale ∧ (c.sw ≠ c.w ∨ c.sh ≠ c.h) then some (0x5000 + 0x100 * n + 0x10)
  else if c.kind = 4 ∧ c.scale then some (0x6000 + 0x100 * n) else none

/-- The planes of every layer but n of a list of configurations taken as enabled. -/
def otherPlanes (cfgs : List (Nat × LayerCfg)) (n : Nat) : List Plane := (cfgs.filter (·.1 != n)).flatMap fun e => e.2.planes

/-- The enabled active configurations. -/
def State.enabledActive (s : State) : List (Nat × LayerCfg) :=
  ((List.range 8).map fun n => (n, s.actCfg n)).filter fun e => e.2.en

/-- The active configuration of an enabled layer is invalid (R141). -/
def State.cfgErr (s : State) (n : Nat) : Bool :=
  (s.actCfg n).en && (layerFault (s.actCfg n) n (otherPlanes s.enabledActive n) false).isSome

/-! ## Buffers (R131 to R135, R142) -/

/-- Buffer states (R133). -/
def bufEmpty : Nat := 0
def bufFilling : Nat := 1
def bufReady : Nat := 2
def bufInUse : Nat := 3
def bufSpent : Nat := 4

/-- The field of a buffer's state. -/
def bufFld (n b : Nat) : Fld := if b = 0 then LAYER_STATUS.BUF0_STATE n else LAYER_STATUS.BUF1_STATE n

/-- A buffer's state code. -/
def State.buf (s : State) (n b : Nat) : Nat := s.rd (bufFld n b)

/-- A buffer's record. -/
def State.bufRec (s : State) (n b : Nat) : BufRec := s.layer.bufs.getD (2 * n + b) BufRec.init

/-- A buffer's record changed. -/
def State.modBuf (s : State) (n b : Nat) (f : BufRec → BufRec) : State :=
  { s with layer := { s.layer with bufs := s.layer.bufs.modify (2 * n + b) f } }

/-- The state in which composition finds a buffer (R172): one that only a racking holds counts as it was. -/
def State.bufSeen (s : State) (n b : Nat) : Nat :=
  let r := s.bufRec n b
  if r.byRack && !r.byComp then r.rackWas else s.buf n b

/-- A buffer becomes EMPTY, at once or on release (R133, R135, R142). -/
def State.bufDrop (s : State) (n b : Nat) : State :=
  if s.buf n b = bufInUse then s.modBuf n b fun r => { r with dropOnRelease := true, rackWas := bufEmpty } else s.wr (bufFld n b) bufEmpty

/-- A buffer that neither composition nor racking holds any longer leaves IN_USE (R133, R172). -/
def State.bufFree (s : State) (n b : Nat) : State :=
  let r := s.bufRec n b
  if r.byComp ∨ r.byRack ∨ s.buf n b ≠ bufInUse then s
  else (s.modBuf n b fun r => { r with dropOnRelease := false }).wr (bufFld n b) (if r.dropOnRelease then bufEmpty else bufSpent)

/-- Every fill in progress on a link is damaged (R133, R134). -/
def State.damageFills (s : State) (link : Nat) : State :=
  (List.range 16).foldl (fun t i =>
    if (t.actCfg (i / 2)).link = link ∧ t.buf (i / 2) (i % 2) = bufFilling then
      t.modBuf (i / 2) (i % 2) fun r => { r with damaged := true }
    else t) s

/-- The status bit of a discarded VIDEO block (R132), by the fields of its payload. -/
def videoFault (c : LayerCfg) (n link plane line off count : Nat) : Option Fld :=
  let height := if plane = 0 then c.sh else c.th
  let pitch := if plane = 0 then c.yPitch else c.tPitch
  if link ≠ c.link then some (LAYER_STATUS.WRONG_LINK n)
  else if 1 < plane ∨ (plane = 1 ∧ c.kind ≠ 0) then some (LAYER_STATUS.BAD_BLOCK n)
  else if height ≤ line ∨ 2048 ≤ line ∨ 16384 ≤ off ∨ count = 0 ∨ 54 < count ∨ pitch < off + count then some (LAYER_STATUS.BAD_BLOCK n)
  else none

/-- The EOF of a plane is recorded, and a fill that has all its EOFs ends (R133). -/
def State.videoEof (s : State) (n b plane : Nat) (c : LayerCfg) : State :=
  let s1 := s.modBuf n b fun r => if plane = 0 then { r with eofPrimary := true } else { r with eofT := true }
  let r := s1.bufRec n b
  if r.eofPrimary && (c.kind != 0 || r.eofT) then
    if r.damaged then (s1.wr (bufFld n b) bufEmpty).sets (LAYER_STATUS.DAMAGED n)
    else
      let s2 := { s1 with layer := { s1.layer with fills := s1.layer.fills + 1 } }
      (s2.modBuf n b fun r => { r with order := s1.layer.fills + 1 }).wr (bufFld n b) bufReady
  else s1

/-- An accepted block begins, restarts or continues the buffer's fill (R133). -/
def State.videoFill (s : State) (n b : Nat) (sof : Bool) : State :=
  if s.buf n b = bufFilling then
    (if sof then s.modBuf n b fun r => { r with damaged := false, eofPrimary := false, eofT := false } else s)
  else (s.modBuf n b fun r => { r with damaged := !sof, eofPrimary := false, eofT := false }).wr (bufFld n b) bufFilling

/-- A VIDEO block that a link delivers (R130 to R133). Bytes beyond the layer store are not written. Of several rows of R132
that a block meets, the first sets its bit and has its effect (DESIGN CHOICE, log entry 30). -/
def State.video (s : State) (link : Nat) (p : List Byte) : State :=
  let b0 := u8 p 0
  let n := bits b0 0 3
  let plane := bits b0 3 2
  let b := bits b0 5 1
  let off := u16 p 3
  let count := u8 p 5
  let c := s.actCfg n
  if !c.stored then s.sets (LAYER_STATUS.BAD_BLOCK n)
  else match videoFault c n link plane (u16 p 1) off count with
    | some f =>
      let s1 := s.sets f
      if s.buf n b = bufFilling then s1.modBuf n b fun r => { r with damaged := true } else s1
    | none =>
      if s.buf n b = bufInUse then (s.sets (LAYER_STATUS.LOCKED_DROP n)).modBuf n b fun r => { r with dropOnRelease := true }
      else
        let a := c.base b + (if plane = 0 then u16 p 1 * c.yPitch else c.tOff + u16 p 1 * c.tPitch) + off
        let s1 := (s.scanStep.videoFill n b (bitN b0 7)).sramWrite (layerStore + a) ((p.drop 6).take (min count (0x600000 - a)))
        let s2 := s1.memOp 5 link (layerStore + a) (min count (0x600000 - a)) true
        if bitN b0 6 then s2.videoEof n b plane c else s2

/-! ## Latching (R139 to R142, R144) -/

/-- What a change of makes both buffers EMPTY (R142). -/
def LayerCfg.placement (c : LayerCfg) : List Nat :=
  [c.kind, c.yDepth, c.tSub, c.maskDepth, (c.lay.getD 5 0).toNat, c.base 0, c.base 1, c.tOff, c.yPitch, c.tPitch]

/-- A layer's registers become its active configuration (R139, R142). -/
def State.latchLayer (s : State) (n : Nat) : State :=
  let c := s.regCfg n
  let s1 := if c.placement = (s.actCfg n).placement then s else (s.bufDrop n 0).bufDrop n 1
  ({ s1 with layer := { s1.layer with active := s1.layer.active.set n c } }).wrB (LAYER_STATUS.ACTIVE_EN n) c.en

/-- The layers of a mask. -/
def layersOf (mask : Nat) : List Nat := (List.range 8).filter (bitN mask)

/-- Layers named by pending commits. -/
def State.pendMask (s : State) : Nat := s.layer.commits.foldl (fun m c => Nat.lor m c.mask) 0

/-- A layer's configuration registers are locked by a pending commit (R144, R145). -/
def State.layerLocked (s : State) (n : Nat) : Bool := bitN s.pendMask n

/-- The result bytes that name a failing register (R281). -/
def failResult (n addr : Nat) : List Byte := leBytes 1 n ++ leBytes 3 0 ++ leBytes 4 addr

/-- The first failing check of the named layers (R143), as layer and address. -/
def State.commitFault (s : State) (mask : Nat) : Option (Nat × Nat) :=
  let named := (layersOf mask).map fun n => (n, s.regCfg n)
  let all := (named.filter fun e => e.2.en) ++ (s.enabledActive.filter fun e => !bitN mask e.1)
  named.findSome? fun e =>
    (if e.2.en then layerFault e.2 e.1 (otherPlanes all e.1) true else sizeFault e.2 e.1).map fun a => (e.1, a)

/-- COMMIT_PEND of every layer follows the pending commits. -/
def State.showPend (s : State) : State := (List.range 8).foldl (fun t n => t.wrB (LAYER_STATUS.COMMIT_PEND n) (t.layerLocked n)) s

/-- The checks and validation of a LAYER_COMMIT or CASK_SELECT whose turn has come (R143, R144, R174). -/
def State.commitNow (s : State) (h mask : Nat) (beam : Option Nat) : State :=
  let bad := (layersOf mask).find? fun n => beam.isSome && (s.regCfg n).kind != 2
  match bad with
  | some n => s.finish h stBadParam (failResult n (0x5000 + 0x100 * n))
  | none =>
    let invalid (k : Nat) : Bool := !s.on (if k = 0 then CASK_STATUS.VALID0 else CASK_STATUS.VALID1)
      || (match s.cask.racking with | some r => r.beam == k | none => false)
    if (match beam with | some k => invalid k | none => false) then s.finish h stNotNow []
    else
      let s1 := match beam with
        | some k => (layersOf mask).foldl (fun (t : State) n => t.wr (LAYER_CTRL.BEAM n) k) s
        | none => s
      match s1.commitFault mask with
      | some e => s1.finish h stBadParam (failResult e.1 e.2)
      | none => (({ s1 with layer := { s1.layer with commits := s1.layer.commits ++ [Commit.mk h mask beam] } }).showPend).pend h

/-- The layers and beam that a waiting command names. -/
def commitOf (c : Cmd) : Nat × Option Nat :=
  match c with
  | .caskSelect m k => (m, some k)
  | .layerCommit m => (m, none)
  | _ => (0, none)

/-- Layers that a new commit would have to wait for (R146). -/
def State.claimed (s : State) : Nat := s.layer.waiting.foldl (fun m e => Nat.lor m (commitOf e.2).1) s.pendMask

/-- LAYER_COMMIT and CASK_SELECT execute (R146): behind an earlier commit of one of their layers they wait. -/
def State.commitCmd (s : State) (x : Ctx) (c : Cmd) : State :=
  let (mask, beam) := commitOf c
  if mask = 0 then s.answer x stBadParam (failResult 0 0)
  else if Nat.land mask s.claimed = 0 then s.commitNow x.handle mask beam
  else ({ s with layer := { s.layer with waiting := s.layer.waiting ++ [(x.handle, c)] } }).pend x.handle

/-- LAYER_COMMIT (R143 to R146, R294). -/
def doLayerCommit (x : Ctx) (mask : Nat) (s : State) : State := s.commitCmd x (.layerCommit mask)

/-- CASK_SELECT (R174, R294). -/
def doCaskSelect (x : Ctx) (mask beam : Nat) (s : State) : State := s.commitCmd x (.caskSelect mask beam)

/-- Waiting commits proceed, in order, where no earlier one names their layers (R146). -/
def State.commitRetry (s : State) : State :=
  s.layer.waiting.foldl (fun t e =>
    let (mask, beam) := commitOf e.2
    if Nat.land mask t.claimed = 0 then t.commitNow e.1 mask beam
    else { t with layer := { t.layer with waiting := t.layer.waiting ++ [e] } })
    { s with layer := { s.layer with waiting := [] } }

/-- CANCEL of a waiting or pending commit (R147); `none` where there is none. -/
def State.cancelCommit (s : State) (h : Nat) : Option State :=
  if s.layer.waiting.any (·.1 == h) then
    some ((({ s with layer := { s.layer with waiting := s.layer.waiting.filter (·.1 != h) } }).finish h stAborted []).commitRetry)
  else if s.layer.commits.any (·.handle == h) then
    some (((({ s with layer := { s.layer with commits := s.layer.commits.filter (·.handle != h) } }).showPend).finish h stAborted
      []).commitRetry)
  else none

/-- Composition settings are latched at a tick (R42 step 4, R95, R139, R141, R144, R153). -/
def State.layersTick (s : State) : State :=
  let due := s.layer.commits
  let mask := s.pendMask
  let only := s.rd LAYER_COMP_CTRL.COMMIT_ONLY
  let s1 := ((List.range 8).filter fun n => bitN mask n || !bitN only n).foldl State.latchLayer s
  let s2 := { s1 with layer := { s1.layer with
    commits := [], start := min 2000 (s.rd LAYER_COMP_CTRL.START), bgWarm := s.rd LAYER_COMP_BG.WARM
    bgCool := s.rd LAYER_COMP_BG.COOL, mix := s.pipe.mix, coef := s.cask.coef } }
  let s3 := (due.foldl (fun t c => t.finish c.handle stOk []) s2.showPend).commitRetry
  (List.range 8).foldl (fun t n => t.setIf (t.cfgErr n) (LAYER_STATUS.CFG_ERR n)) s3

/-! ## The decision point (R125, R135, R136, R158) -/

/-- The largest even number of vertical taps that fits the line buffer, halved (R158). -/
def LayerCfg.tapsFit (c : LayerCfg) : Nat := min c.tapsV (16384 / c.demand / 2)

/-- A beam is valid. -/
def State.beamValid (s : State) (k : Nat) : Bool := s.on (if k = 0 then CASK_STATUS.VALID0 else CASK_STATUS.VALID1)

/-- A layer's buffer is taken by the composition. -/
def State.bufTake (s : State) (n b : Nat) : State := (s.modBuf n b fun r => { r with byComp := true }).wr (bufFld n b) bufInUse

/-- The READY buffer that is chosen: the one completed later (R135). -/
def State.readyBuf (s : State) (n : Nat) : Option Nat :=
  if s.bufSeen n 0 = bufReady ∧ s.bufSeen n 1 = bufReady then
    some (if (s.bufRec n 0).order < (s.bufRec n 1).order then 1 else 0)
  else if s.bufSeen n 0 = bufReady then some 0
  else if s.bufSeen n 1 = bufReady then some 1 else none

/-- The chosen buffer becomes IN_USE; the other leaves READY or SPENT (R135). -/
def State.chooseBuf (s : State) (n b : Nat) : State :=
  let o := 1 - b
  let s1 := if s.bufSeen n o = bufReady then (s.bufDrop n o).sets (LAYER_STATUS.SKIP n)
    else if s.bufSeen n o = bufSpent then s.bufDrop n o else s
  s1.bufTake n b

/-- The SPENT buffer that HOLD uses again, if any. Two buffers of a layer are SPENT only after a racking has released a second
one; then it is buffer 0 (DESIGN CHOICE, log entry 105: R136 speaks of one SPENT buffer). -/
def State.spentBuf (s : State) (n : Nat) : Option Nat :=
  if s.bufSeen n 0 = bufSpent then some 0 else if s.bufSeen n 1 = bufSpent then some 1 else none

/-- A layer that is not ready (R136). -/
def State.notReady (s : State) (n : Nat) (c : LayerCfg) : Judge × State :=
  let s1 := (s.sets (LAYER_STATUS.NOT_READY n)).inc (LAYER_NR_CNT.COUNT n)
  let hide (t : State) : Judge × State := (.hidden, t.wr (LAYER_STATUS.POL_APPLIED n) 2)
  if c.policy = 0 then
    match (if c.stored then s.spentBuf n else none) with
    | some b => (.buffer b, (s1.bufTake n b).wr (LAYER_STATUS.POL_APPLIED n) 1)
    | none => hide (s1.sets (LAYER_STATUS.HOLD_FAIL n))
  else if c.policy = 2 then
    if s.beamValid c.subBeam then (.beam c.subBeam, s1.wr (LAYER_STATUS.POL_APPLIED n) 3)
    else hide (s1.sets (LAYER_STATUS.SUB_FAIL n))
  else hide s1

/-- The judgement of one layer at D (R135, R158), with the vertical taps used. -/
def State.judgeLayer (s : State) (n : Nat) : Judge × Nat × State :=
  let c := s.actCfg n
  if !c.en ∨ s.cfgErr n then (.hidden, c.tapsV, s)
  else
    let taps := if c.scaled then c.tapsFit else c.tapsV
    let s1 := if c.scaled then (s.wr (SCALE_STATUS.TAPS_V_USED n) taps).setIf (taps < c.tapsV) (SCALE_STATUS.LINEBUF_SHORT n) else s
    let ok (j : Judge) (t : State) : Judge × Nat × State := (j, taps, t.wr (LAYER_STATUS.POL_APPLIED n) 0)
    let not' : Judge × Nat × State := let r := s1.notReady n c; (r.1, taps, r.2)
    if c.kind = 2 then (if s1.beamValid c.beam then ok (.beam c.beam) s1 else not')
    else if c.kind = 3 then
      (let e := s1.symEntry c.sym; if e.valid && !e.loading then ok (.symbol c.sym (s1.symBytes c.sym)) s1 else not')
    else if c.scaled ∧ taps = 0 then not'
    else match s1.readyBuf n with
      | some b => ok (.buffer b) (s1.chooseBuf n b)
      | none => not'

/-- Every layer judged, in order. -/
def State.judgeAll (s : State) : List Judge × List Nat × State :=
  (List.range 8).foldl (fun acc n =>
    let r := acc.2.2.judgeLayer n
    (acc.1 ++ [r.1], acc.2.1 ++ [r.2.1], r.2.2)) ([], [], s)

/-- What a compositor reads of the SRAM for a judged layer (R129, R160, R168): address and length. Which lines of a plane its
half needs is not traced: whole planes (DESIGN CHOICE, log entry 36). -/
def LayerCfg.reads (c : LayerCfg) (cp : Nat) : Judge → List (Nat × Nat)
  | .hidden => []
  | .buffer b => ((if c.kind = 0 then (c.planes.drop (2 * b)).take 2 else (c.planes.drop b).take 1)).map fun p => (layerStore + p.lo, p.hi - p.lo)
  | .beam k => [(beamBase k + 320 * 4096 * cp, 320 * 4096)]
  | .symbol _ e => [(symbolStore + (symOf e).offset, (symOf e).bytes)]

/-- A requester's port `cp` issues the reads of its half and then the write of `n` bytes from `a` (R347). -/
def State.halfOps (s : State) (req cp : Nat) (cfg : List LayerCfg) (js : List Judge) (a n : Nat) : State :=
  ((List.zipWith (LayerCfg.reads · cp) cfg js).flatten.foldl (fun (t : State) r => t.memOp req cp r.1 r.2 false) s).memOp req cp a n true

/-- DECISION_POINT (R125): composition of the next frame begins. Where it is already late, nothing is judged. -/
def doDecisionPoint (s : State) : State :=
  if s.tick.overrun ∨ s.layer.composed ∨ s.layer.comp.isSome ∨ s.powerState ≠ 0 ∨ s.boot.stage ≠ 11 then s
  else
    let (js, taps, s1) := s.judgeAll
    let comp : Composition := ⟨s.layer.active, js, taps, s.layer.bgWarm, s.layer.bgCool, s.layer.mix, s.layer.coef, .composing,
      .composing, []⟩
    let s2 := (s1.halfOps 4 0 comp.cfg js (bufBase (1 - s.dispBuf)) 0x280000).halfOps 4 1 comp.cfg js (bufBase (1 - s.dispBuf) + 0x280000) 0x280000
    ({ s2 with layer := { s2.layer with comp := some comp }, pipe := { s2.pipe with compFresh := s2.safety == 0 } }).sets
      LAYER_COMP_STATUS.COMPOSING

/-! ## The composition (R27, R40, R125, R140, R148) -/

/-- The run state of a compositor. -/
def Composition.run (c : Composition) (cp : Nat) : CpRun := if cp = 0 then c.cp0 else c.cp1

/-- A compositor's run state changed. -/
def Composition.setRun (c : Composition) (cp : Nat) (r : CpRun) : Composition := if cp = 0 then { c with cp0 := r } else { c with cp1 := r }

/-- Both compositors have finished or abandoned the frame. -/
def Composition.over (c : Composition) : Bool := c.cp0 != .composing && c.cp1 != .composing

/-- Layer n takes part at a pixel: a layer disabled meanwhile only up to the place reached in the half (R140). -/
def Composition.shown (c : Composition) (x y n : Nat) : Bool :=
  match c.cut.find? (·.1 == n) with
  | none => true
  | some e => 2048 * (y % 320) + x < (if y < 320 then e.2.1 else e.2.2)

/-- What a composition composes. -/
def Composition.recipe (c : Composition) (seed : Nat) : Recipe := ⟨c.cfg, c.judge, c.tapsV, c.bgWarm, c.bgCool, c.mix, c.coef, seed⟩

/-- The bytes of one half of a composed frame, in raster order (R148). -/
def State.halfBytes (s : State) (c : Composition) (cp seed : Nat) : List Byte :=
  (List.range 320).flatMap fun r => (List.range 2048).flatMap fun x =>
    let y := 320 * cp + r
    let v := s.composePixel (c.recipe seed) (c.shown x y) x y
    leBytes 2 v.1 ++ leBytes 2 v.2

/-- The buffers that a composition holds are released (R133). One that a racking still holds counts at the next D as it was when
the racking took it (R172). -/
def State.releaseBufs (s : State) : State :=
  (List.range 16).foldl (fun t i =>
    let n := i / 2
    let b := i % 2
    if (t.bufRec n b).byComp then
      (t.modBuf n b fun r => { r with byComp := false }).bufFree n b
    else t) s

/-- The output buffer being composed. -/
def State.backBuf (s : State) : Nat := 1 - s.dispBuf

/-- A composition that is over ends: buffers released, COMPOSING cleared; it stands for the coming frame if both halves
finished. -/
def State.compositionOver (s : State) (c : Composition) : State :=
  let s1 := { s with layer := { s.layer with comp := none, composed := c.cp0 == CpRun.finished && c.cp1 == CpRun.finished } }
  ((s1.releaseBufs.memDrop 4 0).memDrop 4 1).wr LAYER_COMP_STATUS.COMPOSING 0

/-- One compositor finishes its half: the rows are in the output buffer (R125, R148). Which rows stand there earlier, and
which rows of an abandoned half do, the spec leaves open (R43): none (DESIGN CHOICE, log entry 29). -/
def State.halfDone (s : State) (cp : Nat) : State :=
  match s.layer.comp with
  | none => s
  | some c =>
    if c.run cp != .composing then s
    else
      let s1 := (s.scanStep.sramWrite (bufBase s.backBuf + 0x280000 * cp) (s.halfBytes c cp s.free)).scratchUsed
      let c1 := c.setRun cp .finished
      let s2 := { s1.memDrop 4 cp with free := s1.free + recipeFree, layer := { s1.layer with comp := some c1 } }
      if c1.over then s2.compositionOver c1 else s2

/-- An incomplete composition is abandoned (R40): both halves are discarded. -/
def State.abandon (s : State) : State :=
  match s.layer.comp with
  | none => { s with layer := { s.layer with composed := false } }
  | some c => s.compositionOver { c with cp0 := .abandoned, cp1 := .abandoned }

/-- `LAYER_n_CTRL.EN` has been written 0: the active enable ends at once (R140, R145). The place that a compositor has
reached is a free value. -/
def State.layerOff (s : State) (n : Nat) : State :=
  let c := s.actCfg n
  if !c.en then s
  else
    let off : LayerCfg := { c with lay := c.lay.modify 0 fun w => fput w 0 1 0 }
    let s1 := ({ s with layer := { s.layer with active := s.layer.active.set n off } }).wr (LAYER_STATUS.ACTIVE_EN n) 0
    match s1.layer.comp with
    | none => s1
    | some k =>
      let (f, s2) := s1.fresh
      let place (r : CpRun) (v : Nat) : Nat := if r == .composing then v % 655361 else 655360
      let e := (n, place k.cp0 (Config.value f), place k.cp1 (Config.value (f + 1)))
      { s2 with free := s2.free + 1, layer := { s2.layer with comp := some { k with cut := e :: k.cut } } }

end Sys2Proof.Machine
end

