-- ==== Sys2Proof/Machine/Cask.lean ====
section
/-!
DEFINITION. Racking, the symbol store's command, and the table loads (R60, R95, R152, R153, R161, R162, R170 to R174,
R297, R298).
-/
namespace Sys2Proof.Machine

/-! ## What composition and racking read -/

/-- Composition or racking judged by `js` reads beam k. -/
def readsBeam (js : List Judge) (k : Nat) : Bool := js.any fun j => match j with | .beam b => b == k | _ => false

/-- Composition or racking judged by `js` reads symbol i. -/
def readsSymbol (js : List Judge) (i : Nat) : Bool := js.any fun j => match j with | .symbol k _ => k == i | _ => false

/-- The composition in progress reads beam k. -/
def State.compReadsBeam (s : State) (k : Nat) : Bool := match s.layer.comp with | some c => readsBeam c.judge k | none => false

/-- The composition in progress reads symbol i. -/
def State.compReadsSymbol (s : State) (i : Nat) : Bool := match s.layer.comp with | some c => readsSymbol c.judge i | none => false

/-- The racking in progress reads symbol i. -/
def State.rackReadsSymbol (s : State) (i : Nat) : Bool := match s.cask.racking with | some r => readsSymbol r.judge i | none => false

/-! ## RACK (R170 to R173) -/

/-- The valid bit of a beam. -/
def validFld (k : Nat) : Fld := if k = 0 then CASK_STATUS.VALID0 else CASK_STATUS.VALID1

/-- The first BAD_PARAM check of RACK that fails, as layer and address (R170, R281). -/
def State.rackFault (s : State) (k mask : Nat) : Option (Nat × Nat) :=
  if mask = 0 then some (0, 0)
  else match (layersOf mask).find? fun n => (s.actCfg n).kind == 2 && (s.actCfg n).beam == k with
    | some n => some (n, 0x5000 + 0x100 * n)
    | none =>
      let srcs := (layersOf mask).map fun n => (n, s.actCfg n)
      let all := srcs ++ s.enabledActive.filter fun e => !bitN mask e.1
      srcs.findSome? fun e => (layerFault e.2 e.1 (otherPlanes all e.1) true).map fun a => (e.1, a)

/-- The buffer that a racking takes (R172): READY, the later of two, else SPENT. -/
def State.rackBuf (s : State) (n : Nat) : Option Nat :=
  if s.buf n 0 = bufReady ∧ s.buf n 1 = bufReady then some (if (s.bufRec n 0).order < (s.bufRec n 1).order then 1 else 0)
  else if s.buf n 0 = bufReady then some 0
  else if s.buf n 1 = bufReady then some 1
  else if s.buf n 0 = bufSpent then some 0
  else if s.buf n 1 = bufSpent then some 1 else none

/-- What a source layer supplies to a racking (R170, R172); none is NOT_NOW. -/
def State.rackSource (s : State) (n : Nat) : Option Judge :=
  let c := s.actCfg n
  if c.kind = 2 then (if s.beamValid c.beam then some (.beam c.beam) else none)
  else if c.kind = 3 then
    (let e := s.symEntry c.sym; if e.valid && !e.loading then some (.symbol c.sym (s.symBytes c.sym)) else none)
  else (s.rackBuf n).map .buffer

/-- A CASK_SELECT that is pending, or waits behind an earlier commit, names beam k (R170). -/
def State.beamNamed (s : State) (k : Nat) : Bool :=
  s.layer.commits.any (fun c => c.beam == some k) || s.layer.waiting.any fun e => (commitOf e.2).2 == some k

/-- A racking takes a buffer (R172). -/
def State.rackTake (s : State) (n b : Nat) : State :=
  (s.modBuf n b fun r => { r with byRack := true, rackWas := s.buf n b }).wr (bufFld n b) bufInUse

/-- RACK (R170). -/
def doRack (x : Ctx) (k mask bgW bgC : Nat) (s : State) : State :=
  match s.rackFault k mask with
  | some e => s.answer x stBadParam (failResult e.1 e.2)
  | none =>
    if s.cask.racking.isSome ∨ ((layersOf mask).any fun n => (s.rackSource n).isNone) ∨ s.beamNamed k then s.answer x stNotNow []
    else
      let js := (List.range 8).map fun n => if bitN mask n then (s.rackSource n).getD .hidden else .hidden
      let run : Racking := ⟨x.handle, k, bgW, bgC, s.layer.active, js, s.layer.mix, s.layer.coef⟩
      let s1 := (layersOf mask).foldl (fun (t : State) n => match js.getD n .hidden with | .buffer b => t.rackTake n b | _ => t) s
      let s2 := { s1 with cask := { s1.cask with racking := some run } }
      let s3 := (s2.halfOps 3 0 run.cfg js (beamBase k) (320 * 4096)).halfOps 3 1 run.cfg js (beamBase k + 320 * 4096) (320 * 4096)
      (((((s3.wr (validFld k) 0).sets CASK_STATUS.RACKING).wr CASK_STATUS.TARGET k).wr CASK_RACK_PROG.ROWS_CP0 0).wr
        CASK_RACK_PROG.ROWS_CP1 0).pend x.handle

/-- What a racking composes. -/
def Racking.recipe (r : Racking) (seed : Nat) : Recipe := ⟨r.cfg, r.judge, r.cfg.map LayerCfg.tapsV, r.bgW, r.bgC, r.mix, r.coef, seed⟩

/-- The bytes of one row of a beam (R167, R169, R171). -/
def State.rackRow (s : State) (r : Recipe) (y : Nat) : List Byte :=
  (List.range 2048).flatMap fun x =>
    let v := s.composePixel r (fun _ => true) x y
    leBytes 1 (caskCode v.1 x y) ++ leBytes 1 (caskCode v.2 x y)

/-- The first `n0` rows of the upper half and `n1` of the lower are written to the beam (R171). -/
def State.rackRows (s : State) (r : Racking) (n0 n1 : Nat) : State :=
  let rec' := r.recipe s.free
  let top := (List.range n0).flatMap fun y => s.rackRow rec' y
  let low := (List.range n1).flatMap fun y => s.rackRow rec' (320 + y)
  let s1 := ((s.scanStep.sramWrite (beamBase r.beam) top).sramWrite (beamBase r.beam + 320 * 4096) low).scratchUsed
  (({ s1 with free := s1.free + recipeFree }).wr CASK_RACK_PROG.ROWS_CP0 n0).wr CASK_RACK_PROG.ROWS_CP1 n1

/-- A racking ends and releases its buffers (R172). -/
def State.rackOver (s : State) : State :=
  (List.range 16).foldl (fun (t : State) i =>
    let n := i / 2
    let b := i % 2
    if (t.bufRec n b).byRack then (t.modBuf n b fun r => { r with byRack := false }).bufFree n b else t)
    ((({ s with cask := { s.cask with racking := none } }.memDrop 3 0).memDrop 3 1).wr CASK_STATUS.RACKING 0)

/-- The rows that a racking has written so far (R171, R176): free values that do not fall, and none more while the composition in
progress reads the beam. -/
def State.rackStep (s : State) : State :=
  match s.cask.racking with
  | none => s
  | some r =>
    let (n, s1) := s.fresh
    let more (i : Nat) (f : Fld) (t : State) : State := t.wr f (s.rd f + Config.value (n + i) % (321 - s.rd f))
    if s.compReadsBeam r.beam then s
    else more 1 CASK_RACK_PROG.ROWS_CP1 (more 0 CASK_RACK_PROG.ROWS_CP0 { s1 with free := s1.free + 1 })

/-- RACK_DONE: both halves are written (R173). No row of a racking in progress stands in the beam before RACK_DONE or CANCEL (DESIGN
CHOICE, log entry 72: R171 gives the progress no times). While the composition in progress reads the beam, nothing is written to it
(R171). -/
def doRackDone (s : State) : State :=
  match s.cask.racking with
  | none => s
  | some r =>
    if s.compReadsBeam r.beam then s
    else
      let s1 := (s.rackRows r 320 320).rackOver
      let s2 := s1.wr (CASK_BEAM_CRC.CRC r.beam) (crc32c (s1.sramBytes (beamBase r.beam) 2621440))
      (((s2.wr (CASK_BEAM_TICK.COUNT r.beam) s2.tickCount).wr (validFld r.beam) 1).sets CASK_STATUS.RACK_DONE).finish r.handle stOk []

/-- CANCEL of a racking (R173): it stops at a row boundary, with the rows that it has written so far. -/
def State.rackAbort (s : State) : State :=
  match s.cask.racking with
  | none => s
  | some r =>
    let s1 := s.rackStep
    let s2 := s1.rackRows r (s1.rd CASK_RACK_PROG.ROWS_CP0) (s1.rd CASK_RACK_PROG.ROWS_CP1)
    (s2.rackOver.sets CASK_STATUS.RACK_ABORT).finish r.handle stAborted []

/-! ## SYMBOL_LOAD (R161, R162, R297) -/

/-- Bytes per texel row (R160). -/
def symPitch (format width : Nat) : Nat := cdiv (cdiv (texelBits format * width) 8) 4 * 4

/-- The checks of FIRST (R159, R161). -/
def State.symFirstOk (s : State) (i off w h fmt : Nat) : Bool :=
  fmt ≤ 3 && 1 ≤ w && w ≤ 2048 && 1 ≤ h && h ≤ 1024 && off % 32 == 0 && 4096 ≤ off && off + symPitch fmt w * h ≤ 1048576
    && (List.range 256).all fun k =>
      let e := s.symEntry k
      k == i || !(e.valid || e.loading) || e.offset + e.bytes ≤ off || off + symPitch fmt w * h ≤ e.offset

/-- The data write and the LAST step of a SYMBOL_LOAD (R161, R297). -/
def State.symRest (s : State) (r : HeldSymbol) : State :=
  let e := s.symEntry r.index
  if !e.loading ∨ (r.data ≠ [] ∧ e.bytes < r.doff + r.data.length) then s.finish r.handle stBadParam []
  else
    let a := symbolStore + e.offset + r.doff
    let s1 := (s.scanStep.sramWrite a r.data).memOp 0 0 a r.data.length true
    if !r.last then s1.finish r.handle stOk []
    else
      let ok := crc32c (s1.sramBytes (symbolStore + e.offset) e.bytes) == r.crc
      (s1.putSymEntry r.index { e with valid := ok, loading := false }).finish r.handle (if ok then stOk else stVerify) []

/-- The writes of the command are held (R162). -/
def State.symHeld (s : State) (i : Nat) : Bool := s.compReadsSymbol i || s.cask.heldSyms.any fun r => r.index == i

/-- SYMBOL_LOAD (R161, R162, R297). Where several of its conditions hold, BAD_PARAM comes before NOT_NOW. The FIRST step of R297
comes first also in a command whose data then passes PITCH x HEIGHT: the entry stands as LOADING, no data is written, and the
command completes BAD_PARAM (both DESIGN CHOICE, log entry 71). -/
def doSymbolLoad (x : Ctx) (i : Nat) (first last : Bool) (off w h warm cool fmt crc doff : Nat) (data : List Byte)
    (s : State) : State :=
  if 255 < i ∨ 2048 < data.length ∨ (!first ∧ !(s.symEntry i).loading) ∨ (first ∧ !s.symFirstOk i off w h fmt) then
    s.answer x stBadParam []
  else if first ∧ s.rackReadsSymbol i then s.answer x stNotNow []
  else
    let s1 := if first then s.scanStep.putSymEntry i ⟨off, w, h, warm, cool, fmt, false, true, symPitch fmt w⟩ else s
    let r : HeldSymbol := ⟨x.handle, i, last, crc, doff, data⟩
    if s1.symHeld i then ({ s1 with cask := { s1.cask with heldSyms := s1.cask.heldSyms ++ [r] } }).pend x.handle else s1.symRest r

/-- Held writes proceed, in order, once no composition reads their symbol (R162). -/
def State.symRelease (s : State) : State :=
  let (wait, go) := s.cask.heldSyms.partition fun r => s.compReadsSymbol r.index
  go.foldl State.symRest { s with cask := { s.cask with heldSyms := wait } }

/-- COMPOSITION_DONE (R27, R125, R162). -/
def doCompositionDone (cp : Nat) (s : State) : State := (s.halfDone cp).symRelease

/-- The composition in progress is abandoned (R40, R162). -/
def State.abandonComp (s : State) : State := s.abandon.symRelease

/-! ## Table loads (R60, R95, R153, R298) -/

/-- The coefficients of a set, in the layout of R152. -/
def coefOf (p : List Byte) : List Int := (words16 p).map (sext 16)

/-- A coefficient is in range (R153). -/
def coefIn (v : Int) : Bool := -8192 ≤ v && v ≤ 8191

/-- The eight taps of a phase. -/
def phaseOf (c : List Int) (p : Nat) : List Int := (c.drop (8 * p)).take 8

/-- A phase normalised (R153). -/
def normPhase (c : List Int) (p : Nat) : List Int :=
  let t := phaseOf c p
  t.modify (if p < 32 then 3 else 4) fun v => v + (4096 - t.sum)

/-- The set normalised, or none if a check fails (R153). -/
def normSet (c : List Int) : Option (List Int) :=
  let n := (List.range 64).flatMap (normPhase c)
  if c.all coefIn && ((List.range 64).all fun p => ((phaseOf c p).sum - 4096).natAbs ≤ 64) && n.all coefIn then some n else none

/-- A loaded ramp table is legal (R60). -/
def rampOk (r : List Nat) : Bool := r.length == 1024 && r.all (· ≤ 1023) && (List.range 1023).all fun k => r.getD k 0 ≤ r.getD (k + 1) 0

/-- A table load that passed its checks is PENDING until it is stored. -/
def State.startLoad (s : State) (x : Ctx) (c : Cmd) : State :=
  ({ s with cask := { s.cask with loads := s.cask.loads ++ [(x.handle, c)] } }).pend x.handle

/-- COEF_LOAD (R153, R298). -/
def doCoefLoad (x : Ctx) (set : Nat) (coef : List Byte) (s : State) : State :=
  if 7 < set ∨ (normSet (coefOf coef)).isNone then s.answer x stBadParam [] else s.startLoad x (.coefLoad set coef)

/-- RAMP_LOAD (R60, R298). -/
def doRampLoad (x : Ctx) (ramp : List Nat) (s : State) : State :=
  if rampOk ramp then s.startLoad x (.rampLoad ramp) else s.answer x stBadParam []

/-- MIX_LOAD (R95, R298). -/
def doMixLoad (x : Ctx) (table : Nat) (entries : List (Nat × Nat)) (s : State) : State :=
  if 3 < table then s.answer x stBadParam [] else s.startLoad x (.mixLoad table entries)

/-- A load is stored. -/
def State.storeTable (s : State) (c : Cmd) : State :=
  match c with
  | .coefLoad k coef =>
    ({ s with cask := { s.cask with coef := (k, (normSet (coefOf coef)).getD []) :: s.cask.coef.filter (·.1 != k) } }).wr
      ⟨0x6800, k, 1⟩ 1
  | .rampLoad ramp => ({ s with array := { s.array with ramp := ramp } }).sets ARRAY_RAMP_CTRL.LOADED
  | .mixLoad k es => ({ s with pipe := { s.pipe with mix := (k, es) :: s.pipe.mix.filter (·.1 != k) } }).wr ⟨0x4024, k, 1⟩ 1
  | _ => s

/-- TABLE_LOAD_DONE: the first load in progress is stored and completes OK (R61, R95, R153). -/
def doTableLoadDone (s : State) : State :=
  match s.cask.loads with
  | [] => s
  | (h, c) :: r => (({ s with cask := { s.cask with loads := r } }).storeTable c).finish h stOk []

end Sys2Proof.Machine
end

