-- ==== Sys2Proof/Machine/Symbols.lean ====
section
/-!
DEFINITION. The 8b/10b code of the lanes with its running disparity (R178), and what is wrong in a block slot (R181,
R208).
-/
namespace Sys2Proof.Machine

/-- The 6-bit sub-blocks abcdei of the data values x = 0 to 31, at negative running disparity. -/
def sixTable : List Nat :=
  [0b100111, 0b011101, 0b101101, 0b110001, 0b110101, 0b101001, 0b011001, 0b111000,
   0b111001, 0b100101, 0b010101, 0b110100, 0b001101, 0b101100, 0b011100, 0b010111,
   0b011011, 0b100011, 0b010011, 0b110010, 0b001011, 0b101010, 0b011010, 0b111010,
   0b110011, 0b100110, 0b010110, 0b110110, 0b001110, 0b101110, 0b011110, 0b101011]

/-- The 4-bit sub-blocks fghj of the data values y = 0 to 7, at negative running disparity. -/
def fourTable : List Nat := [0b1011, 0b1001, 0b0101, 0b1100, 0b1101, 0b1010, 0b0110, 0b1110]

/-- The 4-bit sub-blocks of the special symbols, at negative running disparity. -/
def fourSpecial : List Nat := [0b1011, 0b0110, 0b1010, 0b1100, 0b1101, 0b0101, 0b1001, 0b0111]

/-- Ones in the low `w` bits. -/
def ones (w v : Nat) : Nat := ((List.range w).filter (bitN v)).length

/-- The running disparity after a sub-block of `w` bits: true is positive. A balanced sub-block keeps it. -/
def afterSub (w v : Nat) (rd : Bool) : Bool := if 2 * ones w v = w then rd else w < 2 * ones w v

/-- A sub-block at a running disparity: complemented at positive disparity if it is not balanced, or if `flip` names it. -/
def atDisparity (w v : Nat) (flip rd : Bool) : Nat := if rd && (flip || 2 * ones w v != w) then 2 ^ w - 1 - v else v

/-- The alternate sub-block D.x.A7 stands in place of D.x.P7. -/
def usesA7 (x : Nat) (rd : Bool) : Bool := if rd then [11, 13, 14].contains x else [17, 18, 20].contains x

/-- The 10-bit group of an octet, first bit sent highest, and the running disparity after it (R178). -/
def encode (rd special : Bool) (o : Nat) : Nat × Bool :=
  let x := o % 32
  let y := o / 32 % 8
  let six := if special && x == 28 then atDisparity 6 0b001111 false rd else atDisparity 6 (sixTable.getD x 0) (x == 7) rd
  let rd1 := afterSub 6 six rd
  let four := if special then (if rd1 then 15 - fourSpecial.getD y 0 else fourSpecial.getD y 0)
    else if y = 7 ∧ usesA7 x rd1 then (if rd1 then 0b1000 else 0b0111)
    else atDisparity 4 (fourTable.getD y 0) (y == 3) rd1
  (16 * six + four, afterSub 4 four rd1)

/-- The groups of symbols, special or not, and the running disparity after them. -/
def encodeAll : Bool → List (Bool × Nat) → List Nat × Bool
  | rd, [] => ([], rd)
  | rd, o :: rest =>
    let (g, rd1) := encode rd o.1 o.2
    let (gs, rd2) := encodeAll rd1 rest
    (g :: gs, rd2)

/-- The special symbols of the device (R178). -/
def specials : List Nat := [0xBC, 0x1C, 0x5C, 0x7C, 0x9C, 0xDC, 0xFB]

/-- The symbol that a group stands for at a running disparity; none for an invalid symbol. -/
def symbolOf (rd : Bool) (g : Nat) : Option (Bool × Nat) :=
  (specials.map (true, ·) ++ (List.range 256).map (false, ·)).find? fun o => (encode rd o.1 o.2).1 == g

/-- The running disparity of a receiver after a group, valid or not: by each sub-block. -/
def afterGroup (rd : Bool) (g : Nat) : Bool :=
  let six := g / 16 % 64
  let rd1 := if six = 7 then true else if six = 56 then false else afterSub 6 six rd
  let four := g % 16
  if four = 3 then true else if four = 12 then false else afterSub 4 four rd1

/-- The symbols of received groups, and the receiver's running disparity after them. -/
def receive : Bool → List Nat → List (Option (Bool × Nat)) × Bool
  | rd, [] => ([], rd)
  | rd, g :: rest =>
    let (l, e) := receive (afterGroup rd g) rest
    (symbolOf rd g :: l, e)

/-- The symbols of a block. -/
def blockSymbols (header : Nat) (octets : List Byte) : List (Bool × Nat) := (true, header) :: octets.map fun b => (false, b.toNat)

/-- What is wrong in a block slot of a forward lane (R181, R208): the invalid symbols; whether symbol 0 is a header of a
forward lane; whether symbols 1 to 63 hold a K-code; whether the CRC of a block of valid symbols differs. -/
structure SlotView where
  bad : Nat
  header : Bool
  kcode : Bool
  crc : Bool
  rd : Bool
  deriving DecidableEq, Repr

/-- A slot as received. -/
def slotView (rd : Bool) (groups : List Nat) : SlotView :=
  let (sym, rd1) := receive rd groups
  let octets := sym.map fun o => match o with | some p => BitVec.ofNat 8 p.2 | none => (0 : Byte)
  let head := match sym.headD none with | some (true, h) => [0x1C, 0x5C, 0x7C, 0x9C, 0xDC].contains h | _ => false
  { bad := (sym.filter (·.isNone)).length
    header := head
    kcode := (sym.drop 1).any fun o => match o with | some (k, _) => k | none => false
    crc := crc16 (octets.take 62) != leNat (octets.drop 62)
    rd := rd1 }

/-- The slot holds no valid block (R181). -/
def SlotView.defect (v : SlotView) : Bool := v.bad != 0 || !v.header || v.kcode || v.crc

/-- The slot counts in HDR, and in CRC (R208). -/
def SlotView.hdr (v : SlotView) : Bool := !v.header || v.kcode
def SlotView.crcOnly (v : SlotView) : Bool := !v.hdr && v.bad == 0 && v.crc

end Sys2Proof.Machine
end

