-- ==== Sys2Proof/Machine/Link.lean ====
section
/-!
DEFINITION. The Daelo link: lanes, training, sequence and striping, payloads, electrical idle and the return lane (R177
to R206).
-/
namespace Sys2Proof.Machine

/-! ## Places -/

/-- Lane states (R182) and link states (R184). -/
def laneOff : Nat := 0
def laneSearch : Nat := 1
def laneHunt : Nat := 2
def laneTrain : Nat := 3
def laneData : Nat := 4
def laneIdle : Nat := 5
def linkDown : Nat := 0
def linkUp : Nat := 1
def linkLame : Nat := 2
def linkIdle : Nat := 5

/-- The state field of a link. -/
def linkFld (k : Nat) : Fld := if k = 0 then LINK_STATUS.STATE_A else LINK_STATUS.STATE_B

/-- A lane's state. -/
def State.lane (s : State) (n : Nat) : Nat := s.rd (LINK_LANE_STATE.STATE n)

/-- A lane is in DATA. -/
def State.inData (s : State) (n : Nat) : Bool := s.lane n == laneData

/-- A link's state. -/
def State.link (s : State) (k : Nat) : Nat := s.rd (linkFld k)

/-- What a lane and a link hold beside their registers. -/
def State.laneSt (s : State) (n : Nat) : LaneSt := s.daelo.lanes.getD n LaneSt.init
def State.linkSt (s : State) (k : Nat) : LinkSt := s.daelo.links.getD k LinkSt.init

/-- A lane's or a link's holdings changed. -/
def State.modLane (s : State) (n : Nat) (f : LaneSt → LaneSt) : State :=
  { s with daelo := { s.daelo with lanes := s.daelo.lanes.modify n f } }
def State.modLink (s : State) (k : Nat) (f : LinkSt → LinkSt) : State :=
  { s with daelo := { s.daelo with links := s.daelo.links.modify k f } }

/-- The return lane's holdings changed. -/
def State.modRl (s : State) (f : RlSt → RlSt) : State := { s with daelo := { s.daelo with rl := f s.daelo.rl } }

/-- TRAINED follows the lane's rate (R208). -/
def State.showTrained (s : State) (n : Nat) : State :=
  s.wrB (LINK_LANE_STATE.TRAINED n) ((s.laneSt n).trainedAt.contains (s.rd (LINK_LANE_STATE.RATE n)))

/-- A lane takes a rate code. -/
def State.setRate (s : State) (n r : Nat) : State := (s.wr (LINK_LANE_STATE.RATE n) r).showTrained n

/-- A discarded block (R208). -/
def State.discard (s : State) (k : Nat) : State := s.inc (LINK_DISC.DISCARD k)

/-- A lane enters a state afresh. An EI_ENTER that waits there for its match finds none, unless the state is IDLE (R198). -/
def State.setLane (s : State) (n st : Nat) : State :=
  let s0 := if (s.laneSt n).eiWait.isSome && st != laneIdle then s.discard (n / 2) else s
  (s0.modLane n fun l => { l with hunt := 0, huntPat := true, slots := [], training := none, exits := 0, eiWait := none }).wr
    (LINK_LANE_STATE.STATE n) st

/-! ## Return-lane items (R202 to R204) -/

/-- A LANE_LOSS notice (R204). -/
def State.pushLoss (s : State) (n cause : Nat) : State :=
  s.modRl fun r => { r with loss := r.loss ++ [leBytes 1 1 ++ leBytes 1 n ++ leBytes 1 cause ++ leBytes 1 (s.link (n / 2))
    ++ leBytes 4 s.tickCount] }

/-- A TAP_REQ is due (R187): none while the return lane is idle (R202); one entry serves all lanes. -/
def State.pushTap (s : State) : State :=
  if s.daelo.rl.running && !s.daelo.rl.train.contains .tapReq then s.modRl fun r => { r with train := r.train ++ [.tapReq] } else s

/-- RATE_ACK (0x12) or RATE_NAK (0x13) (R204). -/
def State.pushAnswer (s : State) (p : List Byte) : State := s.modRl fun r => { r with train := r.train ++ [.bytes p] }

/-! ## Loss events and link state (R183, R184, R190, R201) -/

/-- The packet in assembly on a link is discarded (R197). -/
def State.dropPacket (s : State) (k : Nat) : State :=
  ((s.modLink k fun l => { l with asm := none }).inc (LINK_PKT.PKT_DROP k)).sets LINK_STATUS.PKT_DROP

/-- A loss event on a link (R133, R190, R197). -/
def State.lossEvent (s : State) (k : Nat) : State :=
  let s1 := s.damageFills k
  if (s1.linkSt k).asm.isSome then s1.dropPacket k else s1

/-- The state of a link from its stripe mode, its lanes and its state before (R184). While a dual link leaves IDLE, it
stays IDLE until both lanes are in DATA; one whose other lane falls out of lock there becomes LAME, which R184 lets a link do from
UP only (both DESIGN CHOICE, log entry 75). -/
def linkNext (mode old lo hi : Nat) : Nat :=
  if mode = 1 then (if lo = laneData then 3 else linkDown)
  else if mode = 2 then (if hi = laneData then 4 else linkDown)
  else if lo = laneData ∧ hi = laneData then (if old = linkLame then linkLame else linkUp)
  else if lo = laneIdle ∧ hi = laneIdle then linkIdle
  else if lo ≠ laneData ∧ hi ≠ laneData then linkDown
  else if old = linkIdle ∧ (lo = laneIdle ∨ hi = laneIdle) then linkIdle
  else if old = linkUp ∨ old = linkLame ∨ old = linkIdle then linkLame
  else linkDown

/-- The lane that a single-lane link stripes on. -/
def stripeLane (k mode : Nat) : Nat := 2 * k + (mode - 1)

/-- A link's state follows its lanes; a link that is DOWN without an announced idle adopts the next SEQ (R185). Only an UP link
has late partners (R191). -/
def State.linkUpdate (s : State) (k : Nat) : State :=
  let l := s.linkSt k
  let st := linkNext l.mode (s.link k) (s.lane (2 * k)) (s.lane (2 * k + 1))
  let held := l.mode != 0 && s.lane (stripeLane k l.mode) == laneIdle
  let s1 := (s.wr (linkFld k) st).setIf (st == linkLame && s.link k != linkLame) LINK_STATUS.LAME
  let s2 := if st = linkUp then s1 else s1.modLink k fun l => { l with late := [] }
  if st = linkDown ∧ !held then s2.modLink k fun l => { l with adopt := true } else s2

/-! ## Stripe mode (R193) -/

/-- A RESTRIPE is refused (R193). -/
def State.restripeBad (s : State) (k mode : Nat) : Bool :=
  let lo := s.inData (2 * k)
  let hi := s.inData (2 * k + 1)
  !((mode == 0 && lo && hi) || (mode == 1 && lo) || (mode == 2 && hi))

/-- RESTRIPE acts (R193). -/
def State.restripe (s : State) (k mode : Nat) : State :=
  if s.restripeBad k mode then (s.sets LINK_STATUS.RESTRIPE_REJ).notice 0x04 (leBytes 1 k ++ leBytes 1 mode)
  else
    let s1 := ((s.modLink k fun l => { l with mode := mode, late := if s.link k = linkUp then l.late else [] }).wr (linkFld k)
      (if s.link k = linkLame then linkUp else s.link k)).sets LINK_STATUS.MODE_EV
    (s1.notice 0x03 (leBytes 1 k ++ leBytes 1 mode)).linkUpdate k

/-! ## Payloads in sequence (R194, R195, R197) -/

/-- A GUARD segment (R194). -/
def State.guardSegment (s : State) (k : Nat) (p : List Byte) : State :=
  let tag := u8 p 0
  let seg := u16 p 1
  let n := s.tickCount
  if 1463 ≤ seg then s.discard k
  else if tag = (n + (if s.daelo.pastDeadline then 2 else 1)) % 256 then
    s.modLink k fun l => { l with filling := (seg, p.drop 4) :: l.filling.filter fun e => e.1 != seg }
  else (s.inc (if s.daelo.pastDeadline && tag == (n + 1) % 256 then LINK_GRD.LATE k else LINK_GRD.TAG k)).sets LINK_STATUS.GUARD_DISCARD

/-- The maximum packet length (R249). -/
def maxPacket : Nat := 2088

/-- A well-formed fragment joins a packet that has begun (R197). -/
def State.addFragment (s : State) (k : Nat) (asm data : List Byte) (last : Bool) : State :=
  if maxPacket < (asm ++ data).length then s.dropPacket k
  else if last then
    { (s.modLink k fun l => { l with asm := none }) with daelo := { (s.modLink k fun l => { l with asm := none }).daelo with
        inbox := s.daelo.inbox ++ [(k, asm ++ data)] } }
  else s.modLink k fun l => { l with asm := some (asm ++ data) }

/-- A packet fragment (R195, R197). -/
def State.fragment (s : State) (k : Nat) (p : List Byte) : State :=
  let fl := u8 p 1
  let n := u8 p 2
  let busy := (s.linkSt k).asm.isSome
  if n = 0 ∨ 57 < n ∨ 4 ≤ fl then (if busy then (s.discard k).dropPacket k else s.discard k)
  else
    let data := (p.drop 3).take n
    if bitN fl 0 then (if busy then s.dropPacket k else s).addFragment k [] data (bitN fl 1)
    else match (s.linkSt k).asm with
      | none => s.inc (LINK_PKT.PKT_DROP k)
      | some asm => s.addFragment k asm data (bitN fl 1)

/-! ## Electrical idle (R198) -/

/-- An EI_ENTER that waits for its match finds none: it is refused (R198). -/
def State.eiRefuse (s : State) (k : Nat) : State :=
  [2 * k, 2 * k + 1].foldl (fun (t : State) n =>
    if (t.laneSt n).eiWait.isSome then (t.modLane n fun l => { l with eiWait := none }).discard k else t) s

/-- EI_ENTER in the link sequence of a dual link, on lane n (R198): both lanes of one pair. -/
def State.eiPair (s : State) (n seq : Nat) : State :=
  let k := n / 2
  let other := 4 * k + 1 - n
  if seq % 2 = 0 then (s.eiRefuse k).modLane n fun l => { l with eiWait := some seq }
  else if (s.laneSt other).eiWait = some (seq - 1) then
    (((s.setLane n laneIdle).setLane other laneIdle).linkUpdate k)
  else (s.eiRefuse k).discard k

/-- EI_ENTER delivered on lane n (R198). A lane of a LAME link has no pair. -/
def State.eiEnter (s : State) (n seq : Nat) : State :=
  let k := n / 2
  if (s.linkSt k).mode ≠ 0 then (s.setLane n laneIdle).linkUpdate k
  else if s.link k = linkLame then s.discard k
  else s.eiPair n seq

/-! ## Rates (R185, R205) -/

/-- MAX_RATE of a link as used (R208). -/
def State.maxRate (s : State) (k : Nat) : Nat := min 2 (s.rd (if k = 0 then LINK_CTRL.MAX_RATE_A else LINK_CTRL.MAX_RATE_B))

/-- The reason to refuse a rate (R185, R204). Where several hold, the lowest is given (DESIGN CHOICE, log entry 74: R204 gives no
order). -/
def State.rateReason (s : State) (k r : Nat) : Option Nat :=
  let cur := s.rd (LINK_LANE_STATE.RATE (2 * k))
  if s.maxRate k < r then some 0
  else if cur + 1 ≠ r ∧ cur ≤ r then some 1
  else if s.inData (2 * k) && s.inData (2 * k + 1) then none else some 2

/-- RATE_REQ (R185, R205). -/
def State.rateRequest (s : State) (k r : Nat) : State :=
  match s.rateReason k r with
  | none => (s.modLink k fun l => { l with ack := some r }).pushAnswer (leBytes 1 0x12 ++ leBytes 1 k ++ leBytes 1 r)
  | some e => (s.modLink k fun l => { l with ack := none }).pushAnswer (leBytes 1 0x13 ++ leBytes 1 k ++ leBytes 1 r ++ leBytes 1 e)

/-! ## Delivery (R190 to R193) -/

/-- A TRAIN block delivered on lane n (R192, R193, R197). RATE_GO and RETRAIN act on their lane as they are received. -/
def State.trainBlock (s : State) (b : Blk) : State :=
  let k := b.lane / 2
  match u8 b.payload 0 with
  | 2 => s.rateRequest k (u8 b.payload 1)
  | 4 => s.restripe k (u8 b.payload 1)
  | 5 => s.eiEnter b.lane b.seq
  | 1 => s
  | 3 => s
  | 6 => s
  | 7 => s
  | _ => s.discard k

/-- The effect of a delivered block (R194 to R197). CUT lists have acted as they were received. -/
def State.deliver (s : State) (b : Blk) : State :=
  let k := b.lane / 2
  let s1 := if b.header = 0xDC ∧ u8 b.payload 0 = 5 then s else s.eiRefuse k
  if b.header = 0x1C then s1.video k b.payload
  else if b.header = 0x5C then s1.guardSegment k b.payload
  else if b.header = 0x7C then
    (if u8 b.payload 0 = 1 then s1.fragment k b.payload else if 2 < u8 b.payload 0 then s1.discard k else s1)
  else if b.header = 0xDC then s1.trainBlock b
  else s1

/-- A block is stale against the link's expected value (R190). -/
def State.stale (s : State) (k seq : Nat) : Bool := !(s.linkSt k).adopt && 128 ≤ (seq + 256 - (s.linkSt k).expect) % 256

/-- A block in link sequence (R190). -/
def State.seqBlock (s : State) (b : Blk) : State :=
  let k := b.lane / 2
  let l := s.linkSt k
  let d := if l.adopt then 0 else (b.seq + 256 - l.expect) % 256
  if 128 ≤ d then s.discard k
  else
    let s1 := if d = 0 then s else (s.incBy (LINK_LOST.COUNT k) d).lossEvent k
    (s1.modLink k fun l => { l with expect := (b.seq + 1) % 256, adopt := false }).deliver b

/-- A block on a lane of a single-lane link (R192). -/
def State.singleBlock (s : State) (b : Blk) : State :=
  let k := b.lane / 2
  if b.lane = stripeLane k (s.linkSt k).mode then s.seqBlock b
  else if b.header = 0xDC then s.trainBlock b
  else if b.header = 0x9C then s
  else s.discard k

/-- The second block of a pair, after the first has acted: a RESTRIPE or a refused idle may have changed the link. -/
def State.second (s : State) (b : Blk) : State := if (s.linkSt (b.lane / 2)).mode = 0 then s.seqBlock b else s.singleBlock b

/-- A waiting block is delivered alone; its partner will be late. -/
def State.flush (s : State) (k : Nat) : State :=
  match (s.linkSt k).waiting with
  | none => s
  | some w => (s.modLink k fun l => { l with waiting := none, late := (2 * (w.seq / 2) + 1 - w.seq % 2) :: l.late }).second w

/-- A late partner is discarded (R191). -/
def State.deskewDrop (s : State) (k : Nat) : State := ((s.inc (LINK_DISC.DESKEW k)).sets LINK_STATUS.DESKEW).lossEvent k

/-- The late partners still to come once a block of SEQ `q` has ended: those of its lane up to it have come or are lost. -/
def lateAfter (late : List Nat) (q : Nat) : List Nat :=
  late.filter fun e => e % 2 != q % 2 || ((e + 256 - q) % 256 != 0 && (e + 256 - q) % 256 < 128)

/-- A block that no partner waits for: it waits for its own (R191). -/
def State.awaitPartner (s : State) (b : Blk) : State := s.modLink (b.lane / 2) fun l => { l with waiting := some b }

/-- A block on a lane of an UP link (R191). -/
def State.pairBlock (s : State) (b : Blk) : State :=
  let k := b.lane / 2
  if b.seq % 2 ≠ b.lane % 2 then s.discard k
  else
    let s0 := s.modLink k fun l => { l with late := lateAfter l.late b.seq }
    if (s.linkSt k).late.contains b.seq then s0.deskewDrop k
    else match (s.linkSt k).waiting with
      | none => s0.awaitPartner b
      | some w =>
        if w.lane ≠ b.lane ∧ w.seq / 2 = b.seq / 2 then
          let s1 := s0.modLink k fun l => { l with waiting := none }
          if w.seq < b.seq then (s1.seqBlock w).second b else (s1.seqBlock b).second w
        else (s0.flush k).awaitPartner b

/-- A block on the lane in DATA of a LAME link (R184): the partner of one that still waits is delivered with it (R191). -/
def State.lameBlock (s : State) (b : Blk) : State :=
  let k := b.lane / 2
  match (s.linkSt k).waiting with
  | none => s.seqBlock b
  | some w =>
    if w.lane ≠ b.lane ∧ w.seq / 2 = b.seq / 2 then
      let s1 := s.modLink k fun l => { l with waiting := none }
      if w.seq < b.seq then (s1.seqBlock w).second b else (s1.seqBlock b).second w
    else ((s.flush k).modLink k fun l => { l with late := [] }).second b

/-- A block on the lane in DATA of a DOWN dual link (R184). -/
def State.downBlock (s : State) (b : Blk) : State :=
  let k := b.lane / 2
  if b.header = 0xDC ∧ u8 b.payload 0 = 4 ∧ u8 b.payload 1 = b.lane % 2 + 1 then
    (s.restripe k (u8 b.payload 1)).modLink k fun l => { l with expect := (b.seq + 1) % 256, adopt := false }
  else s.discard k

/-- A valid block other than PATTERN and EI_EXIT on a lane in DATA (R184, R190 to R192). -/
def State.routeBlock (s : State) (b : Blk) : State :=
  let k := b.lane / 2
  if (s.linkSt k).mode ≠ 0 then s.singleBlock b
  else if s.link k = linkDown then s.downBlock b
  else if s.link k = linkLame then s.lameBlock b
  else s.pairBlock b

/-- The other lane of its link. -/
def Blk.mate (b : Blk) : Nat := 4 * (b.lane / 2) + 1 - b.lane

/-- After a lane of a link has left DATA: a waiting block whose partner can still come on the other lane waits on, any other is
delivered, or dropped where the link carries none (R184, R191, DESIGN CHOICE, log entry 76). -/
def State.linkSettle (s : State) (k : Nat) : State :=
  let s1 := s.linkUpdate k
  if s1.link k = linkUp then s1
  else if s1.link k = linkDown then s1.modLink k fun l => { l with waiting := none }
  else if s1.link k = linkLame && (s1.linkSt k).waiting.any fun w => s1.inData w.mate then s1
  else (s1.flush k).modLink k fun l => { l with late := [] }

/-! ## Lock and loss of lock (R182, R183) -/

/-- A lane goes out of lock (R183, R206). -/
def State.outOfLock (s : State) (n cause st : Nat) : State :=
  let s1 := ((s.inc (LINK_CV.LOCK n)).sets LINK_STATUS.LANE_LOSS).lossEvent (n / 2)
  ((((s1.setLane n st).modLane n fun l => { l with lost := some s.cycle }).linkSettle (n / 2)).pushLoss n cause)

/-- The values of a training at its end (R189, R208). -/
def State.trainEnd (s : State) (n : Nat) (t : Training) : State :=
  ((s.wr (LINK_MARGIN.EYE_H n) t.eyeH).wr (LINK_MARGIN.EYE_W n) t.eyeW).wr (LINK_MARGIN.PRBS_ERR n) (min 65535 t.allErrs)

/-- A lane in SEARCH, HUNT or TRAIN takes a state without an out-of-lock event (R182, R200): a training on it ends. -/
def State.laneQuiet (s : State) (n st : Nat) : State :=
  let s1 := match (s.laneSt n).training with
    | some t => if t.done then s else s.trainEnd n t
    | none => s
  (s1.setLane n st).linkSettle (n / 2)

/-- A rate step fails (R186): both lanes return to SEARCH at the old rate. A lane in DATA is out of lock by that; the cause
of its notice is a free value. -/
def State.stepFail (s : State) (k : Nat) : State :=
  match (s.linkSt k).step with
  | none => s
  | some (old, new) =>
    let s1 := s.modLink k fun l => { l with step := none, ack := none }
    let back (t : State) (n : Nat) : State :=
      let t1 := t.setRate n old
      if t1.lane n = laneOff then t1
      else if t1.lane n = laneData ∨ t1.lane n = laneIdle then
        (let (f, t2) := t1.fresh; t2.outOfLock n (Config.value f % 256) laneSearch)
      else t1.laneQuiet n laneSearch
    (((back (back s1 (2 * k)) (2 * k + 1)).sets LINK_STATUS.RATE_FAIL)).notice 0x06 (leBytes 1 k ++ leBytes 1 new)

/-- A rate step is complete when both lanes are in DATA at the new rate (R185, R186). -/
def State.stepDone (s : State) (k : Nat) : State :=
  match (s.linkSt k).step with
  | none => s
  | some (_, new) =>
    let ok (n : Nat) : Bool := s.inData n && s.rd (LINK_LANE_STATE.RATE n) == new
    if ok (2 * k) && ok (2 * k + 1) then s.modLink k fun l => { l with step := none } else s

/-- A lane enters DATA from HUNT or TRAIN: LANE_UP (R182, R204). -/
def State.laneUp (s : State) (n : Nat) : State :=
  let s1 := (s.setLane n laneData).setIf (s.on (LINK_LANE_STATE.MARGIN_LOW n)) LINK_STATUS.MARGIN_LOW
  ((s1.linkUpdate (n / 2)).stepDone (n / 2)).notice 0x02 (leBytes 1 n ++ leBytes 1 (s.rd (LINK_LANE_STATE.RATE n)))

/-! ## Training (R187 to R189) -/

/-- A lane enters TRAIN. -/
def State.startTraining (s : State) (n : Nat) : State :=
  let t : Training := ⟨s.rd (LINK_TAPS.REQ_ID n), 0, 0, 0, true, false, false, 0, 0, 0, 0, 0, 0, []⟩
  ((s.setLane n laneTrain).modLane n fun l => { l with training := some t }).linkSettle (n / 2)

/-- A lane's training replaced. -/
def State.setTraining (s : State) (n : Nat) (t : Training) : State := s.modLane n fun l => { l with training := some t }

/-- `n` further bits of the sequence x^7 + x^6 + 1 after the window `w` of the last seven, oldest first (R188). -/
def prbsRun : Nat → List Bool → List Bool
  | 0, _ => []
  | n + 1, w => let b := xor (w.getD 0 false) (w.getD 1 false); b :: prbsRun n (w.drop 1 ++ [b])

/-- The 424 PRBS bits of a PATTERN payload, bit 0 of each byte first (R188). -/
def prbsBits (p : List Byte) : List Bool := ((p.drop 7).take 53).flatMap fun b => (List.range 8).map fun i => bitN b.toNat i

/-- The PRBS errors of a block against the reference, and the reference after it. The first block that is not all zeros
seeds the reference with its first seven bits. -/
def prbsCheck (ref : List Bool) (p : List Byte) : Nat × List Bool :=
  let got := prbsBits p
  let seed := got.take 7
  if ref = [] ∧ !seed.contains true then (424, [])
  else
    let want := if ref = [] then seed ++ prbsRun 417 seed else prbsRun 424 ref
    (((List.zipWith xor got want).filter id).length, want.drop 417)

/-- The taps that the host reports in a PATTERN block (R188, R208). -/
def State.hostTaps (s : State) (n : Nat) (p : List Byte) : State :=
  (((s.wr (LINK_TAPS.PRE n) (u8 p 2 % 32)).wr (LINK_TAPS.MAIN n) (u8 p 3 % 32)).wr (LINK_TAPS.POST n) (u8 p 4 % 32)).wr
    (LINK_TAPS.REQ_ID n) (u8 p 1)

/-- The eye reaches the target (R189): 60 mV in units of 4 mV, 0.40 UI in units of 1/256. -/
def eyeGood (t : Training) : Bool := 15 ≤ t.eyeH && 103 ≤ t.eyeW && t.errs == 0

/-- DONE is to be sent (R187, R189): the request changes to HOLD, the lane has trained at its rate. -/
def State.sendDone (s : State) (n : Nat) (t : Training) (low : Bool) : State :=
  let t1 := { t with done := true, reqId := (t.reqId + 1) % 256, pre := 0, main := 0, post := 0, echoed := false }
  let s1 := ((s.setTraining n t1).trainEnd n t1).modLane n fun l =>
    { l with trainedAt := s.rd (LINK_LANE_STATE.RATE n) :: l.trainedAt.filter (· != s.rd (LINK_LANE_STATE.RATE n)) }
  (((s1.showTrained n).wrB (LINK_LANE_STATE.MARGIN_LOW n) low).setIf low LINK_STATUS.MARGIN_LOW).pushTap

/-- A tap move for a reported code: past its limit it is HOLD (R188). -/
def tapMove (choice code : Nat) : Nat :=
  let m := choice % 3
  if (m = 1 ∧ bitN code 7) ∨ (m = 2 ∧ bitN code 6) then 0 else m

/-- The measurement of a lane's eye: free values (R189). -/
def State.measureEye (s : State) (t : Training) : Training × State :=
  let (f, s1) := s.fresh
  ({ t with eyeH := Config.value f % 256, eyeW := Config.value (f + 1) % 256 }, { s1 with free := s1.free + 1 })

/-- The judgement after 64 PATTERN blocks: DONE, or a new request whose moves the device chooses (R188, R189). -/
def State.judgeLane (s : State) (n : Nat) (t : Training) (p : List Byte) : State :=
  let (t1, s1) := s.measureEye t
  if eyeGood t1 then s1.sendDone n t1 false
  else
    let (f, s2) := s1.fresh
    let mv (i : Nat) : Nat := tapMove (Config.value (f + i)) (u8 p (2 + i))
    (({ s2 with free := s2.free + 2 }).setTraining n
      { t1 with reqId := (t1.reqId + 1) % 256, pre := mv 0, main := mv 1, post := mv 2, echoed := false, blocks := 0, errs := 0 }).pushTap

/-- A PATTERN block on a lane in TRAIN (R188, R189). -/
def State.patternTrain (s : State) (n : Nat) (t : Training) (p : List Byte) : State :=
  let (e, ref) := prbsCheck t.prbs p
  let echoed := t.echoed || u8 p 1 == t.reqId
  let t1 := { t with echoed := echoed, prbs := ref, blocks := if echoed then t.blocks + 1 else 0, errs := if echoed then t.errs + e else 0,
                     allErrs := if t.done then t.allErrs else t.allErrs + e, clean := if e = 0 then t.clean + 1 else 0 }
  if t.done then (if t.sent && bitN (u8 p 5) 0 then s.laneUp n else s.setTraining n t1)
  else if t1.blocks = 64 then s.judgeLane n t1 p
  else s.setTraining n t1

/-- A valid block on a lane in HUNT (R182). -/
def State.huntBlock (s : State) (n : Nat) (pattern : Bool) : State :=
  let l := s.laneSt n
  if l.hunt < 15 then s.modLane n fun l => { l with hunt := l.hunt + 1, huntPat := l.huntPat && pattern }
  else if l.huntPat && pattern && !s.on (LINK_LANE_STATE.TRAINED n) then s.startTraining n
  else s.laneUp n

/-! ## Blocks as received (R181, R182) -/

/-- A block slot of a lane in DATA is recorded (R182). -/
def State.slotSeen (s : State) (n : Nat) (bad : Bool) : State := s.modLane n fun l => { l with slots := (bad :: l.slots).take 16 }

/-- The second EI_EXIT block of an exit burst is missing (R198). -/
def State.exitBroken (s : State) (n : Nat) : Bool := s.inData n && (s.laneSt n).exits == 1

/-- One CUT entry (R195, R196, R296). -/
def State.cutEntry (s : State) (k : Nat) (e : List Byte) : State :=
  let w := bits (u8 e 0) 0 4
  let y0 := u16 e 1 % 1024
  let y1 := u16 e 3 % 1024
  let g0 := u8 e 5 % 128
  let g1 := u8 e 6 % 128
  if !bitN (u8 e 0) 7 then s.cutFrom .linkA w (s.cutView w) .clear
  else if cutEmpty y0 y1 g0 g1 then
    ((s.inc (LINK_PKT.CUT_BAD k)).sets LINK_STATUS.CUT_BAD).notice 0x05 (leBytes 1 k ++ leBytes 1 w)
  else if s.safety ≠ 0 then s
  else s.cutFrom .linkA w (s.cutView w) (.set ⟨y0, y1, g0, g1⟩)

/-- A CUT list acts as its block is received (R196): not on an unused lane nor on a DOWN link. One with a bad N counts in DISCARD
for that, and once more if the block is stale or of wrong parity (R190, R191, DESIGN CHOICE, log entry 76). -/
def State.cutList (s : State) (b : Blk) : State :=
  let k := b.lane / 2
  let l := s.linkSt k
  if (l.mode ≠ 0 ∧ b.lane ≠ stripeLane k l.mode) ∨ (l.mode = 0 ∧ s.link k = linkDown) then s
  else
    let n := u8 b.payload 1
    if n = 0 ∨ 7 < n then s.discard k
    else (List.range n).foldl (fun (t : State) i => t.cutEntry k ((b.payload.drop (2 + 8 * i)).take 8)) s

/-- A RATE_GO that matches the last RATE_ACK of its link (R197); the second lane's matches the step in progress. -/
def State.goMatches (s : State) (n r : Nat) : Bool :=
  let l := s.linkSt (n / 2)
  l.ack == some r || (match l.step with | some (_, new) => new == r && s.rd (LINK_LANE_STATE.RATE n) != new | none => false)

/-- RATE_GO: the lane switches its receiver at the end of its block (R182, R185). -/
def State.rateGo (s : State) (n r : Nat) : State :=
  if !s.goMatches n r then s
  else
    let k := n / 2
    let old := s.rd (LINK_LANE_STATE.RATE n)
    let s1 := s.modLink k fun l => { l with ack := none, step := if l.step.isSome then l.step else some (old, r) }
    ((s1.setLane n laneSearch).setRate n r).linkSettle k

/-- The block counts for its lane's receiver: in sequence or on the unused lane (R190 to R192). -/
def State.acceptable (s : State) (b : Blk) : Bool :=
  let k := b.lane / 2
  let l := s.linkSt k
  if l.mode ≠ 0 ∧ b.lane ≠ stripeLane k l.mode then true
  else if l.mode = 0 ∧ s.link k = linkDown then false
  else !s.stale k b.seq && (l.mode != 0 || s.link k == linkLame || b.seq % 2 == b.lane % 2)

/-- A valid block other than PATTERN and EI_EXIT on a lane in DATA, with the actions that do not wait for sequence. -/
def State.dataBlock (s : State) (b : Blk) : State :=
  let s1 := if b.header = 0x7C ∧ u8 b.payload 0 = 2 then s.cutList b else s
  let acts := s.acceptable b
  let s2 := s1.routeBlock b
  if b.header = 0xDC ∧ u8 b.payload 0 = 3 ∧ acts then s2.rateGo b.lane (u8 b.payload 1)
  else if b.header = 0xDC ∧ u8 b.payload 0 = 7 ∧ acts ∧ s2.inData b.lane then s2.startTraining b.lane
  else s2

/-- The octets of a block after its header: SEQ, 60 payload bytes, CRC (R180). -/
def blockTail (header seq : Nat) (payload : List Byte) : List Byte :=
  let p := (payload ++ List.replicate 60 0).take 60
  leBytes 1 seq ++ p ++ leBytes 2 (crc16 (leBytes 1 header ++ leBytes 1 seq ++ p))

/-- A lane in lock has received a valid block: its running disparity follows (R178). -/
def State.symbolsSeen (s : State) (n header seq : Nat) (payload : List Byte) : State :=
  if s.lane n = laneOff ∨ s.lane n = laneSearch then s
  else s.modLane n fun l => { l with rd := (encodeAll l.rd (blockSymbols header (blockTail header seq payload))).2 }

/-- A valid block as a lane receives it (R181, R182). -/
def State.block (s : State) (b : Blk) : State :=
  let n := b.lane
  let pattern := b.header == 0xDC && u8 b.payload 0 == 1
  if !s.daelo.rxOn ∨ 3 < n then s
  else if s.lane n = laneHunt then (if pattern then s.hostTaps n b.payload else s).huntBlock n pattern
  else if s.lane n = laneTrain then
    (if !pattern then s
     else match (s.laneSt n).training with
       | some t => (s.hostTaps n b.payload).patternTrain n t b.payload
       | none => s)
  else if s.lane n = laneData then
    (if s.exitBroken n then s.outOfLock n 0 laneSearch
     else if pattern then s.slotSeen n false
     else (s.slotSeen n false).dataBlock b)
  else s

/-- A block event: header octet, lane, SEQ and payload. -/
def doBlock (header lane seq : Nat) (payload : List Byte) (s : State) : State :=
  if !s.daelo.rxOn ∨ 3 < lane then s
  else (s.symbolsSeen lane header seq payload).block ⟨lane, header, seq % 256, (payload ++ List.replicate 60 0).take 60⟩

/-- A lane leaves IDLE by the header of the first EI_EXIT block: it is in lock, in DATA (R198). A transmitter starts from
electrical idle with negative disparity, and 16 commas keep it (R178). -/
def State.exitIdle (s : State) (n : Nat) : State :=
  let s1 := (s.setLane n laneData).modLane n fun l => { l with exits := 1, rd := false }
  (s1.linkUpdate (n / 2)).setIf (s.on (LINK_LANE_STATE.MARGIN_LOW n)) LINK_STATUS.MARGIN_LOW

/-- An EI_EXIT block that no exit burst explains: nothing, but on the lane in DATA of a DOWN dual link it counts (R184). -/
def State.strayExit (s : State) (n : Nat) : State :=
  if (s.linkSt (n / 2)).mode = 0 ∧ s.link (n / 2) = linkDown then (s.slotSeen n false).discard (n / 2) else s.slotSeen n false

/-- EI_EXIT (R198). -/
def doEiExit (n seq : Nat) (p : List Byte) (s : State) : State :=
  if !s.daelo.rxOn ∨ 3 < n then s
  else if s.lane n = laneIdle then (s.exitIdle n).symbolsSeen n 0xDC seq p
  else
    let s1 := s.symbolsSeen n 0xDC seq p
    if s.exitBroken n then (s1.slotSeen n false).modLane n fun l => { l with exits := 0 }
    else if s.lane n = laneHunt then s1.huntBlock n false
    else if s.lane n = laneData then s1.strayExit n
    else s1

/-- A TRAIN block event: byte 0 of its payload is the subtype, which its command is to give; a reserved one is a block of that
subtype (R197, log entry 74). -/
def doTrainBlock (lane seq : Nat) (payload : List Byte) (s : State) : State :=
  if u8 payload 0 = 6 then doEiExit lane seq payload s else doBlock 0xDC lane seq payload s

/-- The counters of an invalid block slot (R208). -/
def State.countInvalid (s : State) (n : Nat) (v : SlotView) : State :=
  let s1 := s.incBy (LINK_CV.CV n) v.bad
  if v.hdr then s1.inc (LINK_BLK.HDR n) else if v.crcOnly then s1.inc (LINK_BLK.CRC n) else s1

/-- The receiver's disparity after a slot (R178). -/
def State.setRd (s : State) (n : Nat) (v : SlotView) : State := s.modLane n fun l => { l with rd := v.rd }

/-- INVALID_BLOCK (R182, R190, R198, R208): the 64 groups of a slot that holds no valid block. On a lane in IDLE it is the first
EI_EXIT block: the lane is in lock, and the slot is counted, if its header is recognised. -/
def doInvalidBlock (n : Nat) (groups : List Nat) (s : State) : State :=
  let v := slotView (if s.lane n = laneIdle then false else (s.laneSt n).rd) groups
  if !s.daelo.rxOn ∨ 3 < n ∨ !v.defect then s
  else if s.lane n = laneIdle then (if v.header then s.countInvalid n v else s).outOfLock n 0 laneSearch
  else if s.lane n = laneHunt then (s.setRd n v).modLane n fun l => { l with hunt := 0, huntPat := true }
  else if s.lane n = laneTrain then
    (s.setRd n v).modLane n fun l => { l with training := l.training.map fun t =>
      if t.prbs = [] then t else { t with prbs := (prbsRun 424 t.prbs).drop 417 } }
  else if s.lane n = laneData then
    let s3 := (((s.countInvalid n v).setRd n v).slotSeen n true).lossEvent (n / 2)
    if s.exitBroken n ∨ 4 ≤ ((s3.laneSt n).slots.filter id).length then s3.outOfLock n 0 laneSearch else s3
  else s

/-- LOSS_OF_SIGNAL (R182, R183): `squelch` when the amplitude is below the squelch threshold, which is electrical idle that no
EI_ENTER announced, cause 3; else there are no transitions, cause 1 (R204; DEDUCED, log entry 37). -/
def doLossOfSignal (n : Nat) (squelch : Bool) (s : State) : State :=
  if !s.daelo.rxOn ∨ 3 < n then s
  else if s.lane n = laneData then s.outOfLock n (if squelch then 3 else 1) laneSearch
  else if s.lane n = laneHunt ∨ s.lane n = laneTrain then s.laneQuiet n laneSearch
  else s

/-- COMMA_RUN (R182). The disparity that the run leaves is the transmitter's, of which the event says nothing: a free value
(log entry 38). -/
def doCommaRun (n : Nat) (s : State) : State :=
  if s.daelo.rxOn ∧ n ≤ 3 ∧ s.lane n = laneSearch then
    (let (f, s1) := s.fresh; (s1.setLane n laneHunt).modLane n fun l => { l with rd := Config.bit f })
  else s

/-- HUNT_TIMEOUT (R182). -/
def doHuntTimeout (n : Nat) (s : State) : State := if n ≤ 3 ∧ s.lane n = laneHunt then s.setLane n laneSearch else s

/-- TRAIN_TIMEOUT (R189). -/
def doTrainTimeout (n : Nat) (s : State) : State :=
  match (s.laneSt n).training with
  | none => s
  | some t =>
    if 3 < n ∨ t.done then s
    else
      let (t1, s1) := s.measureEye t
      if t1.allErrs = 0 ∨ 256 ≤ t1.clean then s1.sendDone n t1 true
      else
        let s2 := s1.modLane n fun l => { l with training := some t1 }
        if (s.linkSt (n / 2)).step.isSome then s2.stepFail (n / 2)
        else ((s2.laneQuiet n laneSearch).sets LINK_STATUS.RATE_FAIL).notice 0x06
          (leBytes 1 (n / 2) ++ leBytes 1 (s.rd (LINK_LANE_STATE.RATE n)))

/-- TAP_REQ_REPEAT (R188, R202): a request not echoed within 20 us is repeated. -/
def doTapReqRepeat (n : Nat) (s : State) : State :=
  match (s.laneSt n).training with
  | some t => if t.echoed then s else s.pushTap
  | none => s

/-- RATE_STEP_TIMEOUT (R186). -/
def doRateStepTimeout (k : Nat) (s : State) : State := if 1 < k then s else s.stepFail k

/-- EI_EXIT_TIMEOUT (R198): the cause of the notice is a free value. -/
def doEiExitTimeout (n : Nat) (s : State) : State :=
  if n ≤ 3 ∧ s.lane n = laneIdle then (let (f, s1) := s.fresh; s1.outOfLock n (Config.value f % 256) laneSearch) else s

/-- IDLE_RETENTION_EXPIRY (R199). -/
def doIdleRetentionExpiry (n : Nat) (s : State) : State :=
  if n ≤ 3 ∧ s.lane n = laneIdle then s.outOfLock n 4 laneSearch else s

/-- DESKEW_WAIT_EXPIRY (R191): the earlier block is delivered alone, and its partner will be late. -/
def doDeskewWaitExpiry (k : Nat) (s : State) : State :=
  match (s.linkSt k).waiting with
  | none => s
  | some _ => s.flush k

/-! ## Lane enables (R200) -/

/-- The last LANE_LOSS notice of a lane, which still waits, names cause 2. -/
def State.lossByHost (s : State) (n : Nat) : State :=
  s.modRl fun r =>
    match r.loss.reverse.findIdx? fun p => p.take 2 == leBytes 1 1 ++ leBytes 1 n with
    | some i => { r with loss := r.loss.modify (r.loss.length - 1 - i) fun p => p.set 2 2 }
    | none => r

/-- A lane's enable bit is cleared. Commands between which no time passes share a core cycle (log entry 22): a loss of lock
detected in that of the disable is one event with it, with cause 2. -/
def State.laneDisable (s : State) (n : Nat) : State :=
  let st := s.lane n
  if st = laneOff then s
  else
    let s1 := if st = laneData ∨ st = laneIdle then s.outOfLock n 2 laneOff
      else if (s.laneSt n).lost = some s.cycle then (s.lossByHost n).laneQuiet n laneOff
      else s.laneQuiet n laneOff
    s1.stepFail (n / 2)

/-- A lane's enable bit is set. -/
def State.laneEnable (s : State) (n : Nat) : State := if s.lane n = laneOff then s.setLane n laneSearch else s

/-! ## The return lane (R202, R203) -/

/-- The return lane starts, at boot or when RL_EN is set again: 64 commas first (R202), with negative disparity (R178). -/
def State.rlStart (s : State) : State := s.modRl fun r => { r with running := true, count := 0, commas := 64, rd := false }

/-- RL_EN is cleared: items are kept, TAP_REQ blocks are not (R202). -/
def State.rlStop (s : State) : State :=
  s.modRl fun r => { r with running := false, commas := 0, train := r.train.filter fun i => i != .tapReq }

/-- `LINK_CTRL` has been written; `old` is its word before (R200, R202). -/
def State.linkCtrlWritten (s : State) (old : Word) : State :=
  let s1 := (List.range 4).foldl (fun (t : State) n =>
    let was := bitN old.toNat n
    let now := bitN (s.rd LINK_CTRL.LANE_EN) n
    if was && !now then t.laneDisable n else if now && !was then t.laneEnable n else t) s
  let on := s.on LINK_CTRL.RL_EN
  if s1.daelo.rl.running && !on then s1.rlStop
  else if on && !bitN old.toNat 4 && s1.daelo.rxOn then s1.rlStart
  else s1

/-- The TAP_REQ payload as it stands (R187). -/
def State.tapPayload (s : State) : List Byte :=
  let entry (n : Nat) : List Byte := match (s.laneSt n).training with
    | some t => leBytes 1 (t.pre + 4 * t.main + 16 * t.post + (if t.done then 64 else 0) + 128) ++ leBytes 1 t.reqId
    | none => leBytes 2 0
  let eye (n : Nat) : List Byte := match (s.laneSt n).training with
    | some t => leBytes 1 t.eyeH ++ leBytes 1 t.eyeW
    | none => leBytes 2 0
  leBytes 1 0x11 ++ (List.range 4).flatMap entry ++ (List.range 4).flatMap eye

/-- The payload of a TICK block (R203). -/
def State.tickPayload (s : State) : List Byte :=
  let n := s.tickCount
  leBytes 4 n ++ leBytes 8 s.tick.tstamp.toNat ++ leBytes 1 ((n + 1) % 256)
    ++ leBytes 1 (s.safety + (if s.on TICK_STATUS.REPEAT then 4 else 0) + (if s.faultN then 8 else 0))
    ++ leBytes 1 (s.link 0 + 8 * s.link 1)
    ++ leBytes 1 ((if [1, 2, 3].contains (s.rd SAFE_GUARD_STAT.LAST) then 1 else 0) + (if [1, 2, 4].contains (s.rd SAFE_GUARD_STAT.LAST) then 2 else 0))

/-- The item that the next block carries: header octet and payload, and the items left (R202). -/
def State.rlPick (s : State) : Nat × List Byte × RlSt :=
  let r := s.daelo.rl
  match r.tick with
  | some p => (0xFB, p, { r with tick := none })
  | none => match r.loss with
    | p :: rest => (0x7C, leBytes 1 3 ++ p, { r with loss := rest })
    | [] => match r.train with
      | .tapReq :: rest => (0xDC, s.tapPayload, { r with train := rest })
      | .bytes p :: rest => (0xDC, p, { r with train := rest })
      | [] => match r.ctl with
        | .notice p :: rest => (0x7C, leBytes 1 3 ++ p, { r with ctl := rest })
        | .reply n bs begun :: rest =>
          let part := bs.take 57
          let left := bs.drop 57
          let fl := (if begun then 0 else 1) + (if left = [] then 2 else 0)
          (0x7C, leBytes 1 1 ++ leBytes 1 fl ++ leBytes 1 part.length ++ part,
            { r with ctl := if left = [] then rest else .reply n left true :: rest })
        | [] => (0x9C, [], r)

/-- The 64 octets of a block (R180). -/
def blockBytes (header seq : Nat) (payload : List Byte) : List Byte := leBytes 1 header ++ blockTail header seq payload

/-- The symbols of a burst of commas and the block after it. -/
def burstSymbols (commas header seq : Nat) (payload : List Byte) : List (Bool × Nat) :=
  List.replicate commas (true, 0xBC) ++ blockSymbols header (blockTail header seq payload)

/-- A TAP_REQ has been sent: the DONE of each lane that it carries is sent (R182, R187). -/
def State.doneSent (s : State) : State :=
  { s with daelo := { s.daelo with lanes := s.daelo.lanes.map fun l =>
      { l with training := l.training.map fun t => { t with sent := t.sent || t.done } } } }

/-- RL_BLOCK_BOUNDARY (R202). -/
def doRlBlockBoundary (s : State) : State :=
  if !s.daelo.rl.running then s
  else
    let (h, p, r) := s.rlPick
    let wrap := r.count == 1023
    let commas := r.commas + (if s.on LINK_RL_CFG.BURST then 64 else 0)
    let (gs, rd) := encodeAll r.rd (burstSymbols commas h r.seq p)
    let s1 := (s.modRl fun _ => { r with
      out := blockBytes h r.seq p, outCommas := commas, groups := gs, rd := rd, seq := (r.seq + 1) % 256
      count := if wrap then 0 else r.count + 1, commas := if wrap then 16 else 0 }).wr LINK_RL_CFG.BURST 0
    if h = 0xDC ∧ u8 p 0 = 0x11 then s1.doneSent else s1

end Sys2Proof.Machine
end

