-- ==== Sys2Proof/Machine/Taster.lean ====
section
/-!
DEFINITION. The taster: reconciliation of the two guard copies and its supervision (R194, R214 to R220).
-/
namespace Sys2Proof.Machine

/-- Cells of a segment (R194): the last one carries 48. -/
def segCells (seg : Nat) : Nat := if seg = 1462 then 48 else 56

/-- A copy as a plane, or none if a segment is missing (R194). -/
def copyPlane (c : List (Nat × List Byte)) : Option (List (List Byte)) :=
  if (List.range 1463).all fun i => c.any fun e => e.1 == i then
    some ((List.range 1463).map fun i => match c.find? (·.1 == i) with | some e => e.2.take (segCells i) | none => [])
  else none

/-- The smaller of two cells (R216). -/
def cellMin (a b : Byte) : Byte := if a.toNat ≤ b.toNat then a else b

/-- The minimum of two planes. -/
def planeMin (a b : List (List Byte)) : List (List Byte) := List.zipWith (List.zipWith cellMin) a b

/-- The number of cells that differ by more than a tolerance (R217). -/
def planeDiff (tol : Nat) (a b : List (List Byte)) : Nat :=
  ((List.zipWith (fun x y => ((List.zipWith (fun u v => decide (tol < max u.toNat v.toNat - min u.toNat v.toNat)) x y).filter id).length)) a
    b).sum

/-- Run limits as used (R246). -/
def State.discLimit (s : State) : Nat := max 1 (s.rd SAFE_GUARD_LIM.DISC_FRAMES)
def State.singleLimit (s : State) : Nat := s.rd SAFE_GUARD_LIM.SINGLE_MAX
def State.holdLimit (s : State) : Nat := min 8 (s.rd SAFE_GUARD_CFG.HOLD)

/-- The reconciled guard of the coming frame. -/
def State.setGuard (s : State) (g : List (List Byte)) : State := { s with safe := { s.safe with guardNext := g } }

/-- The runs are stored, saturated, and those beyond their limits raise their causes (R218, R220). `disc`, `single` and
`hold` are the runs before saturation; an unchanged run cannot exceed anew. -/
def State.setRuns (s : State) (disc single hold past : Nat) : State :=
  let s1 := ((s.wr SAFE_GUARD_STAT.DISC_RUN (min 15 disc)).wr SAFE_GUARD_STAT.SINGLE_RUN (min 255 single)).wr SAFE_GUARD_STAT.HOLD_RUN
    (min 15 hold)
  if past = 0 then s1
  else ({ s1 with safe := { s1.safe with guardPresent := Nat.lor s1.safe.guardPresent past } }).raise past

/-- Both copies are complete (R216, R217). -/
def State.tasteBoth (s : State) (a b : List (List Byte)) : State :=
  let d := planeDiff (s.rd SAFE_GUARD_LIM.TOL) a b
  let s1 := (s.setGuard (planeMin a b)).wr SAFE_GUARD_DIFF.CELLS d
  if d = 0 then
    let s2 := s1.wr SAFE_GUARD_STAT.LAST 1
    ({ s2 with safe := { s2.safe with guardPresent := 0 } }).setRuns 0 0 0 0
  else
    let run := s.rd SAFE_GUARD_STAT.DISC_RUN + 1
    ((((s1.wr SAFE_GUARD_STAT.LAST 2).sets SAFE_STATUS.DISC_EV).inc SAFE_GUARD_CNT.DISC).setRuns run 0 0
      (if s.discLimit < run then cause 4 else 0))

/-- One copy is complete: `last` is 3 on A, 4 on B (R216). -/
def State.tasteSingle (s : State) (g : List (List Byte)) (last : Nat) : State :=
  let run := s.rd SAFE_GUARD_STAT.SINGLE_RUN + 1
  (((((s.setGuard g).wr SAFE_GUARD_STAT.LAST last).sets SAFE_STATUS.SINGLE_EV).inc SAFE_GUARD_CNT.SINGLE).setRuns
    (s.rd SAFE_GUARD_STAT.DISC_RUN) run 0 (if s.singleLimit < run then cause 5 else 0))

/-- No copy is complete: the guard of the previous frame is held (R216). -/
def State.tasteHeld (s : State) : State :=
  let single := s.rd SAFE_GUARD_STAT.SINGLE_RUN + 1
  let hold := s.rd SAFE_GUARD_STAT.HOLD_RUN + 1
  ((((s.wr SAFE_GUARD_STAT.LAST 5).sets SAFE_STATUS.HOLD_EV).inc SAFE_GUARD_CNT.SINGLE).setRuns
    (s.rd SAFE_GUARD_STAT.DISC_RUN) single hold
    ((if s.singleLimit < single then cause 5 else 0) + (if s.holdLimit < hold then cause 6 else 0)))

/-- The reconciliation of a pair of copies (R216 to R219): before supervision starts the guard is 0. -/
def State.taste (s : State) (a b : Option (List (List Byte))) : State :=
  let s1 := s.setIf (a.isSome || b.isSome) SAFE_STATUS.GUARD_ACTIVE
  match a, b with
  | some x, some y => s1.tasteBoth x y
  | some x, none => s1.tasteSingle x 3
  | none, some y => s1.tasteSingle y 4
  | none, none => if s.on SAFE_STATUS.GUARD_ACTIVE then s1.tasteHeld else s1.setGuard []

/-- The filling buffers become the copies (R194). -/
def State.takeCopies (s : State) : State :=
  { s with daelo := { s.daelo with pastDeadline := true, links := s.daelo.links.map fun (l : LinkSt) => { l with copy := l.filling, filling := [] } } }

/-- The guard deadline: copies, reconciliation, monitors (R194, R216, R426). -/
def State.guardTasted (s : State) : State :=
  if s.daelo.pastDeadline then s
  else
    let s1 := s.takeCopies
    (s1.taste (copyPlane (s1.linkSt 0).copy) (copyPlane (s1.linkSt 1).copy)).gatherGuard

/-- What SLEEP takes from the taster (R219). -/
def State.tasterDiscard (s : State) : State :=
  let s1 := { s with
    safe := { s.safe with guardNext := [], guardDisp := [] }
    daelo := { s.daelo with links := s.daelo.links.map fun (l : LinkSt) => { l with copy := [], filling := [] } } }
  ((((s1.wr SAFE_GUARD_STAT.DISC_RUN 0).wr SAFE_GUARD_STAT.SINGLE_RUN 0).wr SAFE_GUARD_STAT.HOLD_RUN 0).wr SAFE_STATUS.GUARD_ACTIVE 0).wr
    SAFE_GUARD_STAT.LAST 0

end Sys2Proof.Machine
end

