-- ==== Sys2Proof/Machine/Tick.lean ====
section
/-!
DEFINITION. The frame tick, its sources and the start of the prediction pass (R32 to R50, R203, R232, R345, R374, R440,
R448, R501).
-/
namespace Sys2Proof.Machine

/-! ## FSYNC (R44 to R47) -/

/-- The tracker's state replaced. -/
def State.setFs (s : State) (f : FsyncSt → FsyncSt) : State := { s with tick := { s.tick with fs := f s.tick.fs } }

/-- The state of the tracker, with its code in `TICK_STATUS`; leaving LOCKED clears FSYNC_LOCK (R47). -/
def State.fsGo (s : State) (st : Nat) : State :=
  let s1 := (s.setFs fun f => { f with st := st, lockCnt := if st = 2 then f.lockCnt else 0 }).wr TICK_STATUS.FSYNC_STATE st
  if st = 2 then s1 else s1.wr TICK_STATUS.FSYNC_LOCK 0

/-- An edge at `now` is valid (R44): its interval is within 5 % of 1 / FRAME_HZ and keeps f_SF legal. -/
def State.fsValid (s : State) : Bool :=
  match s.tick.fs.lastEdge with
  | none => false
  | some t =>
    let d := s.now - t
    95000000000 ≤ d * s.tick.hz * 100 && d * s.tick.hz * 100 ≤ 105000000000
      && 400 * d ≤ s.tick.nsf * 1000000000 && s.tick.nsf * 1000000000 ≤ 1920 * d

/-- The lock indication after a valid edge in LOCKED (R47). -/
def State.fsLock (s : State) (e : Int) : State :=
  if 20000 < e.natAbs then (s.setFs fun f => { f with lockCnt := 0 }).wr TICK_STATUS.FSYNC_LOCK 0
  else if 5000 < e.natAbs then s.setFs fun f => { f with lockCnt := 0 }
  else
    let s1 := s.setFs fun f => { f with lockCnt := f.lockCnt + 1 }
    s1.setIf (4 ≤ s1.tick.fs.lockCnt) TICK_STATUS.FSYNC_LOCK

/-- A valid edge in each state of the tracker (R45): `e` is its phase error. After FSYNC_LOST the two valid edges need not
be consecutive: `valid` counts on over an edge that is not valid. -/
def State.fsEdgeValid (s : State) (e : Int) : State :=
  let f := s.tick.fs
  let s1 := (s.setFs fun f => { f with err := e, fresh := true, valid := f.valid + 1 }).wrI TICK_FSYNC_ERR.ERR e
  if f.st = 1 then
    (if 2 ≤ f.valid + 1 ∧ f.stretch = 0 then s1.setFs fun f => { f with stretch := 1 } else s1)
  else if f.st = 2 then
    (if 1000000 < e.natAbs then (s1.fsGo 1).setFs fun f => { f with valid := 0, stretch := 0 } else s1.fsLock e)
  else if f.st = 3 then
    (if f.misses < 3 then
      (if e.natAbs * 10 ≤ s.tick.frameLen then ((s1.fsGo 2).setFs fun f => { f with misses := 0 }).fsLock e else s1)
     else if 2 ≤ f.valid + 1 then (s1.fsGo 1).setFs fun f => { f with valid := 0, stretch := 0, misses := 0 }
     else s1)
  else s1

/-- The tracker waits in HOLDOVER, FSYNC_LOST set, for two valid edges (R45). -/
def FsyncSt.lost (f : FsyncSt) : Bool := f.st == 3 && f.misses == 3

/-- FSYNC_EDGE: an active edge on FSYNC (R44, R45, R47). An edge that is not valid is ignored: it ends a run of
consecutive valid edges of SEARCH, but by the model's choice (log entry 21) not the run of four of R47. -/
def doFsyncEdge (s : State) : State :=
  if s.tick.src ≠ 1 then s
  else
    let interval := s.now - s.tick.fs.lastEdge.getD s.now
    let s1 :=
      if s.fsValid then (s.fsEdgeValid ((s.now : Int) - s.nearTick)).setFs fun f => { f with interval := interval }
      else s.setFs fun f => { f with valid := if f.lost then f.valid else 0 }
    s1.setFs fun f => { f with lastEdge := some s.now }

/-- FSYNC_WINDOW_MISS: no valid edge came within 10 % of the period around the predicted tick (R45). -/
def doFsyncWindowMiss (s : State) : State :=
  if s.tick.src ≠ 1 then s
  else if s.tick.fs.st = 2 then (s.fsGo 3).setFs fun f => { f with misses := 1, valid := 0 }
  else if s.tick.fs.st = 3 then
    let m := min 3 (s.tick.fs.misses + 1)
    (s.setFs fun f => { f with misses := m, valid := if s.tick.fs.misses < 3 then 0 else f.valid }).setIf
      (m == 3 && s.tick.fs.misses == 2) TICK_STATUS.FSYNC_LOST
  else s

/-! ## The frame's length (R32, R35, R45, R46, R446, R448) -/

/-- ROLE as it stands after the commands that latch at this tick (R440). -/
def State.roleAtTick (s : State) : Nat :=
  s.cmd.tickCmds.foldl (fun r e => match e.2 with | .groupConfig role _ _ => role | _ => r) s.role

/-- The source of the coming frame and whether the setting is refused (R35, R440). -/
def State.pickSource (s : State) : Nat × Bool :=
  let follower := s.roleAtTick == 2
  let r := s.rd TICK_CTRL.SRC
  if r = 0 then (0, false) else if r = 1 then (1, false)
  else if r = 2 then (if follower then (2, false) else (0, true))
  else (if s.tick.src = 2 ∧ !follower then 0 else s.tick.src, true)

/-- A free-running frame: 40 ns units, with the fractional accumulator (R32, R43). -/
def State.freeFrame (s : State) : State :=
  let n := 25000000 + s.tick.frac
  { s with tick := { s.tick with frameLen := 40 * (n / s.tick.hz), frac := n % s.tick.hz } }

/-- A frame of a given length. -/
def State.frameOf (s : State) (len : Nat) : State := { s with tick := { s.tick with frameLen := len } }

/-- The stretched frame of acquisition (R45, R46): T_F to 2 T_F long, ending on a predicted edge. Where the first predicted
edge after T_F lies beyond 2 T_F, as it can with an interval above T_F, the frame is cut at 2 T_F (DESIGN CHOICE, log
entry 21). -/
def State.stretchLen (s : State) : Nat :=
  let tf := rdiv 1000000000 s.tick.hz
  let p := max 1 s.tick.fs.interval
  let edge := s.tick.fs.lastEdge.getD s.now
  min (rdiv 2000000000 s.tick.hz) (edge + cdiv (s.now + tf - edge) p * p - s.now)

/-- The frame that the FSYNC tracker begins (R45, R46). The state becomes LOCKED at the tick that ends the stretched frame
(DESIGN CHOICE, log entry 21). A frame with no edge since the last one keeps its period, within the limits of R33 for the
N_SF that it takes. -/
def State.fsyncFrame (s : State) : State :=
  let f := s.tick.fs
  let n := s.tick.nsf
  if f.st = 0 then ((s.setFs fun _ => FsyncSt.init).fsGo 1).freeFrame
  else
    let s0 := if f.st = 1 ∧ f.stretch = 2 then (s.fsGo 2).setFs fun f => { f with stretch := 0, misses := 0 } else s
    let g := s0.tick.fs
    if g.st = 1 then
      (if g.stretch = 1 then (s0.frameOf s0.stretchLen).setFs fun f => { f with stretch := 2 } else s0.freeFrame)
    else if g.st = 2 then
      (if g.fresh then (s0.frameOf (correctedPeriod n g.interval g.err 4 100)).setFs fun f => { f with fresh := false }
       else s0.frameOf (periodClamp n (if f.st = 1 then g.interval else s.tick.frameLen)))
    else s0.frameOf (periodClamp n s.tick.frameLen)

/-- The settings of the frame on display take the N_W of a hold frame, and with it the default ramp table (R59, R448). -/
def DispSet.forHold (d : DispSet) (nsf len : Nat) : DispSet :=
  let nW := cdiv (6 * 1024 * nsf * 1000000000) (1000000 * len)
  { d with nW := nW, ramp := if d.rampLoaded then d.ramp else defaultRamp nW }

/-- A hold frame (R448). -/
def State.holdFrame (s : State) (len : Nat) : State :=
  let d := s.pipe.disp.forHold s.tick.nsf len
  let s1 := s.frameOf len
  ({ s1 with tick := { s1.tick with hold := true }
             pipe := { s1.pipe with disp := d, cur := { s1.pipe.cur with ramp := d.ramp, nW := d.nW } } }).inc GROUP_CNT.HOLDS

/-- The frame that a follower begins (R446 to R448), by the state that its last valid edge gave. -/
def State.followFrame (s : State) : State :=
  let p := s.group.interval
  let n := s.tick.nsf
  let sync := s.rd GROUP_STATUS.SYNC
  let s1 := { s with group := { s.group with err := none } }
  match s.group.err with
  | some e =>
    if sync = 1 then s1.frameOf (correctedPeriod n p e 4 1000)
    else if sync = 2 then s1.frameOf (correctedPeriod n p e 1 100)
    else s1.holdFrame (holdClamp n (p - e))
  | none => if 1 ≤ sync ∧ sync ≤ 3 then s1.frameOf (periodClamp n p) else s1.freeFrame

/-- With another source than 2 the device does not follow: SYNC reads 0, unless it has lost its leader (R447, R456). -/
def State.unfollow (s : State) (src : Nat) : State :=
  if src = 2 ∨ s.rd GROUP_STATUS.SYNC = 4 then s
  else ({ s with group := { s.group with err := none } }).wr GROUP_STATUS.SYNC 0

/-- The source in force and the length of the frame that begins (R32, R35). -/
def State.nextFrame (s : State) : State :=
  let (src, bad) := s.pickSource
  let s1 := ({ s with tick := { s.tick with src := src, hold := false } }).setIf bad TICK_STATUS.RATE_REJECT
  let s2 := (if src = 1 then s1
    else if s1.tick.fs.st = 0 then s1 else (s1.setFs fun _ => FsyncSt.init).fsGo 0).unfollow src
  if src = 1 then s2.fsyncFrame else if src = 2 then s2.followFrame else s2.freeFrame

/-! ## Display settings (R41, R99, R104, R120, R501) -/

/-- The settings of R501, taken now unless the pass of this frame took them. -/
def State.takeSettings (s : State) : State :=
  if s.tick.taken then s
  else
    let s1 := s.latchTemps.sampleRate.rampReject
    { s1 with pipe := { s1.pipe with next := some (s1.settings (s1.therm.vals.take 16)) } }

/-- A new combination resets the free-running accumulator. -/
def State.applyRate (s : State) : State :=
  let (hz, nsf) := s.comingRate
  let frac := if hz = s.tick.hz then s.tick.frac else 0
  ({ s with tick := { s.tick with hz := hz, nsf := nsf, frac := frac } }).setIf s.tick.rateBad TICK_STATUS.RATE_REJECT

/-- The governor scale of the frame that begins: SCALE as it stands (R104, R105); S_LIMP x tau at every tick in LIMP and at
the first one in DARK (R120, R211, R232). -/
def State.tickScale (s : State) : Nat :=
  if s.safety = 0 then s.rd PIPE_GOV_SCALE.SCALE / 8 * 8
  else if s.safety = 1 ∨ s.pipe.limpTick then rdiv (s.rd PIPE_FILL_STATUS.LIMP_SCALE * s.rd THERM_THROTTLE.TAU) 32768
  else s.pipe.scale

/-- The references and code factors of the frame that begins, as far as they reach their floors (R69, R99): judged once the
buffers have changed roles and the fill unit has handed the face back. No code factor is applied while it drives the
whole face (log entry 27). -/
def State.floorFlags (s : State) : State :=
  let d := s.pipe.disp
  let scale := s.pipe.scale
  let any (f : Nat → Nat → Nat → Bool) : Bool := (List.range 16).any fun i =>
    f (d.base.getD i 0) (d.tc.getD i 0) (d.trim.getD i 0)
  (s.setIf (any fun b tc tr => refFloor b scale tc tr) ARRAY_STATUS.IREF_FLOOR).setIf
    (!s.wholeFill && any fun b tc tr => codeFactor b scale tc tr < 32768) PIPE_STATUS.FLOOR_CODE

/-- Step 2 of R42: the display settings of the frame that begins. -/
def State.latchDisplay (s : State) : State :=
  let s0 := if s.safety = 1 then { s with safe := { s.safe with limpTau := s.rd THERM_THROTTLE.TAU } } else s
  let s1 := s0.takeSettings.applyRate
  let d := s1.pipe.next.getD s1.pipe.disp
  let scale := s1.tickScale
  let w := if s1.tick.passDone then s1.pipe.nextTerms.w else s1.pipe.limpW
  let s2 := { s1 with
    array := { s1.array with litRamp := (s1.pipe.disp.ramp, s1.pipe.disp.nW) }
    pipe := { s1.pipe with disp := d, scale := scale, frame := s1.tickCount, limpTick := false
                           cur := ⟨w, d.effs scale, d.ramp, d.nW⟩ }
    since := { s1.since with clamped := false, ran := 0 }
    safe := { s1.safe with guardDisp := s1.safe.guardNext }
    tick := { s1.tick with
      darkLen := min 1000 (s1.rd TICK_DARK.LEN), darkOff := s1.rd TICK_DARK.OFFSET
      outMode := s1.rd TICK_OUT_CFG.MODE, outPol := s1.rd TICK_OUT_CFG.POL, outPulse := max 1 (s1.rd TICK_OUT_CFG.PULSE) } }
  s2.wrB ARRAY_RAMP_CTRL.IN_USE d.rampLoaded

/-- The tick pulses of TICK_OUT and, from a leader, GSYNC: leading edges 40 to 80 ns after the tick (R49, R440). -/
def State.tickPulses (s : State) : State :=
  let (n, s1) := s.fresh
  let (m, s2) := s1.fresh
  let a := s.now + 40 + Config.value n % 41
  let b := s.now + 40 + Config.value m % 41
  { s2 with
    tick := { s2.tick with outTick := some (a, a + 1000 * s.tick.outPulse), outDark := none }
    group := if s.leads then { s2.group with pulse := some (b, b + 1000), got := List.replicate 4 false } else s2.group }

/-! ## Buffers (R40, R42, R121, R148, R448, R469) -/

/-- A newly composed frame goes on display at this tick. -/
def State.swaps (s : State) : Bool := s.layer.composed && !s.tick.overrun && !s.tick.hold

/-- Step 3 of R42: the buffers change roles; otherwise what was composed is discarded. -/
def State.swapBuffers (s : State) : State :=
  if s.swaps then
    ((({ s with layer := { s.layer with composed := false }
                pipe := { s.pipe with noFrame := false, dispFresh := s.pipe.compFresh } }).wr
      LAYER_COMP_STATUS.DISPLAY_BUF s.backBuf).wr TICK_STATUS.REPEAT 0)
  else s.abandonComp.setIf s.tick.hold TICK_STATUS.REPEAT

/-- The fill unit hands the face back after a release (R121). -/
def State.endFill (s : State) : State :=
  if s.safety = 0 ∧ s.pipe.dispFresh ∧ s.on SAFE_STATUS.GUARD_ACTIVE ∧ s.tick.passDone then
    { s with pipe := { s.pipe with fillAll := false } }
  else s

/-! ## Commands that latch (R280) -/

/-- One command that waited for the tick takes effect and completes. -/
def State.latchCmd (s : State) (h : Nat) (c : Cmd) : State :=
  match c with
  | .regionSigSet k en check point x0 y0 x1 y1 expect => (s.sigLatch k en check point x0 y0 x1 y1 expect).finish h stOk []
  | .monitorConfig mon en log2 source shift x0 y0 x1 y1 frames =>
    (s.monLatch mon en log2 source shift x0 y0 x1 y1 frames).finish h stOk []
  | .groupConfig role member count => (s.groupLatch role member count).finish h stOk []
  | .satConfig len timing en tcomp => (s.satLatch len timing en tcomp).finish h stOk []
  | .satWrite first words => (s.satPut first words).finish h stOk []
  | .calibrate _ colours strips _ => s.calRestore h colours strips
  | _ => s

/-- Every command that waited for the tick, in order. -/
def State.latchCmds (s : State) : State :=
  s.cmd.tickCmds.foldl (fun t e => t.latchCmd e.1 e.2) { s with cmd := { s.cmd with tickCmds := [] } }

/-! ## Leads and the operating point (R36 to R38, R43, R215, R374) -/

/-- Pixels of a layer that fall to a compositor. -/
def LayerCfg.halfPixels (c : LayerCfg) (cp : Nat) : Nat :=
  c.w * (min (c.y0 + c.h) (320 * (cp + 1)) - max c.y0 (320 * cp))

/-- The composition time of a compositor in units of 1/16 ns at an operating point (R43). -/
def State.compTime (s : State) (op cp : Nat) : Nat :=
  let cyc := [8, 5, 4].getD op 4
  s.enabledActive.foldl (fun n e =>
    n + e.2.halfPixels cp * cyc * (if e.2.scaled || e.2.kind == 3 then 4 else 1)) 320000

/-- The point that automatic selection takes (R374). -/
def State.autoPoint (s : State) : Nat :=
  let limit := 7 * 16 * (1000000000 - min 2000 (s.rd TICK_LEAD.PRED_LEAD) * 1000 * s.tick.hz)
  let fits (op : Nat) : Bool := max (s.compTime op 0) (s.compTime op 1) * 10 * s.tick.hz ≤ limit
  if fits 0 then 0 else if fits 1 then 1 else 2

/-- Bound of the prediction pass in us (R36). -/
def passBound (op : Nat) : Nat := if op = 0 then 240 else if op = 1 then 130 else 100

/-- The leads of the coming frame, from the divider in force (R36 to R38, R215). A guard deadline that would fall before
the tick is taken at the tick (R39). -/
def State.fixLeads (s : State) : State :=
  let lead := max (min 2000 (s.rd TICK_LEAD.PRED_LEAD)) (passBound s.power.div)
  let dl := min (1000 * max (clampN 100 4000 (s.rd SAFE_GUARD_CFG.DEADLINE)) (lead + 20)) s.tick.frameLen
  ({ s with tick := { s.tick with deadline := dl }, daelo := { s.daelo with pastDeadline := false } }).wr TICK_LEAD.EFF_LEAD lead

/-! ## Fences (R270) -/

/-- A FENCE_TICK that was ready before the tick counts it; an absolute one is due at its count (R270). -/
def Fence.tick (ready : List Nat) (count : Nat) (f : Fence) : Fence :=
  match f.kind with
  | .plain => f
  | .relative left =>
    if ready.contains f.h then { f with kind := .relative (left - 1), due := f.due || left ≤ 1 } else f
  | .absolute v => { f with due := f.due || (f.waits.isEmpty && v == count) }

/-! ## The tick (R42) -/

/-- Ticks come: the reference has qualified and the device is neither asleep nor waking (R387, R390, R462). -/
def State.ticking (s : State) : Bool := 3 ≤ s.boot.stage && !s.sleeping

/-- Step 1 of R42, and the end of a dark slot that reaches its tick (R48). -/
def State.tickCounted (s : State) : State :=
  let s0 := doDarkSlotEnd s
  let s1 := if s0.tick.tickAt.isSome then s0.wr TICK_PERIOD.NS s0.tick.frameLen else s0
  ({ s1 with tick := { s1.tick with tstamp := s.tick.tb, tickAt := some s.now, slot := none } }).wr TICK_COUNT.COUNT (s.tickCount + 1)

/-- In LIMP, SF supplies the target of the LED supply at each tick (R382). -/
def State.limpTarget (s : State) : State :=
  if s.safety = 1 then
    let peak := ofMilliamp (clampN 100 12000 (s.rd SAFE_LIMP_CFG.BUDGET))
    let mv := s.vledTarget (max (s.limpClampRef 0) (s.limpClampRef 1)) peak
    ({ s with power := { s.power with tgtNow := mv, tgtNext := mv, handed := true, peak := peak } }).showTarget
  else s

/-- The fences at a tick: `ready` are those that were ready before it. -/
def State.fencesTick (s : State) (ready : List Nat) : State :=
  { s with cmd := { s.cmd with fences := s.cmd.fences.map (Fence.tick ready s.tickCount) } }

/-- The TICK block of the return lane: only the latest is kept (R202, R203). -/
def State.pushTick (s : State) : State := s.modRl fun r => { r with tick := some s.tickPayload }

/-- One byte per cell of the guard on display. -/
def State.guardBytes (s : State) : List Byte := (List.range 81920).map fun i => BitVec.ofNat 8 (guardCell s.safe.guardDisp i)

/-- The compositors copy the guard on display into bank 26 (R345). -/
def State.copyGuard (s : State) : State :=
  ((s.scanStep.sramWrite 0x1A90000 s.guardBytes).memOp 4 0 0x1A90000 40960 true).memOp 4 1 0x1A9A000 40960 true

/-- Nothing is known of the coming frame yet. -/
def State.openFrame (s : State) : State :=
  { s with
    tick := { s.tick with rateNext := none, rateBad := false, passRunning := false, passWait := false, passDone := false, taken := false, overrun := false }
    pipe := { s.pipe with next := none, govS := none } }

/-- What follows the five steps in the same event: operating point, monitors, latching commands, calibration,
satellites, fences, the TICK block and the guard copy (R37, R203, R231, R232, R280, R345, R374, R415, R428, R433, R453). -/
def State.afterTick (s : State) (ready : List Nat) (shown changed : Bool) : State :=
  let s2 := ((s.opTick s.autoPoint).monTick shown).sigTick shown
  let s3 := (s2.fixLeads.latchCmds.calTick changed).tickPulses.satTick
  ((s3.fencesTick ready).limpTarget.shedPhases.pushTick.copyGuard).openFrame

/-- The tick begins a core cycle: commands that came before it at the same instant belong to an earlier one, those after it
share its cycle, and so latch at the next tick (R42, DESIGN CHOICE, log entry 22). -/
def State.cycleBegin (s : State) : State := { s with cycle := s.cycle + 1 }

/-- TICK (R42). An accepted limp record replaces the held beam first, so that the frame that begins takes its S_LIMP
(R231, R232). The parity of what is latched is checked (R340). -/
def doTick (s : State) : State :=
  if !s.ticking then s
  else
    let ready := (s.cmd.fences.filter fun f => f.waits.isEmpty).map (·.h)
    let old := s.pipe.disp
    let s1 := s.cycleBegin.tickCounted.limpInstall.latchDisplay.nextFrame
    let shown := s1.swaps
    let s2 := (s1.swapBuffers.endFill.floorFlags.layersTick).sets TICK_STATUS.TICK_EV
    let d := s2.pipe.disp
    (s2.afterTick ready shown (decide (old.hz ≠ d.hz ∨ old.nsf ≠ d.nsf ∨ old.ramp ≠ d.ramp))).sweepParity

/-! ## The start of the prediction pass (R36, R40, R501) -/

/-- The composition is judged (R40): one that is not on time is abandoned and counted, unless no composed frame has been
on display yet (R469). -/
def State.judgeComposition (s : State) : State :=
  if s.layer.composed then s
  else
    let s1 := s.abandonComp
    let s2 := { s1 with tick := { s1.tick with overrun := true } }
    if s2.pipe.noFrame then s2 else ((s2.sets TICK_STATUS.COMP_OVERRUN).sets TICK_STATUS.REPEAT).inc TICK_OVERRUN_CNT.COUNT

/-- The coming frame is a hold frame, which repeats the displayed one (R448). -/
def State.holdDue (s : State) : Bool := s.pickSource.1 == 2 && s.rd GROUP_STATUS.SYNC == 3 && s.group.err.isSome

/-- The output buffer that the pass reads: the composed one, or the one on display (R40), as for a hold frame (R448). -/
def State.passBuf (s : State) : Nat := if s.layer.composed && !s.holdDue then s.backBuf else s.dispBuf

/-- The pass begins: the composition is judged, and where a pass runs the settings are taken (R36, R40, R120, R501). -/
def State.passStart (s : State) : State :=
  let s1 := s.judgeComposition
  if s1.passRuns then (s1.gatherPass s1.passBuf).passTake s1.passBuf else s1

/-- A pass can begin: not in IDLE, where compositors and engines are stopped (R383), and once a frame. -/
def State.passOpen (s : State) : Bool := s.ticking && s.powerState == 0 && s.boot.stage == 11 && !s.tick.taken

/-- PREDICTION_PASS_START (R36, R38, R39): the pass always uses a reconciled guard, so before the guard deadline it waits
for the reconciliation. -/
def doPredictionPassStart (s : State) : State :=
  if !s.passOpen then s
  else if s.daelo.pastDeadline then s.passStart
  else { s with tick := { s.tick with passWait := true } }

/-- GUARD_DEADLINE, with the reconciliation that follows within 20 us (R194, R216, R426), and a pass that waits for it
(R39). -/
def doGuardDeadline (s : State) : State :=
  let t := s.guardTasted
  if t.tick.passWait && t.passOpen then { t with tick := { t.tick with passWait := false } }.passStart else t

end Sys2Proof.Machine
end

