-- ==== Sys2Proof/Machine/Boot.lean ====
section
/-!
DEFINITION. Resets and boot (R357, R365, R392, R420 to R425, R458 to R474, R482).
-/
namespace Sys2Proof.Machine

/-! ## What a reset keeps (R458, R470) -/

/-- The bits of a register that the always-on domain keeps. -/
def pMask (fs : List FDesc) : Nat :=
  (fs.map fun f => match f.rst with | .p => (2 ^ f.w - 1) * 2 ^ f.lo | _ => 0).sum

/-- A register entry as a reset leaves it. -/
def keepEntry (e : Nat × Word) : Option (Nat × Word) :=
  let m := BitVec.ofNat 32 (pMask ((regFields e.1).getD []))
  let v := (e.2 &&& m) ||| (regReset e.1 &&& ~~~m)
  if v = regReset e.1 then none else some (e.1, v)

/-- The registers that a reset leaves: fields marked P as they are, all others at their Reset entry (R458). -/
def State.keptRegs (s : State) : SMap Word := s.regs.filterMap keepEntry

/-- The levels of a pair's channels, which are the input filters' own. -/
def PairSt.levels (p : PairSt) : PairSt := { PairSt.init with a := p.a, b := p.b }

/-- A reset cause has been recorded in this core cycle (R459, log entry 22). -/
def State.causeNow (s : State) : Bool := s.boot.causeAt.any (·.1 == s.cycle)

/-- The machine as it stood before the reset that has begun in this core cycle. -/
def State.justBefore (s : State) : Before := if s.inReset && s.causeNow then s.boot.before else Before.none

/-- What a further cause of this core cycle needs of the machine as it stands. -/
def State.before (s : State) : Before :=
  if s.inReset then s.justBefore
  else ⟨if s.boot.held then 0 else s.boot.stage, !s.sleeping, s.boot.window, if s.sleeping then s.power.wakeStage else none⟩

/-- Everything that a reset of either kind sets, except SRAM, the boot record of the cause and the firmware that runs
(R458 to R460, R470): the cellar, the always-on records, the time base and the conditions outside the device stay. -/
def State.resetCore (s : State) : State :=
  { State.reset with
    now := s.now, cycle := s.cycle, free := s.free, regs := s.keptRegs, pending := s.pending, mem := { s.mem with reload := [] }
    tick := { TickSt.init with tb := s.tick.tb }
    safe := { SafeSt.init with sb := s.safe.sb.levels, dk := s.safe.dk.levels }
    cellar := s.cellarReset
    power := { PowerSt.init with
      xtal := s.power.xtal, rcCycles := s.power.rcCycles, ov := s.power.ov, vbatLow := s.power.vbatLow
      vbatStop := s.power.vbatStop, vbatHigh := s.power.vbatHigh, vsysLow := s.power.vsysLow }
    boot := { BootSt.init with
      resetN := s.boot.resetN, testEn := s.boot.testEn, causeAt := s.boot.causeAt, before := s.before, vaonLost := s.inReset && s.boot.vaonLost
      slept := s.sleeping || (s.inReset && s.boot.slept) } }

/-- The reset cause is recorded. Of causes that arise in one cycle, between which no time passes (log entry 22), the lowest
code stands (R459). -/
def State.bootCause (s : State) (cause detail : Nat) (cold : Bool) : State :=
  let first : Nat × Nat := match s.boot.causeAt with
    | some (t, c, d) => if t = s.cycle ∧ c ≤ cause then (c, d) else (cause, detail)
    | none => (cause, detail)
  let s1 := (s.wr SYS_BOOT_CAUSE.CAUSE first.1).wr SYS_BOOT_CAUSE.DETAIL first.2
  ({ s1 with boot := { s1.boot with causeAt := some (s.cycle, first.1, first.2) } }).wrB SYS_BOOT_CAUSE.COLD cold

/-- A further cause of the core cycle in which a reset has begun (R459): the reset is cold. -/
def State.lateCause (s : State) (cause detail : Nat) : State := s.bootCause cause detail true

/-- A cold reset (R458): no bank holds anything. -/
def State.coldReset (s : State) (cause detail : Nat) : State :=
  let s1 := (s.resetCore.loseBanks (List.range 28)).bootCause cause detail true
  s1.wrB SYS_BOOT_CAUSE.VAON_LOST s1.boot.vaonLost

/-- A register entry whose always-on bits are lost. -/
def dropEntry (e : Nat × Word) : Option (Nat × Word) :=
  let v := e.2 &&& ~~~BitVec.ofNat 32 (pMask ((regFields e.1).getD []))
  if v = regReset e.1 then none else some (e.1, v)

/-- The always-on records are lost and the time base restarts (R51, R358, R398, R470). -/
def State.loseVaon (s : State) : State :=
  let s1 := { s with
    regs := s.regs.filterMap dropEntry, tick := { s.tick with tb := 0 }
    boot := { s.boot with vaonLost := true, slept := false }, power := { s.power with xtal := false, rcCycles := 0 } }
  ((s1.inc TICK_EPOCH.EPOCH).wr POWER_TIME.QUALITY 2).sets SYS_BOOT_CAUSE.VAON_LOST

/-- A power-on reset with VAON lost, or not (R459, R482). A loss already recorded in the same reset is the same loss. -/
def State.powerReset (s : State) (vaon : Bool) : State :=
  let s1 := s.coldReset 0 0
  if vaon ∧ !s1.boot.vaonLost then s1.loseVaon else s1

/-- POWER_ON: VSYS, or VAON (`vaon`), rises through its threshold (R482). -/
def doPowerOn (vaon : Bool) (s : State) : State := s.tearPage.powerReset vaon

/-- VAON_LOSS (R358, R470, R482): a cold reset that also loses the always-on records. -/
def doVaonLoss (s : State) : State := s.powerReset true

/-- RESET_PIN: the levels of RESET_N and TEST_EN (R459, R460, R479). A VIO below 1.60 V counts as RESET_N low (R482). -/
def doResetPin (resetN testEn : Bool) (s : State) : State :=
  let s1 := if !resetN || testEn then s.coldReset 1 0 else s
  { s1 with boot := { s1.boot with resetN := resetN, testEn := testEn } }

/-- BROWN_OUT (R371, R459). -/
def doBrownOut (s : State) : State := s.tearPage.coldReset 2 0

/-- RAIL_FAULT: 0 VCORE, 1 VPERI, 2 VPHY (R371, R459). VCORE is not monitored during a step of R374. -/
def doRailFault (rail : Nat) (s : State) : State := if rail = 0 ∧ s.power.step.isSome then s else s.coldReset 3 rail

/-- CLOCK_LOSS (R392): the detector is not active in SLEEP and OFF, nor while the reference is stopped. -/
def doClockLoss (s : State) : State :=
  if s.inReset then (if s.justBefore.clock then s.lateCause 4 0 else s) else if s.sleeping then s else s.coldReset 4 0

/-- JTAG_RESET (R459). -/
def doJtagReset (s : State) : State := s.coldReset 9 0

/-- A boot stage in which the boot timer runs (R464). -/
def timedStage (k : Nat) : Bool := 3 ≤ k && k ≤ 10

/-- BOOT_TIMEOUT: the boot timer runs from stage 3 on, and not in a held boot (R464). A timer that runs has started after any
cause recorded before. -/
def doBootTimeout (s : State) : State :=
  if s.inReset then (if timedStage s.justBefore.stage then s.lateCause 8 s.justBefore.stage else s)
  else if timedStage s.boot.stage && !s.boot.held then { s with boot := { s.boot with causeAt := none } }.coldReset 8 s.boot.stage
  else s

/-! ## The warm reset (R293, R458, R461, R463) -/

/-- The banks that a warm reset keeps if they are intact. -/
def warmBanks : List Nat := [22, 23, 24, 25, 27]

/-- A symbol is in the middle of its load, so the library must be loaded again (R471). -/
def State.symLoading (s : State) : Bool := (List.range 256).any fun i => (s.symEntry i).loading

/-- The registers that a warm reset writes at once: cause, hold count (a free value), clock (R459, R461). -/
def State.warmRecord (s : State) : State :=
  let (n, s1) := s.fresh
  ((s1.bootCause 6 0 false).wr SYS_BOOT_HOLD.COUNT (Config.value n)).wrB SYS_BOOT_CAUSE.HOLD_RC (!s.power.xtal)

/-- Stage 3 begins: OP1 is selected, ticks come, the time base stands (R462). -/
def State.stage3 (s : State) : State :=
  ({ s with boot := { s.boot with stage := 3, tb := s.tick.tb }
            power := { s.power with want := 1, volt := 1, div := 1 } }).wr POWER_STATUS.OP 1

/-- A warm reset: the retention checker finds the banks of `lost` changed; a loss of bank 27 makes the reset cold. A library in
the middle of a load is loaded again (R471). -/
def State.warmReset (s : State) (lost : Nat) : State :=
  let mask := bankMask warmBanks
  let s1 := (s.retain mask).resetCore.retentionCheck lost
  if bitN lost 27 then s1.coldReset 6 0
  else
    let s2 := s1.warmRecord
    let ok := (banksOf mask).filter fun b => !bitN lost b && !(b == 25 && s.symLoading)
    ({ s2 with boot := { s2.boot with cold := false, kept := ok, slot := s.boot.slot, fw := s.boot.fw, start := s.now } }).stage3

/-- RESET_DEVICE_START: the window of R293 ends. -/
def doResetDeviceStart (lost : Nat) (s : State) : State :=
  match s.boot.window with
  | none => (match s.justBefore.window with
    | some (cold, d) => s.lateCause (if cold then 7 else 6) d
    | none => s)
  | some (true, d) => s.coldReset 7 d
  | some (false, _) => s.warmReset lost

/-! ## The release of stage 1 (R397, R398, R461, R482) -/

/-- The time base advances by an always-on count (R397), rounded to 1 ns (R13). -/
def State.tbAdvance (s : State) (count : Nat) : State :=
  { s with tick := { s.tick with tb := BitVec.ofNat 64 (s.tick.tb.toNat + rdiv (count * s.aonPeriod8) 8000) } }

/-- The quality of the time base after an interval (R398). -/
def State.tbQuality (s : State) (count : Nat) (rc : Bool) : State :=
  let q := s.rd POWER_TIME.QUALITY
  s.wr POWER_TIME.QUALITY (if 2 ^ 32 ≤ count then 2 else if rc then max 1 q else q)

/-- The hold count is recorded and the time base carried (R397, R461); a loss of VAON leaves both at 0. While reset is held
the crystal can be lost but not qualified (R395): where it is not selected now, the RC oscillator counted a part. -/
def State.holdRecord (s : State) (count : Nat) : State :=
  let rc := !s.power.xtal
  if s.boot.vaonLost then
    ((s.wr SYS_BOOT_HOLD.COUNT 0).sets SYS_BOOT_CAUSE.HOLD_RC).sets SYS_BOOT_CAUSE.VAON_LOST |>.wr POWER_TIME.QUALITY 2
  else
    let s1 := ((s.tbAdvance (min count (2 ^ 32))).wr SYS_BOOT_HOLD.COUNT (min (2 ^ 32 - 1) count)).wrB SYS_BOOT_CAUSE.HOLD_RC rc
    let s2 := s1.tbQuality count rc
    if s.boot.slept then (s2.wr POWER_AON_CNT.COUNT (min (2 ^ 32 - 1) count)).wrB POWER_TIME.LAST_SRC rc else s2

/-- STAGE1_RELEASE: supplies and RESET_N allow a cold boot to begin; the always-on counter gives `count`. The symbol directory
is cleared (R159, R458). -/
def doStage1Release (count : Nat) (s : State) : State :=
  if s.boot.stage ≠ 0 ∨ !s.boot.cold ∨ !s.boot.resetN ∨ s.boot.testEn then s
  else
    let s1 := ((s.holdRecord count).sets SYS_BOOT_CAUSE.COLD).sramWrite symbolStore (List.replicate 4096 0)
    { s1 with boot := { s1.boot with stage := 1, start := s.now, causeAt := none } }

end Sys2Proof.Machine
end

