-- ==== Sys2Proof/Machine/BootStages.lean ====
section
/-!
DEFINITION. The stages of boot: self-test, journal, firmware, configuration, loads and completion (R365, R420 to R425,
R462 to R469, R472, R473).
-/
namespace Sys2Proof.Machine

/-! ## Self-test records (R310, R424, R425, R472) -/

/-- The records as the cellar gives them: none where the page is uncorrectable (R425). -/
def State.shutRecord (s : State) : Option BistRec := if s.pageBad shutPage then none else s.cellar.shutRec
def State.bootRecord (s : State) : Option BistRec := if s.pageBad bootPage then none else s.cellar.bootRec

/-- The shut-down record is newer than the last boot record (R424, R472). -/
def State.shutNewer (s : State) (r : BistRec) : Bool :=
  match s.bootRecord with
  | none => true
  | some b => b.epoch < r.epoch || (b.epoch == r.epoch && b.tb.toNat < r.tb.toNat)

/-- The short form of the boot-time self-test applies (R424). QUICK_START is part of the stored plan (R309). -/
def State.quickForm (s : State) : Bool :=
  (match s.cellar.config with | some c => c.quick | none => false) && !(pagesOf (regionBase 5) 30720).any s.pageBad &&
    match s.shutRecord with
    | none => false
    | some r => r.st == 1 && r.fail == 0 && r.epoch == s.rd TICK_EPOCH.EPOCH % 65536 && s.shutNewer r

/-- A SHUTDOWN was interrupted by the reset (R472). -/
def State.shutInterrupted (s : State) : Bool :=
  match s.shutRecord with
  | none => false
  | some r => r.st == 2 && s.shutNewer r

/-- The tests of R420 that run in a boot stage. -/
def bootTests (k : Nat) (quick : Bool) : List Nat :=
  if k = 3 then [1] else if k = 5 then (if quick then [] else [0])
  else if k = 9 then (if quick then [10, 11, 12, 13] else [2, 10, 11, 12, 13, 14]) else []

/-- The mask of a list of tests. -/
def testMask (ts : List Nat) : Nat := ((List.range 16).filter ts.contains).foldl (fun n i => n + 2 ^ i) 0

/-- The tests of a form (R420). -/
def formPlan (quick : Bool) : Nat := testMask (bootTests 3 quick ++ bootTests 5 quick ++ bootTests 9 quick)

/-- Duration of a form in us (R420). -/
def formTime (quick : Bool) : Nat := if quick then 12500 else 59500

/-- The first failure code (R425): tests run in bit order within a stage. -/
def firstFail (fs : List (Nat × Nat)) : Nat := match fs with | [] => 0xFFFF | f :: _ => f.1 * 256 + f.2 % 256

/-- The tests that have run by the end of a stage. -/
def testsRun (k : Nat) (quick : Bool) : List Nat :=
  (if 3 ≤ k then bootTests 3 quick else []) ++ (if 5 ≤ k then bootTests 5 quick else []) ++ (if 9 ≤ k then bootTests 9 quick else [])

/-- The boot record (R425). The duration of a self-test that a failure cuts short is a free value. -/
def State.writeBootRec (s : State) : State :=
  let k := s.boot.stage
  let q := s.boot.quick
  let fail := testMask (s.boot.fails.map (·.1))
  let (n, s1) := s.fresh
  let dur := if 9 ≤ k then formTime q else Config.value n
  let pass := testMask ((testsRun k q).filter fun t => !s.boot.fails.any fun f => f.1 == t)
  let r := BistRec.mk 1 (s.rd TICK_EPOCH.EPOCH % 65536) s.boot.tb dur (formPlan q) pass fail (firstFail s.boot.fails)
  ({ s1 with cellar := { s1.cellar with bootRec := some r } }).pageWritten bootPage

/-! ## Firmware (R463, R465, R467) -/

/-- The pages of an image's slot. -/
def imgPages (slot total : Nat) : List Nat := pagesOf (regionBase slot) total

/-- A slot's image can be run: it is valid and its CRC matches (R465). -/
def State.imgGood (s : State) (slot : Nat) : Bool :=
  match s.cellar.selector.img slot with
  | none => false
  | some f => !(imgPages slot f.total).any s.pageBad && crc32c (s.cellarBytes (regionBase slot) f.total) == f.crc

/-- The ECC events of reading a slot's image. -/
def State.imgRead (s : State) (slot : Nat) : State :=
  match s.cellar.selector.img slot with
  | none => s
  | some f => s.rangeRead (regionBase slot) f.total

/-- The slots that stage 6 tries, in order (R465). -/
def State.slotOrder (s : State) : List Nat :=
  let sel := s.cellar.selector.slot % 2
  let oth := 1 - sel
  if 3 ≤ s.rd SYS_BOOT_COUNT.ATTEMPTS ∧ (s.cellar.selector.img oth).isSome then [oth, sel] else [sel, oth]

/-- The version word of an image (R474). -/
def FwImage.ver (f : FwImage) : Nat := f.major % 256 + 256 * (f.minor % 256) + 65536 * (f.patch % 256)

/-- The image that runs is shown (R474). -/
def State.showFw (s : State) : State :=
  match s.boot.fw with
  | none => s
  | some f => (s.wr SYS_BOOT_FW.SLOT s.boot.slot).wr SYS_BOOT_FW.VER f.ver

/-- The firmware of a warm boot is still in bank 27 (R463). -/
def State.fwKept (s : State) : Bool := !s.boot.cold && s.boot.kept.contains 27 && s.boot.fw.isSome

/-- Stage 6: the image is kept, or read from the first slot that can be run; with none, `boot.fw` stays empty (R465). -/
def State.loadFirmware (s : State) : State :=
  if s.fwKept then (s.wr SYS_BOOT_LOAD.FW 1).showFw
  else
    let order := s.slotOrder
    match order.find? s.imgGood with
    | some k =>
      let tried := order.takeWhile fun j => j != k
      let s1 := (tried ++ [k]).foldl State.imgRead s
      let s2 := { s1 with boot := { s1.boot with slot := k, fw := s.cellar.selector.img k } }
      let s3 := if k = s.cellar.selector.slot % 2 then s2 else (s2.sets SYS_BOOT_CAUSE.FW_FALLBACK).wr SYS_BOOT_COUNT.ATTEMPTS 0
      (s3.wr SYS_BOOT_LOAD.FW 0).showFw
    | none =>
      let s1 := order.foldl State.imgRead s
      let any := (s.cellar.selector.imgA.isSome || s.cellar.selector.imgB.isSome : Bool)
      ({ s1 with boot := { s1.boot with fw := none } }).wr SYS_BOOT_LOAD.FW (if any then 3 else 2)

/-! ## Configuration (R19, R241, R303, R314, R467) -/

/-- The default of a register's C fields (R19). -/
def cDefault (fs : List FDesc) : Nat := (fs.map fun f => match f.rst with | .c d => d * 2 ^ f.lo | _ => 0).sum

/-- Every register with C fields: address, mask, default. -/
def cRegs : List (Nat × Nat × Nat) :=
  regTable.flatMap fun d => if cMask d.fields = 0 then [] else d.addrs.map fun a => (a, cMask d.fields, cDefault d.fields)

/-- The masked bits of a register are replaced. -/
def State.setBits (s : State) (a m v : Nat) : State :=
  s.setReg a ((s.reg a &&& ~~~BitVec.ofNat 32 m) ||| (BitVec.ofNat 32 v &&& BitVec.ofNat 32 m))

/-- Every C field takes the value for the case of no stored value (R19). -/
def State.loadDefaults (s : State) : State := cRegs.foldl (fun t r => t.setBits r.1 r.2.1 r.2.2) s

/-- The snapshot of CONFIG can be used: 0 loaded, 2 none, 3 an uncorrectable page (R467). -/
def State.configCode (s : State) : Nat :=
  if s.cellar.config.isNone then 2 else if (pagesOf (regionBase 5) 30720).any s.pageBad then 3 else 0

/-- The CONFIG snapshot is loaded over the defaults, with the plan and the persist list (R303, R309, R314). -/
def State.loadConfig (s : State) : State :=
  let code := s.configCode
  let s1 := (s.rangeRead (regionBase 5) 30720).loadDefaults.wr SYS_BOOT_LOAD.CONFIG code
  match s.cellar.config with
  | none => s1
  | some c =>
    if code ≠ 0 then s1
    else
      let s2 := snapRegs.foldl (fun t r => match c.regs.find? (·.1 == r.1) with
        | some e => t.setBits r.1 r.2 e.2.toNat
        | none => t) s1
      ((s2.wr BIST_PLAN_CFG.PLAN c.plan).wrB BIST_PLAN_CFG.QUICK_START c.quick).bootKills c.persist

/-- The newer of two running numbers (R244). -/
def newerNumber (a b : Nat) : Nat := if (b + 65536 - a) % 65536 < 32768 then b else a

/-- NEXT from the change log (R19). -/
def State.logNext (s : State) : Nat :=
  let good := ((List.range 256).map fun i => s.cellarBytes (logPlace i) 32).filter goodEntry
  match good.map fun b => u16 b 26 with
  | [] => 0
  | n :: r => (r.foldl newerNumber n + 1) % 65536

/-- The fields that come from their own sources in every boot (R19). -/
def State.loadOwn (s : State) : State :=
  (((s.wr SAFE_LOG_STATUS.NEXT s.logNext).wr CELLAR_JOURNAL.SPARE_START s.cellar.spareStart).wr CELLAR_SPARE_WEAR.COUNT
    (s.wearOf 0x7800 2048)).wrB SAFE_SEAL_STATUS.PW_SET s.cellar.digest.isSome

/-- The slots of the seal region whose pages can be read: a record on an uncorrectable page is not valid (R363, R367). -/
def State.readableSeals (s : State) : List (Option SealSlot) :=
  s.cellar.sealSlots.mapIdx fun k r => if s.pageBad (sealPage k) || s.pageBad (sealPage k + 1) then none else r

/-- The seal region is loaded and judged (R241): the readable slot with the higher sequence number is in force (R363); a
region that held a record and has no readable one cannot be restored. -/
def State.loadSeal (s : State) : State :=
  let s0 := (s.rangeRead 0x708000 512).rangeRead 0x708800 512
  let lost := s0.cellar.sealLost || s0.cellar.sealNow.isSome
  let s1 := { s0 with cellar := { s0.cellar with
    sealSlots := s0.readableSeals, sealLost := lost && s0.readableSeals.all Option.isNone } }
  if s1.cellar.sealLost then (s1.wr SYS_BOOT_LOAD.SEAL 3).sealRecompute.sealFault
  else match s1.cellar.sealRec with
    | none => (s1.wr SYS_BOOT_LOAD.SEAL 2).sealRecompute.wr SAFE_SEAL_STATUS.STATE 0
    | some r =>
      let s2 := ((s1.loadBlock r.block).wr SAFE_SEAL_STORED.SEAL r.code.toNat).sealRecompute
      if s2.on SAFE_SEAL_STATUS.MATCH then (s2.wr SYS_BOOT_LOAD.SEAL 0).wr SAFE_SEAL_STATUS.STATE 1
      else (s2.wr SYS_BOOT_LOAD.SEAL 3).sealFault

/-- The seal fields of the boot report (R474). -/
def State.reportSeal (s : State) : State :=
  (s.wr SYS_BOOT_LOAD.SEAL_ST s.sealState).wr SYS_BOOT_SEAL.SEAL (if s.sealState = 0 then 0 else s.rd SAFE_SEAL_LIVE.SEAL)

/-- Stage 7; the display settings are then those of the registers, and the limit of near misses may be met with them (R225). -/
def State.stageConfig (s : State) : State :=
  let s1 := s.loadConfig.loadOwn.loadSeal.reportSeal
  { s1 with pipe := { s1.pipe with disp := s1.settings (s1.therm.vals.take 16) } }.setIf s1.degraded SAFE_STATUS.IN_DEGRADED

/-! ## Loads (R231, R233, R357, R463, R467) -/

/-- A page holds nothing (R367). -/
def State.pageErased (s : State) (p : Nat) : Bool := s.pageWrites p == 0 && !s.copyCovers p

/-- Outcome of loading the pages of a range: 2 an erased page, 3 an uncorrectable one, 0 neither (R467). -/
def State.rangeCode (s : State) (a n : Nat) : Nat :=
  if (pagesOf a n).any s.pageErased then 2 else if (pagesOf a n).any s.pageBad then 3 else 0

/-- Limp beam (R231, R233): judged here in every boot. -/
def State.loadLimp (s : State) : State :=
  if s.rd SAFE_LIMP_CRC.CRC = 0 then ((s.rangeRead (regionBase 3) 327680).wr SYS_BOOT_LOAD.LIMP 2).limpRefused
  else
    let s1 := s.limpJudge
    s1.wr SYS_BOOT_LOAD.LIMP (if s1.safe.limpNext.isSome then 0 else if s.rangeCode (regionBase 3) 327680 = 2 then 2 else 3)

/-- Copy of cellar bytes into SRAM. -/
def State.copyIn (s : State) (dst src n : Nat) : State := s.sramWrite dst (s.cellarBytes src n)

/-- The trim map's part in bank 22, 23 or 24: offset and length (R357). -/
def trimPart (bank : Nat) : Nat × Nat := (1048576 * (bank - 22), if bank = 24 then 524288 else 1048576)

/-- The trim map of a bank is copied from the TRIM region, unless a page of it cannot be read. -/
def State.copyTrim (s : State) (bank : Nat) : State :=
  let (off, n) := trimPart bank
  let a := regionBase 2 + off
  let s1 := s.rangeRead a n
  if s.rangeCode a n = 0 then s1.copyIn (0x1600000 + off) a n else s1

/-- The trim map at boot: kept, loaded, or not valid (R463, R467). -/
def State.loadTrim (s : State) : State :=
  if !s.boot.cold && s.boot.kept.contains 22 && s.boot.kept.contains 23 && s.boot.kept.contains 24 then
    ({ s with pipe := { s.pipe with trimValid := true } }).wr SYS_BOOT_LOAD.TRIM 1
  else
    let code := s.rangeCode (regionBase 2) 2621440
    let s1 := if code = 0 then [22, 23, 24].foldl State.copyTrim s else s.rangeRead (regionBase 2) 2621440
    ({ s1 with pipe := { s1.pipe with trimValid := code == 0 } }).wr SYS_BOOT_LOAD.TRIM code

/-- A page of the symbol library that cannot be used. -/
def State.symPageBad (s : State) (i : Nat) : Bool := s.pageErased (regionBase 4 / 256 + i) || s.pageBad (regionBase 4 / 256 + i)

/-- The symbol library is copied to bank 25; entries whose directory or data touch a bad page are not valid (R467). -/
def State.copySymbols (s : State) : State :=
  let a := regionBase 4
  let s1 := (List.range 4096).foldl (fun (t : State) i =>
    if t.symPageBad i then (if i < 16 then t.sramWrite (symbolStore + 256 * i) (List.replicate 256 0) else t)
    else t.copyIn (symbolStore + 256 * i) (a + 256 * i) 256) (s.rangeRead a 1048576)
  (List.range 256).foldl (fun (t : State) i =>
    let e := t.symEntry i
    if e.valid && (pagesOf e.offset e.bytes).any t.symPageBad then t.putSymEntry i { e with valid := false } else t) s1

/-- The symbol library at boot (R463, R467). -/
def State.loadSymbols (s : State) : State :=
  if !s.boot.cold && s.boot.kept.contains 25 then s.wr SYS_BOOT_LOAD.SYMBOLS 1
  else s.copySymbols.wr SYS_BOOT_LOAD.SYMBOLS (s.rangeCode (regionBase 4) 1048576)

/-! ## The boot report and completion (R466, R468, R473) -/

/-- The boot report: registers, then a record of the ring (R473). -/
def State.bootReport (s : State) : State :=
  let s1 := ((((s.wr SYS_BOOT_TIME.US (min (2 ^ 32 - 1) (rdiv (s.now - s.boot.start) 1000))).wr SYS_BOOT_BIST.FAIL (testMask (s.boot.fails.map (·.1)))).wr
    SYS_BOOT_BIST.FIRST_FAIL (firstFail s.boot.fails)).wr SYS_BOOT_RET.BANKS (s.rd MEM_WAKE_RETENTION_LOSS.BANKS)).wrB
      SYS_BOOT_CAUSE.QUICK s.boot.quick
  let words := (List.range 9).map fun i => s1.reg (0x100 + 4 * i)
  s1.ringAppend ⟨true, words, s1.tick.tb, BitVec.ofNat 32 (s1.rd TICK_EPOCH.EPOCH)⟩

/-- A held boot (R233, R466): the limp load is judged if it has not been; the links work. -/
def State.holdBoot (s : State) : State :=
  let s1 := ({ s with boot := { s.boot with held := true } }).sets SYS_BOOT_CAUSE.HELD
  let s2 := if s1.boot.limpJudged || s1.safe.limpNext.isSome then s1 else s1.limpRefused
  let s3 := { s2.ledOff with daelo := { s2.ledOff.daelo with rxOn := true } }
  (if s3.on LINK_CTRL.RL_EN then s3.rlStart else s3).bootReport

/-- RUN is cleared for the engines that failed their self-test (R467). -/
def State.stopFailed (s : State) : State :=
  s.boot.fails.foldl (fun (t : State) f =>
    let strip := if f.1 = 2 then (if 2 ≤ f.2 then some (f.2 - 2) else none) else if f.1 = 14 then some f.2 else none
    match strip with
    | some i => if i < 8 then t.runWritten (t.rd PIPE_SE_CTRL.RUN / 2 ^ (i + 1) * 2 ^ (i + 1) + t.rd PIPE_SE_CTRL.RUN % 2 ^ i) else t
    | none => t) s

/-- Stage 10 (R465, R468). -/
def State.bootComplete (s : State) : State :=
  let s1 := (s.opRequest (s.rd POWER_CTRL.OP)).stopFailed
  let s2 := { s1 with boot := { s1.boot with stage := 11 }, daelo := { s1.daelo with rxOn := true } }
  let s3 := if s2.on LINK_CTRL.RL_EN then s2.rlStart else s2
  (((s3.inc SYS_BOOT_COUNT.BOOTS).wr SYS_BOOT_COUNT.ATTEMPTS 0).wrB BIST_STATUS.QUICK_USED s3.boot.quick).bootReport

/-! ## Stages (R462) -/

/-- A failure that holds the boot (R467). -/
def holdsBoot (f : Nat × Nat) : Bool := [1, 10, 11, 12, 13].contains f.1 || (f.1 == 0 && f.2 == 27)

/-- The progress of the self-test as a stage begins (R439). -/
def State.testsBegin (s : State) : State :=
  match bootTests s.boot.stage s.boot.quick with
  | [] => s
  | t :: _ => ((s.wr BIST_STATUS.RUN 2).wr BIST_PROG.CURRENT t).wr BIST_PROG.ACTIVE 1

/-- The progress of the self-test as a stage ends (R439). -/
def State.testsEnd (s : State) : State :=
  match (bootTests s.boot.stage s.boot.quick).getLast? with
  | none => s
  | some t => (((s.wr BIST_STATUS.RUN 0).wr BIST_PROG.CURRENT t).wr BIST_PROG.ACTIVE 0).wr BIST_PROG.FAILED
      (testMask (s.boot.fails.map (·.1)))

/-- The stage that follows. -/
def State.nextStage (s : State) : State := ({ s with boot := { s.boot with stage := s.boot.stage + 1 } }).testsBegin

/-- The work of the stage in progress, at its end. -/
def State.stageWork (s : State) : State :=
  match s.boot.stage with
  | 3 => s.sfStart
  | 4 =>
    let s1 := s.journal
    let s2 := { s1 with boot := { s1.boot with quick := s1.quickForm } }
    (s2.setIf s1.shutInterrupted SYS_BOOT_CAUSE.SHUTDOWN_INTERRUPTED).setIf s1.shutInterrupted BIST_STATUS.INCOMPLETE
  | 6 => s.loadFirmware
  | 7 => s.stageConfig
  | 8 => s.loadLimp.loadTrim.loadSymbols
  | 9 => s.writeBootRec
  | _ => s

/-- What the start of the next stage does. -/
def State.stageNext (s : State) : State :=
  match s.boot.stage with
  | 2 => s.stage3.testsBegin
  | 5 => s.nextStage.wr SYS_BOOT_COUNT.ATTEMPTS (min 3 (s.rd SYS_BOOT_COUNT.ATTEMPTS + 1))
  | 10 => s.bootComplete
  | _ => s.nextStage

/-- BOOT_STAGE_DONE: the stage in progress ends; `fails` are the failures of its self-tests, in order. -/
def doBootStageDone (fails : List (Nat × Nat)) (s : State) : State :=
  let k := s.boot.stage
  if k = 0 ∨ 10 < k ∨ s.boot.held then s
  else
    let fs := fails.filter fun f => (bootTests k s.boot.quick).contains f.1
    let s1 := ({ s with boot := { s.boot with fails := s.boot.fails ++ fs } }).wr SYS_BOOT_CAUSE.STAGE k
    let s2 := (s1.setIf (!fs.isEmpty) BIST_STATUS.BOOT_FAIL).testsEnd.pathEnd.stageWork
    if fs.any holdsBoot then (if k = 9 then s2 else s2.writeBootRec).holdBoot
    else if k = 6 && s2.boot.fw.isNone then (if s2.boot.fails.isEmpty then s2 else s2.writeBootRec).holdBoot
    else s2.stageNext

end Sys2Proof.Machine
end

