-- ==== Sys2Proof/Machine/PowerState.lean ====
section
/-!
DEFINITION. Power states: the entry handshake, SLEEP and OFF, wake, SHUTDOWN and the self-test opcodes (R291, R292, R309,
R310, R355 to R357, R383 to R391, R396, R397, R420 to R425).
-/
namespace Sys2Proof.Machine

/-! ## Entry (R383, R385 to R387, R391) -/

/-- The blocks concerned in an entry (R385). -/
def blocksOf (target : Nat) : List Nat := if target = 1 then [7, 14] else [1, 7, 8, 9, 11, 14, 16, 17, 18, 19]

/-- A command other than the entry's own, or a barrier, is EXECUTING or PENDING (R385). -/
def State.cmdBusy (s : State) (own : Nat) : Bool :=
  s.cmd.handles.any fun e => (e.st == 1 || e.st == 2) && e.h != own && e.op != 0x08 && e.op != 0x09

/-- The seal store, a digest write or a cellar write runs. -/
def State.cellarActive (s : State) : Bool :=
  s.cellar.run.isSome || !s.cellar.waiting.isEmpty || !s.safe.sealing.isEmpty || !s.cellar.digestWrite.isEmpty

/-- A block refuses the entry (R385). -/
def State.refuses (s : State) (own block : Nat) : Bool :=
  if block = 1 then s.cmdBusy own
  else if block = 7 then s.cask.racking.isSome
  else if block = 11 then s.cellarActive
  else if block = 14 then s.rd CAL_STATUS.PHASE == 1
  else if block = 16 then s.test.scan.isSome
  else if block = 19 then s.rd BIST_STATUS.RUN != 0
  else false

/-- A block delays its answer (R385); `busy` is its own condition beyond the state. -/
def State.delays (s : State) (block : Nat) (busy : Bool) : Bool :=
  if block = 1 then (!s.daelo.rl.ctl.isEmpty || !s.daelo.rl.loss.isEmpty) && busy
  else if block = 8 then busy
  else if block = 9 then !s.safe.log.isEmpty
  else if block = 17 then s.exchanging && !s.group.departing
  else if block = 18 then s.on SAT_STATUS.SENDING && busy
  else false

/-- Every bank parked, the compositors and strip engines stopped, PH0 to PH3 low (R383, R387). -/
def State.stopArray (s : State) : State :=
  let s1 := s.ledOff.abandonComp.wr PIPE_SE_CTRL.ACTIVE 0
  { s1 with array := { s1.array with parked := List.range 8, armed := [] }
            pipe := { s1.pipe with noFrame := true, next := none, govS := none }
            tick := { s1.tick with passRunning := false, passWait := false, passDone := false } }

/-- Entry to IDLE: the device falls to OP0 at the next tick (R374, R383). -/
def State.enterIdle (s : State) : State := (s.stopArray.wr POWER_STATUS.STATE 1).opKick

/-- The wake sources in force and the frozen always-on period (R388, R396). -/
def State.wakeSetup (s : State) (wake wakeMs : Nat) : State :=
  ((s.wr POWER_WAKE.MASK (Nat.lor (wake % 256) 128)).wr POWER_WAKE_MS.MS wakeMs).wr POWER_AON_CAL.PERIOD (rdiv s.aonPeriod8 8)

/-- No tick comes from here on (R387). -/
def State.stopTicks (s : State) : State :=
  let s1 := s.openFrame
  { s1 with tick := { s1.tick with tickAt := none, slot := none, dark := false, outMode := 0, outPol := 0, outTick := none, outDark := none } }

/-- Entry to SLEEP (2) or OFF (3) (R387): retention, the time base snapshot, the reference stops. -/
def State.enterSleep (s : State) (target retain wake wakeMs : Nat) : State :=
  let s1 := (s.stopArray.wakeSetup wake wakeMs).satCut.tasterDiscard.stopTicks
  let s2 := if target = 2 then s1.retain retain else s1.loseBanks (List.range 28)
  ({ s2 with
    cmd := { s2.cmd with unlock := none }, arb := ArbSt.init, safe := { s2.safe with running := false }
    power := { s2.power with asleep := some (if target = 2 then retain else 0, s2.tick.tb), step := none, lower := false } }).wr
      POWER_STATUS.STATE target

/-- The entry proceeds (R386): the completion is posted first. -/
def State.enterState (s : State) (h : Handshake) : State :=
  let s0 := s.hsEnd stOk 0
  let s1 := { s0 with power := { s0.power with want := h.op } }
  if h.target = 1 then s1.enterIdle else s1.enterSleep h.target h.retain h.wake h.wakeMs

/-- A refused entry (R386, R409). -/
def State.entryRefused (s : State) (mask : Nat) : State := (s.wr POWER_REFUSE.MASK mask).hsEnd stNotNow mask

/-- POWER_HANDSHAKE_ANSWER: block `block` answers READY, DELAY or REFUSE (R385, R386). The chain is READY with a frame that stops
at its next 48-bit boundary (R455). -/
def doHandshakeAnswer (block : Nat) (busy : Bool) (s : State) : State :=
  match s.power.hs with
  | none => s
  | some h =>
    if !(blocksOf h.target).contains block ∨ h.ready.contains block then s
    else if s.refuses h.handle block then s.entryRefused (2 ^ block)
    else if s.delays block busy then s
    else
      let h1 := { h with ready := block :: h.ready }
      let s0 := if block = 18 then s.satCut else s
      let s1 := { s0 with power := { s0.power with hs := some h1 } }
      if (blocksOf h.target).all h1.ready.contains then s1.enterState h1 else s1

/-- HANDSHAKE_TIMEOUT: blocks that are not READY count as refusing (R386). -/
def doHandshakeTimeout (s : State) : State :=
  match s.power.hs with
  | none => s
  | some h => s.entryRefused (((blocksOf h.target).filter fun b => !h.ready.contains b).foldl (fun n b => n + 2 ^ b) 0)

/-- IDLE is left for ACTIVE (R391). -/
def State.leaveIdle (s : State) : State :=
  let s1 := ({ s with pipe := { s.pipe with noFrame := true } }).wr POWER_STATUS.STATE 0
  if s1.safety = 0 || !s1.safe.release.isEmpty then s1.ledStart else s1

/-- SET_POWER_STATE (R291, R374, R384, R385, R391). A second one during a handshake is refused by power management
itself, block 12. -/
def doSetPowerState (x : Ctx) (st op retain wake wakeMs : Nat) (s : State) : State :=
  if 3 < st ∨ 3 < op then s.answer x stBadParam []
  else if s.safety = 1 ∧ st ≠ 0 then s.answer x stRefused []
  else if st = s.powerState then
    (({ s with power := { s.power with wantHandles := s.power.wantHandles ++ [x.handle] } }).pend x.handle).opRequest op
  else if st = 0 then (s.leaveIdle.answer x stOk []).opRequest op
  else if s.power.hs.isSome then s.answer x stNotNow (leBytes 4 (2 ^ 12))
  else ({ s with power := { s.power with hs := some ⟨x.handle, st, op, retain, wake, wakeMs, []⟩ } }).pend x.handle

/-! ## Wake (R356, R357, R388 to R390, R397) -/

/-- WAKE_EVENT: a source of R388. The timer is no source with WAKE_MS = 0. -/
def doWakeEvent (source : Nat) (s : State) : State :=
  if !s.sleeping ∨ s.power.wakeStage.isSome ∨ 7 < source ∨ !bitN (s.rd POWER_WAKE.MASK) source
      ∨ (source = 3 ∧ s.rd POWER_WAKE_MS.MS = 0) then s
  else ({ s with power := { s.power with wakeStage := some 1 } }).wr POWER_WAKE.CAUSE (2 ^ source)

/-- A range of layer store addresses meets a bank. -/
def planeIn (p : Plane) (banks : List Nat) : Bool := banks.any fun b => p.lo < (b + 1) * 1048576 - 0xA00000 && b * 1048576 - 0xA00000 < p.hi && 10 ≤ b && b ≤ 15

/-- Layer buffers with a plane byte in a lost bank become EMPTY (R357). -/
def State.recoverLayers (s : State) (lost : List Nat) : State :=
  (List.range 16).foldl (fun (t : State) i =>
    let c := t.actCfg (i / 2)
    let mine := if c.kind = 0 then (c.planes.drop (2 * (i % 2))).take 2 else (c.planes.drop (i % 2)).take 1
    if mine.any (planeIn · lost) then t.wr (bufFld (i / 2) (i % 2)) bufEmpty else t) s

/-- Cask beams with a lost bank become not valid (R173, R357). -/
def State.recoverCask (s : State) (lost : List Nat) : State :=
  let one (t : State) (k : Nat) : State :=
    if lost.any fun b => 16 + 3 * k ≤ b && b < 19 + 3 * k then (t.wr (validFld k) 0).sets CASK_STATUS.RET_LOSS else t
  one (one s 0) 1

/-- Trim map and symbol store: not valid, and reloaded (R357). -/
def State.recoverStores (s : State) (lost : List Nat) : State :=
  let trim := [22, 23, 24].filter lost.contains
  let s1 := if trim.isEmpty then s else { s with pipe := { s.pipe with trimValid := false } }
  let s2 := if lost.contains 25 then s1.sramWrite symbolStore (List.replicate 4096 0) else s1
  let reload := trim ++ if lost.contains 25 then [25] else []
  let s3 := reload.foldl (fun (t : State) b => t.memOp 2 0 (b * 1048576) (if b = 24 then 524288 else 1048576) true) s2
  ({ s3 with mem := { s3.mem with reload := reload } }).wrB MEM_STATUS.RELOADING (!reload.isEmpty)

/-- Banks that hold nothing after a sleep: not retained, or found lost (R356). -/
def State.lostBanks (s : State) (retained : Nat) : List Nat :=
  (List.range 28).filter fun b => !bitN retained b || bitN (s.rd MEM_WAKE_RETENTION_LOSS.BANKS) b

/-- The time base and its records after a sleep (R397, R398). -/
def State.wakeTime (s : State) (count : Nat) (snap : BitVec 64) : State :=
  let rc := !s.power.xtal
  let s1 := ({ s with tick := { s.tick with tb := snap } }).tbAdvance (min count (2 ^ 32))
  ((s1.wr POWER_AON_CNT.COUNT (min (2 ^ 32 - 1) count)).wrB POWER_TIME.LAST_SRC rc).tbQuality count rc

/-- The logic is released in ACTIVE at OP0 (R390); the trackers of the tick and the group start afresh. -/
def State.wakeLogic (s : State) : State :=
  let s1 := ((((({ s with power := { s.power with asleep := none, wakeStage := none, volt := 0, div := 0, step := none } }).wr
    POWER_STATUS.STATE 0).wr POWER_STATUS.OP 0).wr POWER_STATUS.OP_BUSY 0).wr POWER_STATUS.LED_REG 0).sets POWER_STATUS.WAKE_EV
  let s2 := (({ s1 with
    pipe := { s1.pipe with noFrame := true }
    tick := { s1.tick with fs := FsyncSt.init, src := 0 }
    group := { s1.group with lastEdge := none, interval := 0, err := none, valid := 0, missedEdges := 0 } }).wr
      TICK_STATUS.FSYNC_STATE 0).wr TICK_STATUS.FSYNC_LOCK 0
  s2.wr GROUP_STATUS.SYNC 0

/-- Stage 4 of a wake from SLEEP is ready (R357, R389, R390); the scrubber completes its sweep (R340). -/
def State.wakeDone (s : State) (retained count : Nat) (snap : BitVec 64) : State :=
  let lost := s.lostBanks retained
  let s1 := ((s.wakeTime count snap).wakeLogic.recoverLayers lost).recoverCask lost |>.recoverStores lost
  let s2 := if s1.safety = 0 then s1.satWake.ledStart else s1.satWake
  let s3 := if s2.on LINK_CTRL.RL_EN then s2.rlStart else s2
  s3.sfStart.opKick.sweepParity

/-- WAKE_STAGE_READY: a stage of the wake gives its ready signal; `lost` are the banks whose CRC differs (stage 3), `count`
the always-on periods of the sleep (stage 4) (R356, R389). A wake from OFF, or without bank 27, becomes a cold boot. -/
def doWakeStageReady (lost count : Nat) (s : State) : State :=
  match s.power.asleep, s.power.wakeStage with
  | some (retained, snap), some k =>
    let next (t : State) : State := { t with power := { t.power with wakeStage := some (k + 1) } }
    if k = 1 then next s
    else if k = 2 then (if s.powerState = 3 then s.coldReset 10 0 else next s)
    else if k = 3 then
      (let s1 := s.retentionCheck lost
       if (s1.lostBanks retained).contains 27 then s1.coldReset 10 1 else next s1)
    else s.wakeDone retained count snap
  | _, _ => s

/-- WAKE_STAGE_TIMEOUT (R389). -/
def doWakeStageTimeout (s : State) : State :=
  match s.power.asleep, s.power.wakeStage with
  | some _, some k => s.coldReset 5 k
  | _, _ => (match s.justBefore.wake with | some k => s.lateCause 5 k | none => s)

/-- Reloads that are over leave the list; RELOADING falls with the last (R357). -/
def State.reloaded (s : State) (banks : List Nat) : State :=
  let r := s.mem.reload.filter fun b => !banks.contains b
  ({ s with mem := { s.mem with reload := r } }).wrB MEM_STATUS.RELOADING (!r.isEmpty)

/-- TRIM_RELOAD_DONE: the lost banks' part of the trim map is in place (R109, R357). A map that boot found unusable, or
whose reload meets an erased or uncorrectable page, stays not valid until the next boot (R467). -/
def doTrimReloadDone (s : State) : State :=
  let banks := s.mem.reload.filter fun b => b != 25
  if banks.isEmpty then s
  else
    let good := s.rd SYS_BOOT_LOAD.TRIM < 2 && banks.all fun b => s.rangeCode (regionBase 2 + (trimPart b).1) (trimPart b).2 == 0
    let s1 := banks.foldl State.copyTrim s.scanStep
    ({ s1 with pipe := { s1.pipe with trimValid := good } }).reloaded banks

/-- SYMBOL_LIBRARY_RELOAD_DONE (R162, R357). -/
def doSymbolReloadDone (s : State) : State :=
  if s.mem.reload.contains 25 then (s.scanStep.copySymbols.reloaded [25]).symRelease else s

/-! ## SHUTDOWN (R292, R422, R423) -/

/-- A store, or another SHUTDOWN, is in progress (R292). -/
def State.shutBusy (s : State) : Bool :=
  s.power.shut.isSome || s.cask.racking.isSome ||
  (match s.cellar.run with
    | some r => (match r.job with | .store _ _ _ _ => !r.copying | _ => false)
    | none => false) ||
  s.cellar.waiting.any fun w => match w.2 with | .cellarStore _ _ _ => true | _ => false

/-- The tests of a plan stop the compositors, the strip engines and the scan engine (R420, R421): what these had in progress is
given up. -/
def State.testsStop (s : State) (plan : Nat) : State :=
  let s1 := if bitN plan 13 then s.scanAbort else s
  if bitN plan 2 || bitN plan 14 then
    let s2 := (List.range 8).foldl (fun (t : State) k => t.memDrop 6 k) (s1.abandonComp.rackAbort.wr PIPE_SE_CTRL.ACTIVE 0)
    { s2 with tick := { s2.tick with passRunning := false, passWait := false, passDone := false } }
  else s1

/-- A forward lane starts again (R421). -/
def State.laneRestart (s : State) (n : Nat) : State := if s.lane n = laneOff then s else s.laneQuiet n laneSearch

/-- After the tests of a plan, the tested blocks start again from their registers, with their internal state at reset (R421): the
array's candidates and windows, the forward lanes and the return lane, the running registers of the CRC units. No register,
no store and no safety state is touched. -/
def State.testsReset (s : State) (plan : Nat) : State :=
  let s1 := if bitN plan 3 then { s with array := { s.array with cands := [] } } else s
  let s2 := if bitN plan 4 then { s1 with array := { s1.array with parked := List.range 8, armed := [] } } else s1
  let s3 := if bitN plan 8 then
      (let t := (List.range 4).foldl State.laneRestart s2
       if t.daelo.rl.running then t.rlStop.rlStart else t)
    else s2
  if bitN plan 13 then (List.range 4).foldl (fun t k => t.setCrc k (crcInit (t.crcAlg k))) s3 else s3

/-- The tests of the run in progress, in bit order: the plan of the SHUTDOWN as it stood at its start, or those of the boot
stage (R309, R420). -/
def State.testPlan (s : State) : List Nat :=
  match s.power.shut with
  | some h => (List.range 16).filter (bitN h.plan)
  | none => bootTests s.boot.stage s.boot.quick

/-- The tests of the run that are yet to begin. -/
def State.testsLeft (s : State) : List Nat := s.testPlan.filter (s.rd BIST_PROG.CURRENT < ·)

/-- The test in progress ends: its blocks start again, and what SAFE_PATH held acts (R421). -/
def State.testEnd (s : State) : State :=
  if !s.on BIST_PROG.ACTIVE then s
  else ((s.testsReset (2 ^ s.rd BIST_PROG.CURRENT)).wr BIST_PROG.ACTIVE 0).pathEnd

/-- Test `t` begins: its blocks stop (R421). -/
def State.testBegin (s : State) (t : Nat) : State := ((s.wr BIST_PROG.CURRENT t).wr BIST_PROG.ACTIVE 1).testsStop (2 ^ t)

/-- The test in progress ends, and the next one of the plan, if there is one, begins. -/
def State.testNext (s : State) : State :=
  match s.testsLeft with
  | t :: _ => s.testEnd.testBegin t
  | [] => s.testEnd

/-- The tests have gone on: how far is a free value (R420: each has its duration, none its time in the run). -/
def State.testStep (s : State) : State :=
  if !s.testing then s
  else
    let (n, s1) := s.fresh
    (List.range (Config.value n % (s.testsLeft.length + 1))).foldl (fun t _ => t.testNext) s1

/-- An event of a block that the tests `ts` exercise: none while one of them is in progress (R421). -/
def State.tested (s : State) (ts : List Nat) (f : State → State) : State :=
  if !s.testing then f s
  else
    let t := s.testStep
    if t.underTest ts then t else f t

/-- The tests of the run that are over. -/
def State.testsOver (s : State) : Nat :=
  testMask (s.testPlan.filter fun t => t < s.rd BIST_PROG.CURRENT || (t == s.rd BIST_PROG.CURRENT && !s.on BIST_PROG.ACTIVE))

/-- A read of BIST_PROG shows how far the tests have gone, and which of those that are over have failed: free values, which stand
from then on (R439, log entry 48). -/
def State.bistShow (s : State) : State :=
  let t := s.testStep
  let (n, t1) := t.fresh
  let more := Nat.land t.testsOver (65535 - t.test.judged)
  ({ t1 with test := { t1.test with judged := Nat.lor t.test.judged more } }).wr BIST_PROG.FAILED
    (Nat.lor (t.rd BIST_PROG.FAILED) (Nat.land (Config.value n) more))

/-- The failures of a run, where reads have shown the outcome of tests: one shown as passed has none, one shown as failed has one,
whose detail is a free value where the event names none (log entry 48). -/
def State.failsShown (s : State) (fails : List (Nat × Nat)) : List (Nat × Nat) :=
  if s.test.judged = 0 then fails
  else (List.range 16).flatMap fun t =>
    let own := fails.filter (·.1 == t)
    if !bitN s.test.judged t then own
    else if !bitN (s.rd BIST_PROG.FAILED) t then []
    else if own.isEmpty then [(t, Config.value s.free % 256)] else own

/-- The shut-down record with STATE = 2 is written, and the first test begins (R422). -/
def State.shutBegin (s : State) : State :=
  let r := BistRec.mk 2 (s.rd TICK_EPOCH.EPOCH % 65536) s.tick.tb 0 (s.rd BIST_PLAN_CFG.PLAN) 0 0 0xFFFF
  let t := s.scanStep
  let s1 := ({ t with cellar := { t.cellar with shutRec := some r }, test := { t.test with judged := 0 } }.pageWritten shutPage)
  let s2 := ((s1.wr BIST_STATUS.RUN 1).wr BIST_PROG.FAILED 0).wr BIST_PROG.ACTIVE 0
  match (List.range 16).find? (bitN (s.rd BIST_PLAN_CFG.PLAN)) with
  | some k => s2.testBegin k
  | none => s2.wr BIST_PROG.CURRENT 0

/-- SHUTDOWN (R292, R422). -/
def doShutdown (x : Ctx) (storeCfg force : Bool) (next : Nat) (s : State) : State :=
  if next = 0 ∨ 3 < next then s.answer x stBadParam []
  else if s.safety = 1 ∧ !force then s.answer x stRefused []
  else if s.shutBusy then s.answer x stNotNow []
  else
    let sh : Shut := ⟨x.handle, storeCfg, next, s.safety == 1, s.tick.tb, s.rd TICK_EPOCH.EPOCH, s.rd BIST_PLAN_CFG.PLAN, none⟩
    let s1 := ({ s.ledOff with power := { s.ledOff.power with shut := some sh, shutHold := true } }).shutBegin
    (s1.pend x.handle).opRequest 1

/-- The self-test of a SHUTDOWN as recorded (R310, R425): only planned tests count. -/
def Shut.outcome (h : Shut) (duration : Nat) (fails : List (Nat × Nat)) : BistRec :=
  let fs := fails.filter fun f => f.1 < 16 && bitN h.plan f.1
  let fail := testMask (fs.map (·.1))
  ⟨1, h.epoch % 65536, h.tb, duration, h.plan, h.plan - fail, fail, firstFail fs⟩

/-- The registers after the run (R439). -/
def State.shutShow (s : State) (r : BistRec) : State :=
  let last := ((List.range 16).reverse.find? (bitN r.plan)).getD (s.rd BIST_PROG.CURRENT)
  ((((s.wr BIST_STATUS.RUN 0).wr BIST_PROG.ACTIVE 0).wr BIST_PROG.FAILED r.fail).wr BIST_PROG.CURRENT last).setIf (r.fail != 0)
    BIST_STATUS.SHUT_FAIL

/-- SHUTDOWN ends INTERRUPTED: ACTIVE, force-zero released, the beam lit under R211 in LIMP (R292, R423). -/
def State.shutLimp (s : State) (h : Shut) : State := s.lightLimp.finish h.handle stInterrupted []

/-- SHUTDOWN ends: it completes and enters NEXT (R292). -/
def State.shutNext (s : State) (h : Shut) : State :=
  let s1 := s.finish h.handle stOk []
  if h.next = 1 then s1.enterIdle else s1.enterSleep h.next 0x0FFFFFFF (s.rd POWER_WAKE.MASK) 0

/-- The final store of a SHUTDOWN whose tests have ended begins, once no cellar write is in progress: the final record and,
with STORE_CFG, the CONFIG snapshot, in one journaled store (R301, R422). -/
def State.shutResume (s : State) : State :=
  match s.power.shut with
  | none => s
  | some h =>
    match h.record with
    | none => s
    | some r => if s.cellar.run.isSome then s else s.beginJob 0 (.shut r (if h.storeCfg then some s.snapshot else none))

/-- The final store of a SHUTDOWN is in progress. -/
def State.shutStoring (s : State) : Bool :=
  match s.cellar.run with
  | some r => (match r.job with | .shut _ _ => !r.copying | _ => false)
  | none => false

/-- The final store is committed, and the SHUTDOWN is over: INTERRUPTED if it began in LIMP or LIMP was entered during it (R292,
R423). Its copy-back goes on (R361). -/
def State.shutOver (s : State) : State :=
  match s.power.shut with
  | none => s
  | some h =>
    let s1 := { s with power := { s.power with shut := none, shutHold := false } }
    if h.limp then s1.shutLimp h else s1.shutNext h

/-- CELLAR_COMMIT_DONE (R361), and the end of a SHUTDOWN with it (R422). -/
def doCommitDone (s : State) : State := if s.shutStoring then (doCellarCommitDone s).shutOver else doCellarCommitDone s

/-- A SHUTDOWN ends early, and the device stays in IDLE (R292, R423). -/
def State.shutFails (s : State) (status : Nat) : State :=
  match s.power.shut with
  | none => s
  | some h =>
    let s1 := (if s.testing then s.testStep.testEnd else s).wr BIST_STATUS.RUN 0
    ({ s1 with power := { s1.power with shut := none, shutHold := false } }).enterIdle.finish h.handle status []

/-- VSYS_LOW (R371). A SHUTDOWN whose final store is lost with a page write ends in IDLE with a free status (log entry 35). -/
def doVsysLowAll (rail : Nat) (s : State) : State :=
  let t := doVsysLow rail s
  if s.shutStoring && !t.shutStoring then
    (let (n, t1) := t.fresh
     t1.shutFails (failStatuses.getD (Config.value n % 11) stAborted))
  else t.shutResume

/-- BIST_RUN_DONE: the planned tests have run with these failures, in `duration` us (R422, R423). Those that had not begun yet
have been run through. -/
def doBistRunDone (fails : List (Nat × Nat)) (duration : Nat) (s : State) : State :=
  match s.power.shut with
  | none => s
  | some h =>
    if h.record.isSome then s
    else
      let r := h.outcome duration (s.failsShown fails)
      let t := (List.range (s.testsLeft.length + 1)).foldl (fun t _ => t.testNext) { s with free := s.free + 1 }
      ({ t with power := { t.power with shut := some { h with record := some r } } }.shutShow r).shutResume

/-! ## BIST opcodes (R309, R310) -/

/-- BIST_PLAN (R309). -/
def doBistPlan (x : Ctx) (plan : Nat) (quick : Bool) (s : State) : State :=
  if 65536 ≤ plan then s.answer x stBadParam []
  else ((s.wr BIST_PLAN_CFG.PLAN plan).wrB BIST_PLAN_CFG.QUICK_START quick).answer x stOk []

/-- The reply where there is no record (R310, R425). -/
def noRecord : BistRec := ⟨0, 0, 0, 0, 0, 0, 0, 0⟩

/-- BIST_RESULT (R310). -/
def doBistResult (x : Ctx) (which : Nat) (s : State) : State :=
  if 1 < which then s.answer x stBadParam []
  else s.answer x stOk (((if which = 0 then s.shutRecord else s.bootRecord).getD noRecord).bytes)

end Sys2Proof.Machine
end

