-- ==== Sys2Proof/Machine/Therm.lean ====
section
/-!
DEFINITION. Temperature: sensors, throttle factor, thresholds and the thermal monitor (R399 to R408). Values are in
1/16 degrees C.
-/
namespace Sys2Proof.Machine

/-- Thresholds WARN, THR and SHUT of a region as used (R401), in 1/16 degrees C: array when `logic` is false. -/
def State.thresholds (s : State) (logic : Bool) : Int × Int × Int :=
  let (w, t, h) := if logic then (s.rd THERM_LOGIC_THR.WARN, s.rd THERM_LOGIC_THR.THR, clampN 110 160 (s.rd THERM_LOGIC_THR.SHUT))
    else (s.rd THERM_ARRAY_THR.WARN, s.rd THERM_ARRAY_THR.THR, clampN 100 150 (s.rd THERM_ARRAY_THR.SHUT))
  let thr := min t (h - 3)
  ((16 * min w thr : Nat), (16 * thr : Nat), (16 * h : Nat))

/-- Grid neighbours of array sensor i: Ti - 1 and Ti + 1 in the same row quarter, Ti - 4 and Ti + 4 (R405). -/
def gridNeighbours (i : Nat) : List Nat :=
  (if i % 4 = 0 then [] else [i - 1]) ++ (if i % 4 = 3 then [] else [i + 1]) ++ (if i < 4 then [] else [i - 4])
    ++ (if 12 ≤ i then [] else [i + 4])

/-- The largest of a list of temperatures, or `d` if it is empty. -/
def maxTemp (d : Int) : List Int → Int
  | [] => d
  | a :: r => r.foldl max a

/-- The median of a list, the mean of the middle two for an even number, doubled. -/
def median2 (l : List Int) : Int :=
  let m := l.mergeSort (· ≤ ·)
  let n := m.length
  m.getD ((n - 1) / 2) 0 + m.getD (n / 2) 0

/-- A conversion that fails its sensor at once (R405): none within 10 us, or outside -60 to 200 degrees C. -/
def badConversion (v : Option Int) : Bool :=
  match v with
  | none => true
  | some t => t < -960 || 3200 < t

/-- Sensor i reads far below its neighbours in this round (R405); `raw` are the conversions, `failed` the failed
sensors. -/
def lowReading (raw : List (Option Int)) (failed : List Nat) (i : Nat) : Bool :=
  match raw.getD i none with
  | none => false
  | some t =>
    let working (l : List Nat) : List Int := (l.filter fun j => !failed.contains j).filterMap fun j => raw.getD j none
    if i < 16 then
      let n := working (gridNeighbours i)
      !n.isEmpty && t * n.length < n.sum - 480 * n.length
    else
      let n := working [16, 17, 18, 19]
      !n.isEmpty && 2 * t < median2 n - 1280

/-- The values in use (R406): conversions, or substitutes for failed sensors. `hole` fills a substitute that has no
working sensor to take its value from. -/
def inUse (raw : List (Option Int)) (failed : List Nat) (thrL hole : Int) : List Int :=
  let conv (j : Nat) : Int := (raw.getD j none).getD hole
  let working (l : List Nat) : List Int := (l.filter fun j => !failed.contains j).map conv
  let allLogic := [16, 17, 18, 19].all failed.contains
  (List.range 24).map fun i =>
    if i < 16 then
      if !failed.contains i then conv i
      else if (gridNeighbours i).any failed.contains then maxTemp hole (working (List.range 16)) + 96
      else maxTemp hole (working (gridNeighbours i)) + 96
    else if allLogic then thrL
    else if failed.contains i then maxTemp hole (working [16, 17, 18, 19]) + 96
    else conv i

/-- tau_raw of R402. -/
def tauRaw (t thr shut : Int) : Nat :=
  if t ≤ thr then 32768 else if shut - 32 ≤ t then 6554
  else (32768 - rdivI (26214 * (t - thr)) (shut - 32 - thr).toNat).toNat

/-- The tau contribution of an NTC (R400): from 1.0 at THR to 0.2 at THR + 15 degrees C. -/
def ntcTau (t thr : Int) : Nat :=
  if t ≤ thr then 32768 else if thr + 240 ≤ t then 6554 else (32768 - rdivI (26214 * (t - thr)) 240).toNat

/-- The lowest tau contribution with every value raised by `up` (R402). -/
def State.tauMin (s : State) (vals : List Int) (up : Int) : Nat :=
  let (_, thr, shut) := s.thresholds false
  let arr := ((vals.take 16).map fun t => tauRaw (t + up) thr shut).foldl min 32768
  (List.range 2).foldl (fun m k =>
    if bitN (s.rd THERM_CTRL.NTC_EN) k then
      min m (if s.therm.ntcFail.getD k false then s.therm.ntcTau.getD k 32768
        else ntcTau (s.therm.ntc.getD k 0 + up) (16 * s.rd (THERM_NTC_CFG.THR k)))
    else m) arr

/-- The step of R402. -/
def tauStep (tau target relax : Nat) : Nat := if target < tau then target else max tau (min target relax)

/-- A threshold with 5 degrees C hysteresis (R401). -/
def hyst (was : Bool) (v lim : Int) : Bool := lim ≤ v || (was && lim - 80 ≤ v)

/-- The status word fields of one sensor (R410). -/
def State.showSensor (s : State) (i : Nat) (v : Int) (failed subst : Bool) : State :=
  ((s.wrI (THERM_T.VALUE i) v).wrB (THERM_T.SUBST i) subst).wrB (THERM_T.FAILED i) failed

/-- The cap of R403 and R407 shown, and a change acted on (R374). -/
def State.showCap (s : State) (cap : Bool) : State :=
  let s1 := (s.wrB THERM_THROTTLE.OP_CAP cap).wrB POWER_STATUS.OP_CAP cap
  if s.on THERM_THROTTLE.OP_CAP ∧ !cap then s1.opKick else s1

/-- tau with the caps of R407 and R408, shown in THERM_THROTTLE. -/
def State.showTau (s : State) (tau : Nat) (pair : Bool) (hold : Option (Nat × Bool)) : State :=
  let t1 := match hold with | some (m, _) => min m tau | none => tau
  let t2 := if pair then min 16384 t1 else t1
  (((s.wr THERM_THROTTLE.TAU t2).wrB THERM_THROTTLE.HOLD hold.isSome).wrB THERM_THROTTLE.PAIR_CAP pair).setIf
    (t2 < 32768 && s.rd THERM_THROTTLE.TAU == 32768) THERM_STATUS.THROTTLE_ARRAY

/-- Two failed array sensors are grid neighbours (R408). -/
def sensorPair (failed : List Nat) : Bool :=
  (List.range 16).any fun i => failed.contains i && (gridNeighbours i).any fun j => failed.contains j

/-- A logic-region detection stops cellar writes and ends a SHUTDOWN in IDLE, but for one whose store is being committed: a
commit is not stopped (R292, R364, R404, R423). -/
def State.logicShut (s : State) : State :=
  let s1 := s.thermalStop
  if s1.shutStoring then s1 else s1.shutFails stThermal

/-- The failed sensors and low-reading counters after a round (R405). -/
def State.judgeSensors (s : State) (raw : List (Option Int)) : List Nat × List Nat :=
  let f0 := s.therm.failed ++ ((List.range 24).filter fun i => !s.therm.failed.contains i && badConversion (raw.getD i none))
  let low := (List.range 24).map fun i =>
    if !f0.contains i && lowReading raw f0 i then s.therm.low.getD i 0 + 1 else 0
  (f0 ++ ((List.range 24).filter fun i => !f0.contains i && 20 ≤ low.getD i 0), low)

/-- Consecutive conversions at or above SHUT (R404); one above the sensor's range counts as one. For a sensor that had failed
before, the substitute in use takes the conversion's place (R406). -/
def State.judgeShut (s : State) (raw : List (Option Int)) (vals : List Int) : List Nat :=
  let (_, _, sa) := s.thresholds false
  let (_, _, sl) := s.thresholds true
  (List.range 24).map fun i =>
    match if s.therm.failed.contains i then some (vals.getD i 0) else raw.getD i none with
    | none => 0
    | some t => if (if i < 16 then sa else sl) ≤ t ∨ 3200 < t then s.therm.high.getD i 0 + 1 else 0

/-- The region warnings, throttles and registers of a round. -/
def State.showRegions (s : State) (vals : List Int) (failed : List Nat) : State :=
  let arr := maxTemp 0 (vals.take 16)
  let log := maxTemp 0 (vals.drop 16)
  let top := max arr log
  let idx := (vals.findIdx? (· == top)).getD 0
  let allLogic := [16, 17, 18, 19].all failed.contains
  let s1 := (List.range 24).foldl (fun t i => t.showSensor i (vals.getD i 0) (failed.contains i)
    (failed.contains i || (allLogic && 16 ≤ i))) s
  ((((s1.wrI THERM_REGION.ARRAY arr).wrI THERM_REGION.LOGIC log).wrI THERM_MAX.VALUE top).wr THERM_MAX.INDEX idx).wr
    THERM_FAIL.MASK (s.rd THERM_FAIL.MASK / 2 ^ 24 * 2 ^ 24 + (failed.map fun i => 2 ^ i).sum)

/-- Shut-down detections react (R404): status, OVERTEMP, cellar writes. -/
def State.shutReact (s : State) (high : List Nat) : State :=
  let da := (high.take 16).any (2 ≤ ·)
  let dl := (high.drop 16).any (2 ≤ ·)
  let s1 := (s.setIf da THERM_STATUS.SHUT_ARRAY).setIf dl THERM_STATUS.SHUT_LOGIC
  let s2 := if dl then s1.logicShut else s1
  if da || dl then s2.raise (cause 9) else s2

/-- SENSOR_CONVERSION: one round of conversions (R399 to R408). -/
def doSensorConversion (raw : List (Option Int)) (s : State) : State :=
  let (failed, low) := s.judgeSensors raw
  let newFail := failed.length != s.therm.failed.length
  let (wa, _, sa) := s.thresholds false
  let (wl, tl, sl) := s.thresholds true
  let (n, s0) := s.fresh
  let vals := inUse raw failed tl (Config.value n)
  let high := s.judgeShut raw vals
  let arr := maxTemp 0 (vals.take 16)
  let log := maxTemp 0 (vals.drop 16)
  let tau := tauStep s.therm.tau (s.tauMin vals 0) (s.tauMin vals 80)
  let pair := sensorPair failed
  let thrL := hyst s.therm.thrL log tl
  let shown := s.rd THERM_THROTTLE.TAU
  let newLogic := (failed.filter (16 ≤ ·)).length != (s.therm.failed.filter (16 ≤ ·)).length
  let hold := if newFail then
      some (min shown tau, (newLogic && s.therm.thrL) || (match s.therm.hold with | some h => h.2 | none => false))
    else s.therm.hold.map fun h => (min h.1 shown, h.2)
  let s1 := { s0 with therm := { s0.therm with
    vals := vals, failed := failed, low := low, high := high, tau := tau, hold := hold,
    warnA := hyst s.therm.warnA arr wa, warnL := hyst s.therm.warnL log wl, thrL := thrL,
    shutA := hyst s.therm.shutA arr sa || (high.take 16).any (2 ≤ ·),
    shutL := hyst s.therm.shutL log sl || (high.drop 16).any (2 ≤ ·) } }
  let s2 := (s1.showRegions vals failed).showTau tau pair hold
  let s3 := (s2.setIf (hyst s.therm.warnA arr wa && !s.therm.warnA) THERM_STATUS.WARN_ARRAY).setIf
    (hyst s.therm.warnL log wl && !s.therm.warnL) THERM_STATUS.WARN_LOGIC
  let cap := thrL || (match hold with | some h => h.2 | none => false)
  let s4 := (s3.setIf (cap && !s.on THERM_THROTTLE.OP_CAP) THERM_STATUS.THROTTLE_LOGIC).showCap cap
  let s5 := (s4.setIf newFail THERM_STATUS.SENSOR_FAIL).shutReact high
  if pair && !sensorPair s.therm.failed then s5.raise (cause 12) else s5

/-- THROTTLE_HOLD_EXPIRY: the second after a sensor failure ends (R407). -/
def doThrottleHoldExpiry (s : State) : State :=
  let s1 := { s with therm := { s.therm with hold := none } }
  (s1.showTau s1.therm.tau (s1.on THERM_THROTTLE.PAIR_CAP) none).showCap s1.therm.thrL

/-- Nominal resistance at 25 degrees C (R410). -/
def nomRes (c : Nat) : Nat := if c = 1 then 47000 else if c = 2 then 100000 else 10000

/-- ln (1 + z) - ln (1 - z) for z = `p` / 2^120, by the series 2 (z + z^3 / 3 + z^5 / 5 + ..): terms `k` and later, with
`pow` = z^(2 j + 1). -/
def atanhSum (p : Nat) : Nat → Nat → Nat → Nat
  | 0, _, _ => 0
  | k + 1, j, pow => 2 * pow / (2 * j + 1) + atanhSum p k (j + 1) (pow * p / 2 ^ 120 * p / 2 ^ 120)

/-- The natural logarithm of `a` / `b`, a ratio of at least 1 and below 2, in units of 2^-120. -/
def lnNear (a b : Nat) : Nat := let z := (a - b) * 2 ^ 120 / (a + b); atanhSum z 45 0 z

/-- The natural logarithm of `a` / `b`, times 2^120, by halving or doubling into the range of `lnNear`. -/
def lnRatio : Nat → Nat → Nat → Int
  | 0, a, b => lnNear a b
  | k + 1, a, b => if 2 * b ≤ a then lnRatio k a (2 * b) + lnNear 2 1 else if a < b then lnRatio k (2 * a) b - lnNear 2 1 else lnNear a b

/-- The temperature in 1/16 degrees C by the beta equation 1 / T = 1 / 298.15 K + ln (R / R25) / beta (R400), rounded; a free
value where the equation has no positive T. -/
def ntcTemp (beta nominal ohms : Nat) : Int :=
  let d : Int := 20 * beta * 2 ^ 120 + 5963 * lnRatio 16 ohms nominal
  let n : Int := 16 * 5963 * beta * 2 ^ 120
  if beta = 0 ∨ d ≤ 0 then Config.ntcTemp beta nominal ohms else rdivI (5 * n - 21852 * d) (5 * d).toNat

/-- NTC_MEASUREMENT of channel k (R400). -/
def doNtcMeasurement (k ohms : Nat) (s : State) : State :=
  if 1 < k ∨ !bitN (s.rd THERM_CTRL.NTC_EN) k ∨ s.therm.ntcFail.getD k false then s
  else if ohms < 50 ∨ 2000000 < ohms then
    (({ s with therm := { s.therm with ntcFail := s.therm.ntcFail.set k true } }).sets THERM_STATUS.NTC_FAIL).wr
      THERM_FAIL.MASK (Nat.lor (s.rd THERM_FAIL.MASK) (2 ^ (24 + k)))
  else
    let t := ntcTemp (s.rd (THERM_NTC_CFG.BETA k)) (nomRes (s.rd (THERM_NTC_CFG.NOM_RES k))) ohms
    let warn := hyst (s.therm.ntcWarn.getD k false) t (16 * s.rd (THERM_NTC_CFG.WARN k))
    let s1 := { s with therm := { s.therm with
      ntc := s.therm.ntc.set k t, ntcWarn := s.therm.ntcWarn.set k warn
      ntcTau := s.therm.ntcTau.set k (ntcTau t (16 * s.rd (THERM_NTC_CFG.THR k))) } }
    (s1.wrI (if k = 0 then THERM_NTC_T.NTC0 else THERM_NTC_T.NTC1) t).setIf (warn && !s.therm.ntcWarn.getD k false)
      THERM_STATUS.WARN_NTC

end Sys2Proof.Machine
end

