-- ==== Sys2Proof/Machine/Port.lean ====
section
/-!
DEFINITION. The register port: what a read returns and clears, how a written word is judged field by field, what a write
sets in motion, the key unlock, rejections and the parity scrubber (R52, R53, R320 to R343).
-/
namespace Sys2Proof.Machine

/-! ## Reading (R321, R336) -/

/-- The access code is the one of an S, K or other field that software can write. -/
def Acc.writable : Acc → Bool
  | .ro | .rc => false
  | _ => true

/-- The register holds a K field (R332). -/
def kReg (a : Nat) : Bool := (fieldsAt a).any fun f => f.acc == .rwk

/-- The register is hidden from a path by the privilege mode (R335). -/
def State.hidden (s : State) (src : Source) (a : Nat) : Bool := s.on SYS_COMPAT.PRIVMODE && isLink src && kReg a

/-- The unlock in force (R333): one whose millisecond has passed has lapsed. -/
def State.unlockNow (s : State) : Option Unlock := s.cmd.unlock.filter fun u => s.now ≤ u.time + 1000000

/-- Bit 0 or 1. -/
def bit1 (b : Bool) : Nat := if b then 1 else 0

/-- SYS_UNLOCK (R343). -/
def State.unlockWord (s : State) : Word :=
  match s.unlockNow with
  | none => 0
  | some u => BitVec.ofNat 32 (u.block + 256 + 512 * srcCode u.source + 65536 * ((u.time + 1000000 - s.now) / 1000))

/-- CMD_QSTATE (R277): the depth of each queue, and whether a barrier stands at its head. -/
def State.qstate (s : State) : Word :=
  let depth (q : Nat) : Nat := (s.cmd.queues.getD q []).length
  let head (q : Nat) : Nat := match s.cmd.queues.getD q [] with | .barrier _ :: _ => 1 | _ => 0
  BitVec.ofNat 32 (((List.range 5).map fun q => depth q % 32 * 2 ^ (5 * q) + head q * 2 ^ (25 + q)).sum)

/-- The ramp-clock period of bank 0 within its sub-frame (R30, R32), by the time since the tick. -/
def State.step0 (s : State) : Nat :=
  match s.tick.tickAt with
  | none => 0
  | some t => ((s.now - t) * (1024 * s.tick.nsf) / max 1 s.tick.frameLen + 896) % 1024

/-- A register shows what a running scan has read so far. -/
def State.scanRead (s : State) (a : Nat) : Bool := [0x10084, 0x10088].contains a && s.test.scan.isSome

/-- The registers whose value at a read is a measurement or a progress that the spec leaves open. -/
def State.openRead (s : State) (a : Nat) : Bool :=
  [0xC010, 0xC01C, 0xC020].contains a || (a == 0x7004 && s.cask.racking.isSome) || s.scanRead a
    || (a == 0x1300C && s.testing)

/-- The bits of a register that a field holds; the others are reserved and read 0 (R16). -/
def definedMask (a : Nat) : Word := (fieldsAt a).foldl (fun m f => fput m f.lo f.w (2 ^ f.w - 1)) 0

/-- What such a register reads as: measured voltages and currents, rows racked and bytes scanned so far (R149, R175,
R409, R439). -/
def State.openWord (s : State) (a : Nat) : Word :=
  let v := Config.value s.free
  if a = 0xC010 then fput (s.reg a) 16 13 v
  else if a = 0x7004 then s.rackStep.reg a
  else if a = 0x1300C then s.bistShow.reg a
  else if a = 0xC020 then BitVec.ofNat 32 (v % 8192 + 65536 * (Config.value (s.free + 1) % 65536))
  else match s.test.scan with
    | some r => if a = 0xC01C then BitVec.ofNat 32 v else (s.scanTo r (r.reach s.free)).reg a
    | none => BitVec.ofNat 32 v

/-- The RO parts of the SYS and CMD registers (R277, R343); SYS_KEY reads 0 (R334). -/
def State.viewSys (s : State) (a : Nat) : Word :=
  let v := s.reg a
  if a = 0x0004 then fput (fput v 5 1 (bit1 !s.cmd.rejFifo.isEmpty)) 6 1 (bit1 s.unlockNow.isSome)
  else if a = 0x0010 then 0
  else if a = 0x001C then s.cmd.rejFifo.headD 0
  else if a = 0x002C then s.unlockWord
  else if a = 0x1004 then fput v 0 1 (bit1 !s.cmd.cq.isEmpty)
  else if a = 0x100C then BitVec.ofNat 32 s.irqSrc
  else if a = 0x1010 then s.qstate
  else if a = 0x1014 then BitVec.ofNat 32 (s.cmd.handles.length + 65536 * s.nextHandle)
  else if a = 0x1018 then fput v 0 6 s.cmd.cq.length
  else v

/-- The RO parts of the TICK, ARRAY and PIPE registers (R55, R92, R123). -/
def State.viewDisplay (s : State) (a : Nat) : Word :=
  let v := s.reg a
  if a = 0x2014 then fput v 7 1 (bit1 (decide (min 2000 (s.rd TICK_LEAD.PRED_LEAD) < s.rd TICK_LEAD.EFF_LEAD)))
  else if a = 0x201C then fput v 16 10 s.step0
  else if a = 0x2030 then BitVec.ofNat 32 s.tick.tb.toNat
  else if a = 0x2034 then s.tick.tbShadow
  else if a = 0x2038 then BitVec.ofNat 32 s.tick.tstamp.toNat
  else if a = 0x203C then s.tick.tstampShadow
  else if a = 0x3010 then fput v 16 16 s.cutActive
  else if a = 0x3014 then fput v 16 5 s.array.killed.length
  else if a = 0x301C then BitVec.ofNat 32 s.array.faults.length
  else if 0x30A0 ≤ a ∧ a < 0x30C0 then (if s.forceZero then 0 else v)
  else if 0x3180 ≤ a ∧ a < 0x31C0 then s.rowkillWord ((a - 0x3180) / 4)
  else if a = 0x4000 then (if s.wholeFill then fput v 8 8 0 else v)
  else if a = 0x4004 then fput v 4 3 s.pipeStates
  else v

/-- The RO parts of the other blocks' registers (R149, R246, R369, R438). -/
def State.viewRest (s : State) (a : Nat) : Word :=
  let v := s.reg a
  if a = 0x5808 then fput v 8 8 s.layerEv
  else if a = 0x9004 then fput v 16 16 s.causesPresent
  else if a = 0x9044 then fput v 16 6 s.lockoutS
  else if a = 0x9050 then fput v 16 5 s.safe.log.length
  else if 0x10018 ≤ a ∧ a < 0x10058 ∧ a % 16 = 8 then s.crcValue ((a - 0x10018) / 16)
  else v

/-- The value that a read returns, without any side effect (R321). -/
def State.view (s : State) (a : Nat) : Word :=
  if (regFields a).isNone then 0
  else if s.openRead a then s.openWord a &&& definedMask a
  else if a < 0x2000 then s.viewSys a
  else if a < 0x5000 then s.viewDisplay a
  else s.viewRest a

/-- The RC bits of a register. -/
def rcBits (a : Nat) : List Nat :=
  (fieldsAt a).flatMap fun f => if f.acc == .rc then (List.range f.w).map fun i => f.lo + i else []

/-- The RC bits whose cause is absent clear (R336). -/
def State.clearRc (s : State) (a : Nat) : State :=
  ((rcBits a).filter fun b => !s.rcCause s.cfgErr a b).foldl (fun (t : State) b => t.wr ⟨a, b, 1⟩ 0) s

/-- The side effects of a read: the FIFO pops (R328), the upper word is copied (R52), RC bits clear (R336), an open
value is used up. -/
def State.readEffects (s : State) (a : Nat) : State :=
  if a = 0x001C then { s with cmd := { s.cmd with rejFifo := s.cmd.rejFifo.drop 1 } }
  else if a = 0x2030 then { s with tick := { s.tick with tbShadow := BitVec.ofNat 32 (s.tick.tb.toNat / 2 ^ 32) } }
  else if a = 0x2038 then { s with tick := { s.tick with tstampShadow := BitVec.ofNat 32 (s.tick.tstamp.toNat / 2 ^ 32) } }
  else if s.scanRead a then s.scanStep
  else if a = 0x7004 then s.rackStep
  else if a = 0x1300C ∧ s.testing then s.bistShow
  else if s.openRead a then { s with free := s.free + 2 }
  else s.clearRc a

/-- A read by a path: the word and the state after (R321, R335); the scrubber checks the register (R340). -/
def State.portRead (s : State) (src : Source) (a : Nat) : Word × State :=
  if s.hidden src a then (0, s.checkParity a) else (s.view a, (s.readEffects a).checkParity a)

/-- A plain sample by a path (R287). -/
def State.portSample (s : State) (src : Source) (a : Nat) : Word := if s.hidden src a then 0 else s.view a

/-! ## Judging a written word (R326 to R331, R335) -/

/-- A layer or scaler configuration register of a layer with a pending commit (R145). -/
def State.commitLocked (s : State) (a : Nat) : Bool :=
  ((0x5000 ≤ a && a < 0x5800) || (0x6000 ≤ a && a < 0x6800)) && a % 256 ≤ 0x28 && s.layerLocked (a / 256 % 8)

/-- The write clears a layer's EN, which is admitted while a commit is pending (R145). -/
def clearsEn (a : Nat) (v : Word) (f : FDesc) : Bool :=
  0x5000 ≤ a && a < 0x5800 && a % 256 == 0 && f.lo == 0 && fget v 0 1 == 0

/-- The write would enable a cut window (R330). -/
def enablesCut (a : Nat) (v : Word) (f : FDesc) : Bool :=
  0x3100 ≤ a && a < 0x3180 && a % 8 == 4 && f.lo == 31 && fget v 31 1 == 1

/-- The reasons for which a field refuses a write, as REASON codes, lowest first (R326, R328). -/
def State.reasons (s : State) (src : Source) (a : Nat) (unlocked : Bool) (v : Word) (f : FDesc) : List Nat :=
  if !f.acc.writable then []
  else
    (if f.acc == .rws && !s.safe.sealing.isEmpty then [0] else [])
    ++ (if f.acc == .wo1 && s.cmd.tagWritten then [1] else [])
    ++ (if f.acc == .rws && (s.sealState == 1 || s.sealState == 3) then [2] else [])
    ++ (if f.acc == .rwk && !unlocked then [3] else [])
    ++ (if s.hidden src a then [4] else [])
    ++ (if s.commitLocked a && !clearsEn a v f then [5] else [])
    ++ (if enablesCut a v f && s.safety != 0 then [6] else [])
    ++ (if f.acc == .rws && s.sealState == 2 && 16 ≤ s.safe.log.length then [7] else [])

/-- The value that a hardware update gives a field (R337). -/
def hwApply (w old : Nat) (u : HwUpd) : Nat := if u.count then min (2 ^ w - 1) (old + u.value) else u.value % 2 ^ w

/-- The new value of a field: `wr` is what software writes, `take` whether the field takes it, `u` a hardware update in
the same cycle (R17, R337). -/
def fieldNext (acc : Acc) (w old wr : Nat) (take : Bool) (u : Option HwUpd) : Nat :=
  let own := if take then wr else old
  let hard (d : Nat) : Nat := match u with | some h => hwApply w d h | none => d
  match acc with
  | .ro => hard old
  | .rc => match u with | some h => Nat.lor old (hwApply w old h) | none => old
  | .w1c => let left := old - Nat.land old wr
            match u with | some h => Nat.lor left (hwApply w old h) | none => left
  | .rwh | .req => match u with | some h => hwApply w old h | none => own
  | .cnt => hard own
  | .rw | .rwk | .rws | .wo1 => if take then wr else hard old

/-- The hardware update that falls on a field. -/
def hwOn (hw : List HwUpd) (f : FDesc) : Option HwUpd := hw.find? fun u => u.lo == f.lo && u.w == f.w

/-- The word of a register after a write: every field by itself (R326, R337). -/
def State.written (s : State) (src : Source) (a : Nat) (unlocked : Bool) (v : Word) (hw : List HwUpd) : Word :=
  (fieldsAt a).foldl (fun r f =>
    fput r f.lo f.w (fieldNext f.acc f.w (fget (s.reg a) f.lo f.w) (fget v f.lo f.w)
      (s.reasons src a unlocked v f).isEmpty (hwOn hw f))) (s.reg a)

/-- A field refuses the write and would have changed (R326). -/
def State.spoils (s : State) (src : Source) (a : Nat) (unlocked : Bool) (v : Word) (f : FDesc) : Bool :=
  !(s.reasons src a unlocked v f).isEmpty && fget v f.lo f.w != fget (s.reg a) f.lo f.w

/-- The lowest REASON of a rejected word; `none` for a word that is not rejected (R326, R328). -/
def State.rejection (s : State) (src : Source) (a : Nat) (unlocked : Bool) (v : Word) : Option Nat :=
  (((fieldsAt a).filter (s.spoils src a unlocked v)).flatMap (s.reasons src a unlocked v)).min?

/-- The record of a rejection (R328). -/
def rejRecord (a : Nat) (src : Source) (reason : Nat) : Word :=
  BitVec.ofNat 32 (a + 131072 * srcCode src + 524288 * reason + 2147483648)

/-- A rejected sealed write is logged, unless one to its address was logged within 100 ms (R329). An entry that the full queue
drops (R245) is not remembered. -/
def State.logSealed (s : State) (src : Source) (a : Nat) (v : Word) : State :=
  if s.safe.suppress.any fun e => e.1 == a && s.now < e.2 + 100000000 then s.inc SYS_LOCK_CNT.SUPPRESSED
  else if 16 ≤ s.safe.log.length then s.log a (s.view a) v (srcCode src) 1
  else
    let l := (s.safe.suppress.filter fun e => e.1 != a) ++ [(a, s.now)]
    ({ s with safe := { s.safe with suppress := l.drop (l.length - 8) } }).log a (s.view a) v (srcCode src) 1

/-- What a rejected word does (R327, R328). -/
def State.reject (s : State) (src : Source) (a reason : Nat) : State :=
  let s1 := (s.sets SYS_STATUS.LOCK_VIOLATION).inc SYS_LOCK_CNT.REJECTED
  if s.cmd.rejFifo.length < 16 then
    { s1 with cmd := { s1.cmd with rejFifo := s.cmd.rejFifo ++ [rejRecord a src reason] } }
  else s1.sets SYS_STATUS.REJ_OVF

/-! ## The key (R332 to R335) -/

/-- A write of SYS_KEY (R332, R334, R335): whether it is rejected, and the state after. -/
def State.keyWrite (s : State) (src : Source) (v : Word) : Bool × State :=
  if s.on SYS_COMPAT.PRIVMODE ∧ isLink src then (true, s.reject src 0x10 4)
  else if fget v 0 16 = 0xA5C3 ∧ fget v 21 11 = 0 then
    (false, { s with cmd := { s.cmd with unlock := some ⟨fget v 16 5, src, s.now⟩ } })
  else (false, ({ s with cmd := { s.cmd with unlock := none } }).sets SYS_STATUS.KEY_ERR)

/-- The unlock in force admits a write of this register by this path (R333). -/
def State.unlocks (s : State) (src : Source) (a : Nat) : Bool :=
  kReg a && s.unlockNow.any fun u => u.source == src && u.block == a / 4096

/-! ## What a write sets in motion -/

/-- A software write to a field that hardware maintains lost against hardware (R337). -/
def State.writeLost (s : State) (a : Nat) : State :=
  if a / 4096 = 3 then s.sets ARRAY_STATUS.WRITE_LOST
  else if a / 4096 = 4 then s.sets PIPE_STATUS.WRITE_LOST
  else (s.sets SYS_STATUS.WRITE_LOST).wr SYS_WRITE_LOST_ADDR.ADDR a

/-- A hardware-maintained field of the register is updated in the cycle of the write. -/
def losesWrite (a : Nat) (hw : List HwUpd) : Bool :=
  (fieldsAt a).any fun f => (f.acc == .rwh || f.acc == .req) && (hwOn hw f).isSome

/-- The time base is loaded (R53): and QUALITY becomes 0 (R398). -/
def State.loadTimeBase (s : State) : State :=
  let tb := BitVec.ofNat 64 (s.rd TICK_TB_SET_LO.TB + 2 ^ 32 * s.rd TICK_TB_SET_HI.TB)
  (({ s with tick := { s.tick with tb := tb } }).inc TICK_EPOCH.EPOCH).wr POWER_TIME.QUALITY 0

/-- The functions that a write of a direct field acts on at once (R322, R323). `old` is the word before, `v` the word
written, `adm` that every writable field of the register was admitted. -/
def State.afterWrite (s : State) (src : Source) (a : Nat) (old v : Word) (adm : Bool) : State :=
  if a = 0x2044 then (if adm then s.loadTimeBase else s)
  else if 0x3100 ≤ a ∧ a < 0x3180 ∧ a % 8 = 4 then s.colsWritten src ((a - 0x3104) / 8)
  else if a = 0x4000 then s.runWritten (s.rd PIPE_SE_CTRL.RUN)
  else if a = 0x4014 then s.scaleWritten
  else if 0x5000 ≤ a ∧ a < 0x5800 ∧ a % 256 = 0 then (if fget v 0 1 = 0 then s.layerOff (a / 256 % 8) else s)
  else if a = 0x8000 then s.linkCtrlWritten old
  else if a = 0x900C then s.setIf s.degraded SAFE_STATUS.IN_DEGRADED
  else if a = 0xA000 then (s.wr MEM_CTRL.HOLD_TO (max 16 (s.rd MEM_CTRL.HOLD_TO))).wr MEM_CTRL.STARVE (max 1 (s.rd MEM_CTRL.STARVE))
  else if 0xA040 ≤ a ∧ a < 0xA060 then s.wr (MEM_BURST.LIMIT ((a - 0xA040) / 4)) (min 256 (s.rd (MEM_BURST.LIMIT ((a - 0xA040) / 4))))
  else if a = 0xC014 then s.wr POWER_VLED_TRIM.TRIM s.vledTrim
  else if a = 0xC018 then s.wr POWER_LED_ILIM.ILIM s.ilim
  else if a = 0xA00C then (if adm then s.inmapWritten (s.reg a) else s)
  else if a = 0xC000 then s.opRequest (s.rd POWER_CTRL.OP)
  else if 0x10010 ≤ a ∧ a < 0x10050 ∧ a % 16 = 0 then s.crcCtrlWritten ((a - 0x10010) / 16) (fget old 0 2)
  else if 0x10010 ≤ a ∧ a < 0x10050 ∧ a % 16 = 4 then (s.setReg a 0).crcData ((a - 0x10010) / 16) v
  else if a = 0x10080 then (if fget v 0 1 = 0 then s.scanAbort else s)
  else s

/-- The written word in the register: parity good again once a covered field is written (R339, R341), the tag's own state
(R331), an accepted sealed write in PROVISIONAL logged (R243, R244). -/
def State.storeWord (s : State) (src : Source) (a : Nat) (unlocked : Bool) (v : Word) (hw : List HwUpd) : State :=
  let took (c : Acc) : Bool := (fieldsAt a).any fun f => f.acc == c && (s.reasons src a unlocked v f).isEmpty
  let covered := (fieldsAt a).any fun f => f.acc.covered && ((s.reasons src a unlocked v f).isEmpty || (hwOn hw f).isSome)
  let w := s.written src a unlocked v hw
  let s1 := if covered then s.setReg a w else s.putReg a w
  let s2 := { s1 with cmd := { s1.cmd with tagWritten := s.cmd.tagWritten || took .wo1 } }
  let s3 := if s.sealState = 2 ∧ took .rws then s2.log a (s.view a) v (srcCode src) 0 else s2
  if losesWrite a hw then s3.writeLost a else s3

/-- A write through the port (R326 to R337): whether the word is rejected, and the state after. A write of CELLAR_CTRL
during a store is ignored (R325). -/
def State.portWrite (s : State) (src : Source) (a : Nat) (v : Word) (hw : List HwUpd) : Bool × State :=
  if (regFields a).isNone then (false, s)
  else if a = 0x10 then ({ s with since := s.since.written 0x10 0 32 }).keyWrite src v
  else if a = 0xB000 ∧ s.enLocked then (false, s.sets CELLAR_STATUS.BUSY_WRITE)
  else
    let unlocked := s.unlocks src a
    let adm := (fieldsAt a).all fun f => (s.reasons src a unlocked v f).isEmpty
    let s1 := s.storeWord src a unlocked v hw
    let s2 := if unlocked then { s1 with cmd := { s1.cmd with unlock := none } } else s1
    let s3 := s2.afterWrite src a (s.reg a) v adm
    match s.rejection src a unlocked v with
    | none => (false, s3)
    | some r =>
      let sealed := (fieldsAt a).any fun f => f.acc == .rws && s.spoils src a unlocked v f
      let s4 := s3.reject src a r
      (true, if sealed ∧ (s.sealState = 1 ∨ s.sealState = 3) then s4.logSealed src a v else s4)

/-! ## Register opcodes (R284 to R287) -/

/-- The address of a register access is legal (R15, R284). -/
def regAddrOk (a : Nat) : Bool := a % 4 == 0 && a ≤ 0x13FFC

/-- The addresses of an access of `n` words (R285). -/
def regAddrs (a n : Nat) (fixed : Bool) : List Nat := (List.range n).map fun i => if fixed then a else a + 4 * i

/-- Words read in order. -/
def State.readWords (s : State) (src : Source) (as : List Nat) : List Byte × State :=
  as.foldl (fun (p : List Byte × State) a =>
    let r := p.2.portRead src a
    (p.1 ++ leBytes 4 r.1.toNat, r.2)) ([], s)

/-- REG_READ (R284, R285). -/
def doRegRead (x : Ctx) (a n : Nat) (fixed : Bool) (s : State) : State :=
  if n = 0 ∨ (if x.handle = 0 then 512 else 4) < n ∨ !(regAddrs a n fixed).all regAddrOk then s.answer x stBadParam []
  else
    let r := s.readWords x.src (regAddrs a n fixed)
    r.2.answer x stOk r.1

/-- Words written in order: which were rejected, and the state after. -/
def State.writeWords (s : State) (src : Source) (ws : List (Nat × Word)) : List Bool × State :=
  ws.foldl (fun (p : List Bool × State) w =>
    let r := p.2.portWrite src w.1 w.2 []
    (p.1 ++ [r.1], r.2)) ([], s)

/-- The result of REG_WRITE (R286). -/
def writeResult (rej : List Bool) : List Byte :=
  leBytes 2 (rej.filter id).length
    ++ (List.range ((rej.length + 7) / 8)).map fun k =>
      BitVec.ofNat 8 (((List.range 8).map fun j => if rej.getD (8 * k + j) false then 2 ^ j else 0).sum)

/-- REG_WRITE (R284, R286). -/
def doRegWrite (x : Ctx) (a : Nat) (fixed : Bool) (data : List Word) (s : State) : State :=
  let as := regAddrs a data.length fixed
  if data = [] ∨ (if x.handle = 0 then 512 else 64) < data.length ∨ !as.all regAddrOk then s.answer x stBadParam []
  else
    let r := s.writeWords x.src (as.zip data)
    r.2.answer x (if r.1.any id then stLocked else stOk) (writeResult r.1)

/-- REG_MODIFY (R284, R287): `hw` are the hardware updates that fall on the register in the cycle of the write. -/
def doRegModify (x : Ctx) (a : Nat) (mask value : Word) (hw : List HwUpd) (s : State) : State :=
  if !regAddrOk a then s.answer x stBadParam []
  else
    let r := s.portRead x.src a
    let w := r.2.portWrite x.src a ((r.1 &&& ~~~mask) ||| (value &&& mask)) hw
    w.2.answer x (if w.1 then stLocked else stOk)
      (leBytes 4 r.1.toNat ++ leBytes 4 (w.2.portSample x.src a).toNat)

/-! ## Events at the port -/

/-- A write by a path, as an event. -/
def State.write (s : State) (src : Source) (a : Nat) (v : Word) : State := (s.portWrite src a v []).2

/-- REGISTER_WRITE (R326): an address that is no register address writes nothing. -/
def doRegisterWrite (src : Source) (a : Nat) (v : Word) (hw : List HwUpd) (s : State) : State := (s.portWrite src a v hw).2

/-- A read by a path, as an event. -/
def State.readAt (s : State) (src : Source) (a : Nat) : State := (s.portRead src a).2

/-- RC_STATUS_READ (R336). -/
def doRcStatusRead (src : Source) (a : Nat) (s : State) : State := s.readAt src a

/-- REJ_FIFO_POP (R328). -/
def doRejFifoPop (src : Source) (s : State) : State := s.readAt src 0x1C

/-- TIME_BASE_READ_LO (R52). -/
def doTimeBaseReadLo (src : Source) (stamp : Bool) (s : State) : State := s.readAt src (if stamp then 0x2038 else 0x2030)

/-- UNLOCK_LAPSE (R333). -/
def doUnlockLapse (s : State) : State := { s with cmd := { s.cmd with unlock := none } }

/-! ## The scrubber (R340, R341) -/

/-- SCRUB_CHECK (R340, R341): the scrubber checks a register; `bad` where its stored bits have been upset since the last
check. In SLEEP and in a cold reset the scrubber stands still, and the upset stays until the next sweep. In a warm reset it
sweeps on (R460), but the error of a safety-class register, whose cause a stopped SF cannot answer, stays until a sweep after the
reset (DESIGN CHOICE, log entry 94). -/
def doScrubCheck (a : Nat) (bad : Bool) (s : State) : State :=
  let s1 := if bad && parityCovered a && !s.since.upset.contains a then { s with since := { s.since with upset := a :: s.since.upset } } else s
  if !s.refRuns || (s.inReset && safetyClass a) then s1 else s1.checkParity a

end Sys2Proof.Machine
end

