-- ==== Sys2Proof/Machine/Packet.lean ====
section
/-!
DEFINITION. The command engine: the SYSTEM opcodes, packets and their checks, replies and reply fetches, the queues,
barriers and CANCEL (R247 to R293, R466).
-/
namespace Sys2Proof.Machine

/-- The command engine runs: from the completion of boot or the entry to a held boot, outside sleep and wake (R247, R387,
R466). -/
def State.engineOn (s : State) : Bool := (s.boot.stage == 11 || s.boot.held) && !s.inReset && !s.sleeping

/-! ## SYSTEM opcodes (R280 to R293) -/

/-- NOP (R280). -/
def doNop (x : Ctx) (s : State) : State := s.answer x stOk []

/-- The 26 bytes of IDENTIFY (R282). Before an image runs the compatibility level is open. -/
def State.identifyBytes (s : State) : List Byte :=
  let compat := match s.boot.fw with | some f => f.compat | none => Config.value s.free
  leBytes 2 0x1310 ++ leBytes 1 0xB0 ++ leBytes 1 (if Config.gradeL then 76 else 65) ++ leBytes 1 (if Config.window2 then 50 else 49)
    ++ leBytes 1 0 ++ leBytes 8 Config.serial.toNat ++ leBytes 3 (s.rd SYS_BOOT_FW.VER) ++ leBytes 1 compat
    ++ leBytes 1 (s.rd SYS_BOOT_FW.SLOT) ++ leBytes 1 0 ++ leBytes 1 8 ++ leBytes 1 4 ++ leBytes 2 2048 ++ leBytes 2 640

/-- IDENTIFY (R282). -/
def doIdentify (x : Ctx) (s : State) : State := ({ s with free := s.free + 1 }).answer x stOk s.identifyBytes

/-- The 28 bytes of STATUS (R283). -/
def State.statusBytes (s : State) : List Byte :=
  leBytes 1 s.safety ++ leBytes 1 s.sealState ++ leBytes 2 (s.rd SAFE_CAUSE.LATCHED) ++ leBytes 2 s.causesPresent
    ++ leBytes 1 (s.rd LINK_STATUS.STATE_A) ++ leBytes 1 (s.rd LINK_STATUS.STATE_B) ++ leBytes 4 s.tickCount ++ leBytes 4 s.irqSrc
    ++ ((List.range 5).flatMap fun q => leBytes 1 (s.cmd.queues.getD q []).length) ++ leBytes 1 s.cmd.cq.length
    ++ leBytes 1 s.powerState ++ leBytes 1 (s.rd POWER_STATUS.OP) ++ leBytes 2 (s.rd THERM_MAX.VALUE)
    ++ leBytes 1 (s.rd CMD_STATUS.CQ_OVF + 2 * s.rd TICK_STATUS.REPEAT + 4 * s.rd LINK_STATUS.LAME + 8 * (s.pipeStates % 2)
      + 16 * s.rd SAFE_STATUS.HOST_SEEN) ++ leBytes 1 0

/-- STATUS (R283). -/
def doStatus (x : Ctx) (s : State) : State := s.answer x stOk s.statusBytes

/-- The place of a handle in a queue, counted from the head. -/
def placeOf (h : Nat) : List QEnt → Nat → Nat
  | [], _ => 0xFF
  | e :: r, n => if e.is h then n else placeOf h r (n + 1)

/-- The 28 bytes of QUERY_HANDLE (R288). -/
def State.handleBytes (s : State) (e : HandleEnt) : List Byte :=
  leBytes 2 e.h ++ leBytes 1 e.st ++ leBytes 1 e.op ++ leBytes 1 (if e.st = 3 then e.status else 1) ++ leBytes 1 e.queue
    ++ leBytes 1 (if e.st = 0 then placeOf e.h (s.cmd.queues.getD e.queue []) 0 else 0xFF)
    ++ leBytes 1 (bit1 e.posted + 2 * bit1 e.lost) ++ leBytes 4 e.ticks.toNat ++ e.result

/-- QUERY_HANDLE (R288). -/
def doQueryHandle (x : Ctx) (h : Nat) (s : State) : State :=
  match s.handle h with
  | none => s.answer x stUnknown []
  | some e => s.answer x stOk (s.handleBytes e)

/-- The 8 bytes of a completion (R264). -/
def Completion.bytes (c : Completion) : List Byte := leBytes 2 c.h ++ leBytes 1 c.op ++ leBytes 1 c.status ++ leBytes 4 c.ticks.toNat

/-- READ_COMPLETIONS (R289). -/
def doReadCompletions (x : Ctx) (max : Nat) (s : State) : State :=
  if max = 0 ∨ 32 < max then s.answer x stBadParam []
  else
    let out := s.cmd.cq.take max
    let left := s.cmd.cq.drop max
    ({ s with cmd := { s.cmd with cq := left } }).answer x stOk
      (leBytes 1 out.length ++ leBytes 1 left.length ++ leBytes 2 (s.rd CMD_CQ_STATUS.LOST) ++ out.flatMap Completion.bytes)

/-- RESET_DEVICE (R293): the reset window opens. -/
def doResetDevice (x : Ctx) (kind key : Nat) (s : State) : State :=
  if 1 < kind ∨ key ≠ 0x5A then s.answer x stBadParam []
  else
    let s1 := s.answer x stOk []
    { s1 with boot := { s1.boot with window := some (kind == 1, 0) } }

/-! ## Fences (R268 to R271) -/

/-- The queues that a mask names. -/
def queuesOf (qmask : Nat) : List Nat := (List.range 5).filter (bitN qmask)

/-- A named handle is earlier than the fence with handle `own`, the issue number `issued` (R269). -/
def State.earlier (s : State) (own h : Nat) : Bool :=
  if s.cmd.handles.any (·.h == h) then h != own
  else
    let d := (own + 65535 - h) % 65535
    h != 0 && h ≤ 65535 && 1 ≤ d && d ≤ 32767 && d < s.cmd.issued

/-- The entry was accepted in one of the named queues: its own, or for a fence any queue that holds its barrier. -/
def State.inQueues (s : State) (qs : List Nat) (e : HandleEnt) : Bool :=
  qs.contains e.queue || qs.any fun q => (s.cmd.queues.getD q []).any (QEnt.is e.h)

/-- Handles of the entries not yet DONE that satisfy a condition, other than `own`. -/
def State.openHandles (s : State) (own : Nat) (p : HandleEnt → Bool) : List Nat :=
  (s.cmd.handles.filter fun e => e.st != 3 && e.h != own && p e).map (·.h)

/-- The named handles that are still to be awaited. -/
def State.openNamed (s : State) (hs : List Nat) : List Nat :=
  hs.filter fun h => s.cmd.handles.any fun e => e.h == h && e.st != 3

/-- The barrier is placed at the tail of every named queue (R268). -/
def State.placeBarrier (s : State) (f : Fence) (qs : List Nat) : State :=
  { s with cmd := { s.cmd with
    fences := s.cmd.fences ++ [f]
    queues := (List.range 5).map fun q =>
      let l := s.cmd.queues.getD q []
      if qs.contains q then l ++ [.barrier f.h] else l } }

/-- A named queue is full (R268). -/
def State.anyFull (s : State) (qs : List Nat) : Bool := qs.any fun q => 16 ≤ (s.cmd.queues.getD q []).length

/-- FENCE (R268, R269). -/
def doFence (x : Ctx) (qmask : Nat) (all : Bool) (handles : List Nat) (s : State) : State :=
  let qs := queuesOf qmask
  if qs = [] ∨ 8 < handles.length ∨ !handles.all (s.earlier x.handle) then s.answer x stBadParam []
  else if s.anyFull qs then s.answer x stQueueFull []
  else
    let rest := if all then s.openHandles x.handle fun _ => true
      else if handles = [] then s.openHandles x.handle (s.inQueues qs) else []
    s.placeBarrier ⟨x.handle, s.openNamed handles ++ rest, .plain, false⟩ qs

/-- FENCE_TICK (R270). -/
def doFenceTick (x : Ctx) (qmask mode value : Nat) (s : State) : State :=
  let qs := queuesOf qmask
  if qs = [] ∨ 1 < mode ∨ (mode = 0 ∧ (value = 0 ∨ 65535 < value)) then s.answer x stBadParam []
  else if s.anyFull qs then s.answer x stQueueFull []
  else
    let waits := s.openHandles x.handle (s.inQueues qs)
    let passed := mode = 1 ∧ (s.tickCount + 2 ^ 32 - value) % 2 ^ 32 < 2 ^ 31
    s.placeBarrier ⟨x.handle, waits, if mode = 0 then .relative value else .absolute value, waits.isEmpty && decide passed⟩ qs

/-- A fence completes and its barriers go. -/
def State.endFence (s : State) (h status : Nat) : State :=
  let s1 := s.finish h status []
  { s1 with cmd := { s1.cmd with fences := s1.cmd.fences.filter (·.h != h) } }

/-- BARRIER_RELEASE (R268): a fence that waits for nothing more is released. -/
def doBarrierRelease (h : Nat) (s : State) : State :=
  if s.cmd.fences.any fun f => f.h == h && f.waits.isEmpty && f.kind == .plain then s.endFence h stOk else s

/-- FENCE_TICK_RELEASE (R270): a FENCE_TICK whose tick has come is released. -/
def doFenceTickRelease (h : Nat) (s : State) : State :=
  if s.cmd.fences.any fun f => f.h == h && f.due && f.kind != .plain then s.endFence h stOk else s

/-! ## CANCEL (R272, R280, R290) -/

/-- A command that waits for its tick is dropped (R280). -/
def State.cancelTick (s : State) (h : Nat) : Option State :=
  if s.cmd.tickCmds.any (·.1 == h) then
    some (({ s with cmd := { s.cmd with tickCmds := s.cmd.tickCmds.filter (·.1 != h) } }).finish h stAborted [])
  else none

/-- The CANCEL column of R280 for a command that is EXECUTING or PENDING; `none` is NOT_NOW. -/
def State.cancelRunning (s : State) (op h : Nat) : Option State :=
  match op with
  | 0x20 => s.cancelCommit h
  | 0x22 => s.cancelCommit h
  | 0x21 => if s.cask.racking.any (·.handle == h) then some s.rackAbort else none
  | 0x42 => s.cancelStore h
  | 0x60 => if s.cal.run.any (·.handle == h) then some (s.calEnd CAL_STATUS.INTERRUPTED stAborted) else s.cancelTick h
  | 0x64 => if s.test.scan.any (·.handle == h) then some s.scanAbort else none
  | 0x29 => s.cancelTick h
  | 0x65 => s.cancelTick h
  | 0x78 => s.cancelTick h
  | 0x7C => s.cancelTick h
  | 0x7D => s.cancelTick h
  | _ => none

/-- CANCEL (R272, R290). -/
def doCancel (x : Ctx) (h : Nat) (s : State) : State :=
  match s.handle h with
  | none => s.answer x stUnknown []
  | some e =>
    if e.st = 3 then s.answer x stNotNow []
    else if s.cmd.fences.any (·.h == h) then (s.endFence h stAborted).answer x stOk []
    else if e.st = 0 then (s.finish h stAborted []).answer x stOk []
    else match s.cancelRunning e.op h with
      | some t => t.shutResume.answer x stOk []
      | none => s.answer x stNotNow []

/-! ## Performing a command -/

/-- A command is performed only while the engine runs; a held boot completes all but a few opcodes NOT_NOW (R247, R466). -/
def State.perform (s : State) (x : Ctx) (op : Nat) (f : State → State) : State :=
  if !s.engineOn then s
  else if s.boot.held && !heldOp x.ptype op then s.answer x stNotNow []
  else f s

/-- The meaning of a SYSTEM command. -/
def systemCmd (x : Ctx) (c : Cmd) (s : State) : State :=
  match c with
  | .nop => doNop x s
  | .identify => doIdentify x s
  | .status => doStatus x s
  | .regRead a n fixed => doRegRead x a n fixed s
  | .regWrite a fixed data => doRegWrite x a fixed data s
  | .regModify a mask value => doRegModify x a mask value [] s
  | .fence q all hs => doFence x q all hs s
  | .fenceTick q mode value => doFenceTick x q mode value s
  | .queryHandle h => doQueryHandle x h s
  | .readCompletions m => doReadCompletions x m s
  | .cancel h => doCancel x h s
  | .setPowerState st op retain wake ms => doSetPowerState x st op retain wake ms s
  | .shutdown cfg force next => doShutdown x cfg force next s
  | .resetDevice kind key => doResetDevice x kind key s
  | _ => s

/-- The meaning of a DISPLAY command. -/
def displayCmd (x : Ctx) (c : Cmd) (s : State) : State :=
  match c with
  | .layerCommit mask => doLayerCommit x mask s
  | .rack beam mask w k => doRack x beam mask w k s
  | .caskSelect mask beam => doCaskSelect x mask beam s
  | .cutWindowSet w y0 y1 g0 g1 => doCutWindowSet x w y0 y1 g0 g1 s
  | .cutWindowClear mask => doCutWindowClear x mask s
  | .symbolLoad i first last off w h wm cl fmt crc doff data => doSymbolLoad x i first last off w h wm cl fmt crc doff data s
  | .coefLoad set coef => doCoefLoad x set coef s
  | .rampLoad ramp => doRampLoad x ramp s
  | .mixLoad table es => doMixLoad x table es s
  | .regionSigSet k en check point x0 y0 x1 y1 expect => doRegionSigSet x k en check point x0 y0 x1 y1 expect s
  | _ => s

/-- The meaning of a CELLAR command. -/
def cellarCmd (x : Ctx) (c : Cmd) (s : State) : State :=
  match c with
  | .cellarRead src r off n => doCellarRead x src r off n s
  | .cellarWrite soff data => doCellarWrite x soff data s
  | .cellarStore r off len => doCellarStore x r off len s
  | .cellarInfo => doCellarInfo x s
  | .firmwareStage slot first last off total crc data => doFirmwareStage x slot first last off total crc data s
  | .firmwareActivate slot reboot => doFirmwareActivate x slot reboot s
  | _ => s

/-- The meaning of a TEST command. -/
def testCmd (x : Ctx) (c : Cmd) (s : State) : State :=
  match c with
  | .calibrate mode colours strips frames => doCalibrate x mode colours strips frames s
  | .bistPlan plan quick => doBistPlan x plan quick s
  | .bistResult which => doBistResult x which s
  | .scanCheck space alg compare start len expect => doScanCheck x space alg compare start len expect s
  | .monitorConfig mon en log2 source shift x0 y0 x1 y1 frames => doMonitorConfig x mon en log2 source shift x0 y0 x1 y1 frames s
  | .monitorRead mon clear => doMonitorRead x mon clear s
  | .faultMapRead start max clear => doFaultMapRead x start max clear s
  | .rowKill row op persist => doRowKill x row op persist s
  | _ => s

/-- The meaning of a SAFETY command. -/
def safetyCmd (x : Ctx) (c : Cmd) (s : State) : State :=
  match c with
  | .sealRead => doSealRead x s
  | .sealConfirm code => doSealConfirm x code s
  | .passwordUnlock op len pw => doPasswordUnlock x op len pw s
  | .changeLogRead first max => doChangeLogRead x first max s
  | .safeStateRelease => doSafeStateRelease x s
  | .groupConfig role member count => doGroupConfig x role member count s
  | .groupStatus => doGroupStatus x s
  | .satConfig len timing en tcomp => doSatConfig x len timing en tcomp s
  | .satWrite first words => doSatWrite x first words s
  | _ => s

/-- A decoded command executes in its context. -/
def State.runCmd (s : State) (x : Ctx) (c : Cmd) : State :=
  let op := opcodeOf c
  s.perform x op fun t =>
    match queueOf op with
    | 0 => systemCmd x c t
    | 1 => displayCmd x c t
    | 2 => cellarCmd x c t
    | 3 => testCmd x c t
    | _ => safetyCmd x c t

/-! ## Queues (R261, R262, R385) -/

/-- A handshake keeps a command QUEUED: a block that answered READY starts no new work of its kind (R385). -/
def State.heldBack (s : State) (op : Nat) : Bool :=
  s.power.hs.any fun h => h.ready.contains 1 || (h.ready.contains 7 && op == 0x21)
    || (h.ready.contains 11 && [0x42, 0x45, 0x46, 0x71, 0x72].contains op) || (h.ready.contains 14 && op == 0x60)
    || (h.ready.contains 16 && op == 0x64) || (h.ready.contains 19 && op == 0x0E)

/-- QUEUE_ENTRY_START (R262): the command at the head of a queue starts executing. -/
def doQueueEntryStart (q : Queue) (s : State) : State :=
  if !s.engineOn then s
  else match s.cmd.queues.getD (queueNum q) [] with
    | .cmd x c :: _ =>
      if (s.handle x.handle).any (·.st == 0) && !s.heldBack (opcodeOf c) then
        (s.setHandle x.handle fun e => { e with st := 1 }).runCmd x c
      else s
    | _ => s

/-- The command places barriers instead of entering a queue. -/
def isFence (c : Cmd) : Bool := match c with | .fence .. => true | .fenceTick .. => true | _ => false

/-- The queue that a command's handle names: for a fence, the lowest queue in QMASK (R288). -/
def queueField (c : Cmd) : Nat :=
  match c with
  | .fence q _ _ => (queuesOf q).headD 0
  | .fenceTick q _ _ => (queuesOf q).headD 0
  | _ => queueOf (opcodeOf c)

/-- The tail of a queue. -/
def State.enqueue (s : State) (q : Nat) (e : QEnt) : State :=
  { s with cmd := { s.cmd with queues := s.cmd.queues.set q (s.cmd.queues.getD q [] ++ [e]) } }

/-- Stages 6 and 7 of R256 for a queued command: admission, handle and ACCEPTED; a fence places its barriers at once. -/
def State.enterQueue (s : State) (x : Ctx) (c : Cmd) : State :=
  let q := queueField c
  if 64 ≤ s.liveHandles ∨ (!isFence c ∧ 16 ≤ (s.cmd.queues.getD q []).length) then s.reply x false stQueueFull []
  else
    let h := s.nextHandle
    let y : Ctx := { x with handle := h }
    let s1 := (s.issue (opcodeOf c) q x.cqSkip).reply x true stAccepted (leBytes 2 h)
    if isFence c then s1.runCmd y c else s1.enqueue q (.cmd y c)

/-! ## Checking a packet (R256, R258) -/

/-- A packet failed stage 1, 2 or 3. -/
def State.rejectPacket (s : State) (x : Ctx) (status : Nat) : State :=
  let s1 := s.sets CMD_STATUS.REJECT
  let s2 := if status = stBadLength then s1.inc CMD_ERR_CNT.LENGTH else if status = stBadCrc then s1.inc CMD_ERR_CNT.CRC else s1
  s2.reply x false status []

/-- The first packet that passes stage 2 (R234). -/
def State.hostSeen (s : State) : State :=
  if s.on SAFE_STATUS.HOST_SEEN then s else (s.sets SAFE_STATUS.HOST_SEEN).lightLimp

/-- The reply that a fetch returns: its bytes (R255). -/
def State.fetched (s : State) (seq : Nat) (inFlight : Bool) : List Byte :=
  if inFlight then replyBytes seq stNotNow []
  else match s.cmd.last.find? (·.1 == seq) with
    | some r => replyBytes seq r.2.1 r.2.2
    | none => replyBytes seq stBadParam []

/-- The summary byte (R253). -/
def State.summary (s : State) : Nat :=
  bit1 s.cmd.answered + 2 * bit1 (!s.cmd.cq.isEmpty) + 4 * bit1 s.irqN + 8 * s.safety + 32 * s.rd CMD_STATUS.CQ_OVF

/-- SDO in a frame that fetches a reply: summary, 0xFF to the end of the packet and for 2 bytes, the reply (R253, R254). -/
def fetchFrame (summary : Nat) (reply : List Byte) : List Byte := leBytes 1 summary ++ List.replicate 10 0xFF ++ reply

/-- A fetched reply goes to SDO or to the return lane (R248, R255). A fetch is no packet whose reply bit 0 of the summary would
tell of (DESIGN CHOICE, log entry 107: R253 does not say whether it counts as the last packet received). -/
def State.sendFetched (s : State) (src : Source) (summary : Nat) (reply : List Byte) : State :=
  if isLink src then
    ({ s with cmd := { s.cmd with serial := s.cmd.serial + 1 } }).pushCtl (.reply s.cmd.serial reply false)
  else { s with pins := { s.pins with sdo := fetchFrame summary reply } }

/-- REPLY_FETCH (R253 to R255). While the engine does not run, a frame from SPI carries 0xFF only (R247), and until the end of
boot stage 2 nothing (R488). -/
def doReplyFetch (src : Source) (seq : Nat) (inFlight : Bool) (s : State) : State :=
  if !s.engineOn then
    (if src = .spi ∧ s.boot.stage < 3 then { s with pins := { s.pins with sdo := [] } }
    else if src = .spi then
      { s with pins := { s.pins with sdo := List.replicate (11 + (s.fetched seq inFlight).length) 0xFF } } else s)
  else s.hostSeen.sendFetched src s.summary (s.fetched seq inFlight)

/-- Stages 5 to 7 of R256. -/
def State.decodeStage (s : State) (x : Ctx) (p : Packet) : State :=
  match decodePacket p with
  | .inr st => (if st = stBadLength then s.inc CMD_ERR_CNT.LENGTH else s).reply x true st []
  | .inl (c, skip) =>
    let y : Ctx := { x with cqSkip := skip }
    if p.ptype = 1 ∨ immediateOp (opcodeOf c) then s.runCmd y c else s.enterQueue y c

/-- Stage 4 of R256: duplicates and conflicts (R258). -/
def State.sequenceStage (s : State) (x : Ctx) (p : Packet) : State :=
  match s.cmd.kept.find? (·.seq == p.seq) with
  | none => (s.inc CMD_PKT_CNT.COUNT).decodeStage x p
  | some r =>
    if r.ptype = p.ptype ∧ r.len = p.len ∧ r.crc = p.crc then
      ((s.inc CMD_ERR_CNT.DUP).setIf (p.flags % 2 == 0) CMD_STATUS.DUP_NORETRY).reply x false stDuplicate r.payload
    else ((s.inc CMD_ERR_CNT.CONFLICT).sets CMD_STATUS.SEQ_CONFLICT).reply x false stConflict []

/-- The context of a packet. -/
def Packet.ctx (p : Packet) (src : Source) : Ctx := ⟨src, p.seq, p.ptype, p.len, p.crc, 0, false⟩

/-- Stages 2 and 3 of R256; a reply fetch ends here. In the window of a reset only fetches are answered (R293). -/
def State.packet (s : State) (src : Source) (summary : Nat) (p : Packet) : State :=
  let x := p.ctx src
  let fetch := p.ptype = 3 ∧ p.len = 1 ∧ p.crcOk
  if s.boot.window.isSome ∧ ¬ fetch then s
  else if !p.crcOk then s.rejectPacket x stBadCrc
  else
    let s1 := s.hostSeen
    if p.ptype = 0 ∨ 3 < p.ptype then s1.rejectPacket x stBadParam
    else if p.ptype = 3 then
      (if p.len = 1 then s1.sendFetched src summary (s1.fetched (u8 p.payload 0) false) else s1.rejectPacket x stBadLength)
    else s1.sequenceStage x p

/-- Stage 1 of R256: a packet as it reaches the command engine. -/
def State.packetIn (s : State) (src : Source) (summary : Nat) (bs : List Byte) : State :=
  if !s.engineOn then s
  else match frame bs with
    | .nothing => s
    | .badLength seq => if s.boot.window.isSome then s else s.rejectPacket ⟨src, seq, 0, 0, 0, 0, false⟩ stBadLength
    | .packet p =>
      if u8 bs 0 = 0xA6 then s.packet src summary p
      else if s.boot.window.isSome then s else s.rejectPacket (p.ctx src) stBadLength

/-- SPI_FRAME (R252 to R254): the bytes on SDI while CS_N is low. SDO carries the summary byte and, for a fetch, the
reply; while the engine does not run it carries 0xFF only (R247), and until the end of boot stage 2 SDO is high impedance and nothing
is evaluated (R460, R488). In the window of a reset a frame that begins otherwise than with 0xA6 sets no FRAME_ERR, and a bad
packet sets no REJECT and no counter (DESIGN CHOICE, log entry 19: R293 says only that such packets are discarded without a
reply). -/
def doSpiFrame (bytes : List Byte) (s : State) : State :=
  let n := bytes.length
  if s.boot.stage < 3 then { s with pins := { s.pins with sdo := [] } }
  else if !s.engineOn then { s with pins := { s.pins with sdo := List.replicate n 0xFF } }
  else
    let sm := s.summary
    let s0 := { s with pins := { s.pins with sdo := leBytes 1 sm } }
    let s1 := if n = 0 then s0
      else if u8 bytes 0 ≠ 0xA6 then (if s.boot.window.isSome then s0 else s0.sets CMD_STATUS.FRAME_ERR)
      else s0.packetIn .spi sm bytes
    { s1 with pins := { s1.pins with sdo := (s1.pins.sdo ++ List.replicate n 0xFF).take n } }

/-- The source of link `k`. -/
def linkSource (k : Nat) : Source := if k = 0 then .linkA else .linkB

/-- The packets that the links completed reach the command engine (R197, R207). -/
def State.drainInbox (s : State) : State :=
  s.daelo.inbox.foldl (fun (t : State) p => t.packetIn (linkSource p.1) 0 p.2)
    { s with daelo := { s.daelo with inbox := [] } }

end Sys2Proof.Machine
end

