-- ==== Sys2Proof/Machine/Exec.lean ====
section
/-!
DEFINITION. How every command ends, and when it has an effect at all: while reset is held and in sleep the engines stand
still (R383, R387, R460), and packets that a link completes reach the command engine in the same event (R197).
-/
namespace Sys2Proof.Machine

/-- A command ends: the pins follow the state (R213, R266, R382, R71), and the queue of waiting commands is the one it
found. `s` and `t` are the states before and after. -/
def ends (s t : State) : Host.Outcome State Fault Refusal := .next { settle t with pending := s.pending }

/-- An event of a clocked part: nothing happens while reset is held or the device sleeps. -/
def State.live (s : State) (f : State → State) : State := if s.inReset || s.sleeping then s else f s

/-- An event of what runs with the reference, also in a warm reset (R460). -/
def State.withRef (s : State) (f : State → State) : State := if s.refRuns then f s else s

/-- An access by a path: a host's needs the command engine (R247), the device's own only a clock (R320, R328). -/
def State.access (s : State) (src : Source) (f : State → State) : State :=
  if src = .device then s.live f else if s.engineOn then f s else s

/-- An event of the link: a packet that it completes reaches the command engine (R197). -/
def State.linkEvent (s : State) (f : State → State) : State := (s.live f).drainInbox

/-- A block boundary of the return lane: in sleep it still sends what is pending at entry (R387). -/
def State.rlEvent (s : State) (f : State → State) : State :=
  let r := s.daelo.rl
  if s.inReset || (s.sleeping && r.tick.isNone && r.loss.isEmpty && r.train.isEmpty && r.ctl.isEmpty) then s else f s

end Sys2Proof.Machine
end

