-- ==== Sys2Proof/Machine/ExecCellar.lean ====
section
/-!
DEFINITION. The CELLAR opcodes as their executor performs them (R300 to R307).
-/
namespace Sys2Proof.Machine

/-- CELLAR_READ (R304). -/
def execCellarRead (x : Ctx) (src region offset n : Nat) (s : State) : Host.Outcome State Fault Refusal :=
  ends s (s.perform x 0x40 (doCellarRead x src region offset n))

/-- CELLAR_WRITE (R302). -/
def execCellarWrite (x : Ctx) (soff : Nat) (data : List Byte) (s : State) : Host.Outcome State Fault Refusal :=
  ends s (s.perform x 0x41 (doCellarWrite x soff data))

/-- CELLAR_STORE (R303). -/
def execCellarStore (x : Ctx) (region offset len : Nat) (s : State) : Host.Outcome State Fault Refusal :=
  ends s (s.perform x 0x42 (doCellarStore x region offset len))

/-- CELLAR_INFO (R305). -/
def execCellarInfo (x : Ctx) (s : State) : Host.Outcome State Fault Refusal :=
  ends s (s.perform x 0x44 (doCellarInfo x))

/-- FIRMWARE_STAGE (R306). -/
def execFirmwareStage (x : Ctx) (slot : Nat) (first last : Bool) (offset total crc : Nat) (data : List Byte) (s : State) : Host.Outcome State Fault Refusal :=
  ends s (s.perform x 0x45 (doFirmwareStage x slot first last offset total crc data))

/-- FIRMWARE_ACTIVATE (R307). -/
def execFirmwareActivate (x : Ctx) (slot : Nat) (reboot : Bool) (s : State) : Host.Outcome State Fault Refusal :=
  ends s (s.perform x 0x46 (doFirmwareActivate x slot reboot))

end Sys2Proof.Machine
end

