-- ==== Sys2Proof/Machine/ExecDisplay.lean ====
section
/-!
DEFINITION. The DISPLAY opcodes as their executor performs them (R294 to R299).
-/
namespace Sys2Proof.Machine

/-- LAYER_COMMIT (R143). -/
def execLayerCommit (x : Ctx) (mask : Nat) (s : State) : Host.Outcome State Fault Refusal :=
  ends s (s.perform x 0x20 (doLayerCommit x mask))

/-- RACK (R170). -/
def execRack (x : Ctx) (beam mask bgW bgC : Nat) (s : State) : Host.Outcome State Fault Refusal :=
  ends s (s.perform x 0x21 (doRack x beam mask bgW bgC))

/-- CASK_SELECT (R174). -/
def execCaskSelect (x : Ctx) (mask beam : Nat) (s : State) : Host.Outcome State Fault Refusal :=
  ends s (s.perform x 0x22 (doCaskSelect x mask beam))

/-- CUT_WINDOW_SET (R295). -/
def execCutWindowSet (x : Ctx) (win y0 y1 g0 g1 : Nat) (s : State) : Host.Outcome State Fault Refusal :=
  ends s (s.perform x 0x23 (doCutWindowSet x win y0 y1 g0 g1))

/-- CUT_WINDOW_CLEAR (R295). -/
def execCutWindowClear (x : Ctx) (mask : Nat) (s : State) : Host.Outcome State Fault Refusal :=
  ends s (s.perform x 0x24 (doCutWindowClear x mask))

/-- SYMBOL_LOAD (R161). -/
def execSymbolLoad (x : Ctx) (index : Nat) (first last : Bool) (offset width height warm cool format crc doff : Nat) (data : List Byte) (s : State) : Host.Outcome State Fault Refusal :=
  ends s (s.perform x 0x25 (doSymbolLoad x index first last offset width height warm cool format crc doff data))

/-- COEF_LOAD (R153). -/
def execCoefLoad (x : Ctx) (set : Nat) (coef : List Byte) (s : State) : Host.Outcome State Fault Refusal :=
  ends s (s.perform x 0x26 (doCoefLoad x set coef))

/-- RAMP_LOAD (R60). -/
def execRampLoad (x : Ctx) (ramp : List Nat) (s : State) : Host.Outcome State Fault Refusal :=
  ends s (s.perform x 0x27 (doRampLoad x ramp))

/-- MIX_LOAD (R95). -/
def execMixLoad (x : Ctx) (table : Nat) (entries : List (Nat × Nat)) (s : State) : Host.Outcome State Fault Refusal :=
  ends s (s.perform x 0x28 (doMixLoad x table entries))

/-- REGION_SIG_SET (R299). -/
def execRegionSigSet (x : Ctx) (index : Nat) (en check : Bool) (point x0 y0 x1 y1 expect : Nat) (s : State) : Host.Outcome State Fault Refusal :=
  ends s (s.perform x 0x29 (doRegionSigSet x index en check point x0 y0 x1 y1 expect))

end Sys2Proof.Machine
end

