-- ==== Sys2Proof/Machine/ExecEngine.lean ====
section
/-!
DEFINITION. The events of the command engine: SPI frames, reply fetches, queue starts, barrier releases, the start of a reset (R247 to R293).
-/
namespace Sys2Proof.Machine

/-- SPI_FRAME (R252). -/
def execSpiFrame (bytes : List Byte) (s : State) : Host.Outcome State Fault Refusal :=
  ends s (doSpiFrame bytes s)

/-- REPLY_FETCH (R255). -/
def execReplyFetch (src : Source) (seq : Nat) (inFlight : Bool) (s : State) : Host.Outcome State Fault Refusal :=
  ends s (doReplyFetch src seq inFlight s)

/-- QUEUE_ENTRY_START (R262). -/
def execQueueEntryStart (q : Queue) (s : State) : Host.Outcome State Fault Refusal :=
  ends s (doQueueEntryStart q s)

/-- BARRIER_RELEASE (R268). -/
def execBarrierRelease (h : Nat) (s : State) : Host.Outcome State Fault Refusal :=
  ends s (s.live (doBarrierRelease h))

/-- FENCE_TICK_RELEASE (R270). -/
def execFenceTickRelease (h : Nat) (s : State) : Host.Outcome State Fault Refusal :=
  ends s (s.live (doFenceTickRelease h))

/-- RESET_DEVICE_START (R293). -/
def execResetDeviceStart (lost : Nat) (s : State) : Host.Outcome State Fault Refusal :=
  ends s (doResetDeviceStart lost s)

end Sys2Proof.Machine
end

