-- ==== Sys2Proof/Machine/ExecFrame.lean ====
section
/-!
DEFINITION. The events of the frame: ticks, passes, compositions, slots, windows, calibration, FSYNC.
-/
namespace Sys2Proof.Machine

/-- OP_STEP_DONE (R373). -/
def execOpStepDone (s : State) : Host.Outcome State Fault Refusal :=
  ends s (s.live doOpStepDone)

/-- TICK (R42). -/
def execTick (s : State) : Host.Outcome State Fault Refusal :=
  ends s (doTick s)

/-- PREDICTION_PASS_START (R501). -/
def execPredictionPassStart (s : State) : Host.Outcome State Fault Refusal :=
  ends s (s.live fun t => t.tested [2, 14] doPredictionPassStart)

/-- PREDICTION_PASS_DONE (R104). -/
def execPredictionPassDone (s : State) : Host.Outcome State Fault Refusal :=
  ends s (s.live fun t => t.tested [2, 14] doPredictionPassDone)

/-- VLED_TARGET_HANDOVER (R378). -/
def execVledTargetHandover (s : State) : Host.Outcome State Fault Refusal :=
  ends s (s.live doVledTargetHandover)

/-- DECISION_POINT (R125). -/
def execDecisionPoint (s : State) : Host.Outcome State Fault Refusal :=
  ends s (s.live fun t => t.tested [2, 14] doDecisionPoint)

/-- COMPOSITION_DONE (R27). -/
def execCompositionDone (cp : Nat) (s : State) : Host.Outcome State Fault Refusal :=
  ends s (s.live fun t => t.tested [2, 14] (doCompositionDone cp))

/-- RACK_DONE (R173). -/
def execRackDone (s : State) : Host.Outcome State Fault Refusal :=
  ends s (s.live fun t => t.tested [2, 14] doRackDone)

/-- SLOT_START (R116). -/
def execSlotStart (s : State) : Host.Outcome State Fault Refusal :=
  ends s (s.live fun t => t.tested [] doSlotStart)

/-- WRITE_WINDOW_OPEN (R63). -/
def execWriteWindowOpen (bank : Nat) (s : State) : Host.Outcome State Fault Refusal :=
  ends s (s.live fun t => t.tested [4] (doWriteWindowOpen bank))

/-- ROW_SLOT (R65). -/
def execRowSlot (y : Nat) (shorts opens : List (Nat × Bool)) (progress : List Nat) (s : State) : Host.Outcome State Fault Refusal :=
  ends s (s.live fun t => t.tested [3] (doRowSlot y shorts opens progress))

/-- WRITE_WINDOW_END (R63). -/
def execWriteWindowEnd (bank : Nat) (s : State) : Host.Outcome State Fault Refusal :=
  ends s (s.live fun t => t.tested [4] (doWriteWindowEnd bank))

/-- DARK_SLOT_START (R48). -/
def execDarkSlotStart (s : State) : Host.Outcome State Fault Refusal :=
  ends s (s.live doDarkSlotStart)

/-- DARK_SLOT_END (R71). -/
def execDarkSlotEnd (s : State) : Host.Outcome State Fault Refusal :=
  ends s (s.live doDarkSlotEnd)

/-- CAL_SAMPLE (R412). -/
def execCalSample (sub i : Nat) (readings : List Nat) (s : State) : Host.Outcome State Fault Refusal :=
  ends s (s.live fun t => t.tested [5, 6] (doCalSample sub i readings))

/-- CAL_FIT_DONE (R414). -/
def execCalFitDone (s : State) : Host.Outcome State Fault Refusal :=
  ends s (s.live doCalFitDone)

/-- FSYNC_EDGE (R45). -/
def execFsyncEdge (s : State) : Host.Outcome State Fault Refusal :=
  ends s (s.live doFsyncEdge)

/-- FSYNC_WINDOW_MISS (R45). -/
def execFsyncWindowMiss (s : State) : Host.Outcome State Fault Refusal :=
  ends s (s.live doFsyncWindowMiss)

end Sys2Proof.Machine
end

