-- ==== Sys2Proof/Machine/ExecGroupEvents.lean ====
section
/-!
DEFINITION. The events of the group bus and the satellite chain.
-/
namespace Sys2Proof.Machine

/-- GSYNC_EDGE (R446). -/
def execGsyncEdge (s : State) : Host.Outcome State Fault Refusal :=
  ends s (s.live doGsyncEdge)

/-- GSYNC_EDGE_MISSED (R447). -/
def execGsyncEdgeMissed (s : State) : Host.Outcome State Fault Refusal :=
  ends s (s.live doGsyncEdgeMissed)

/-- GROUP_SLOT_SEND (R441). -/
def execGroupSlotSend (collision : Bool) (s : State) : Host.Outcome State Fault Refusal :=
  ends s (s.live (doGroupSlotSend collision))

/-- GROUP_SLOT_WORD (R441). -/
def execGroupSlotWord (m : Nat) (levels : List Bool) (s : State) : Host.Outcome State Fault Refusal :=
  ends s (s.live (doGroupSlotWord m levels))

/-- GROUP_EXCHANGE_END (R449). -/
def execGroupExchangeEnd (s : State) : Host.Outcome State Fault Refusal :=
  ends s (s.live doGroupExchangeEnd)

/-- SAT_FRAME_START (R453). -/
def execSatFrameStart (s : State) : Host.Outcome State Fault Refusal :=
  ends s (s.live doSatFrameStart)

/-- SAT_FRAME_END (R453). -/
def execSatFrameEnd (s : State) : Host.Outcome State Fault Refusal :=
  ends s (s.live doSatFrameEnd)

end Sys2Proof.Machine
end

