-- ==== Sys2Proof/Machine/ExecLinkEvents.lean ====
section
/-!
DEFINITION. The events of the Daelo link.
-/
namespace Sys2Proof.Machine

/-- VIDEO_BLOCK (R131). -/
def execVideoBlock (lane seq : Nat) (payload : List Byte) (s : State) : Host.Outcome State Fault Refusal :=
  ends s (s.linkEvent fun t => t.tested [8] (doBlock 0x1C lane seq payload))

/-- GUARD_BLOCK (R194). -/
def execGuardBlock (lane seq : Nat) (payload : List Byte) (s : State) : Host.Outcome State Fault Refusal :=
  ends s (s.linkEvent fun t => t.tested [8] (doBlock 0x5C lane seq payload))

/-- CONTROL_BLOCK (R195). -/
def execControlBlock (lane seq : Nat) (payload : List Byte) (s : State) : Host.Outcome State Fault Refusal :=
  ends s (s.linkEvent fun t => t.tested [8] (doBlock 0x7C lane seq payload))

/-- IDLE_BLOCK (R190). -/
def execIdleBlock (lane seq : Nat) (payload : List Byte) (s : State) : Host.Outcome State Fault Refusal :=
  ends s (s.linkEvent fun t => t.tested [8] (doBlock 0x9C lane seq payload))

/-- PATTERN (R188). -/
def execPattern (lane seq : Nat) (payload : List Byte) (s : State) : Host.Outcome State Fault Refusal :=
  ends s (s.linkEvent fun t => t.tested [8] (doTrainBlock lane seq payload))

/-- RATE_REQ (R205). -/
def execRateReq (lane seq : Nat) (payload : List Byte) (s : State) : Host.Outcome State Fault Refusal :=
  ends s (s.linkEvent fun t => t.tested [8] (doTrainBlock lane seq payload))

/-- RATE_GO (R185). -/
def execRateGo (lane seq : Nat) (payload : List Byte) (s : State) : Host.Outcome State Fault Refusal :=
  ends s (s.linkEvent fun t => t.tested [8] (doTrainBlock lane seq payload))

/-- RESTRIPE (R193). -/
def execRestripe (lane seq : Nat) (payload : List Byte) (s : State) : Host.Outcome State Fault Refusal :=
  ends s (s.linkEvent fun t => t.tested [8] (doTrainBlock lane seq payload))

/-- EI_ENTER (R198). -/
def execEiEnter (lane seq : Nat) (payload : List Byte) (s : State) : Host.Outcome State Fault Refusal :=
  ends s (s.linkEvent fun t => t.tested [8] (doTrainBlock lane seq payload))

/-- EI_EXIT (R198). -/
def execEiExit (lane seq : Nat) (payload : List Byte) (s : State) : Host.Outcome State Fault Refusal :=
  ends s (s.linkEvent fun t => t.tested [8] (doTrainBlock lane seq payload))

/-- RETRAIN (R182). -/
def execRetrain (lane seq : Nat) (payload : List Byte) (s : State) : Host.Outcome State Fault Refusal :=
  ends s (s.linkEvent fun t => t.tested [8] (doTrainBlock lane seq payload))

/-- INVALID_BLOCK (R182). -/
def execInvalidBlock (lane : Nat) (groups : List Nat) (s : State) : Host.Outcome State Fault Refusal :=
  ends s (s.linkEvent fun t => t.tested [8] (doInvalidBlock lane groups))

/-- LOSS_OF_SIGNAL (R182). -/
def execLossOfSignal (lane : Nat) (squelch : Bool) (s : State) : Host.Outcome State Fault Refusal :=
  ends s (s.linkEvent fun t => t.tested [8] (doLossOfSignal lane squelch))

/-- COMMA_RUN (R182). -/
def execCommaRun (lane : Nat) (s : State) : Host.Outcome State Fault Refusal :=
  ends s (s.linkEvent fun t => t.tested [8] (doCommaRun lane))

/-- HUNT_TIMEOUT (R182). -/
def execHuntTimeout (lane : Nat) (s : State) : Host.Outcome State Fault Refusal :=
  ends s (s.linkEvent fun t => t.tested [8] (doHuntTimeout lane))

/-- TRAIN_TIMEOUT (R189). -/
def execTrainTimeout (lane : Nat) (s : State) : Host.Outcome State Fault Refusal :=
  ends s (s.linkEvent fun t => t.tested [8] (doTrainTimeout lane))

/-- TAP_REQ_REPEAT (R188). -/
def execTapReqRepeat (lane : Nat) (s : State) : Host.Outcome State Fault Refusal :=
  ends s (s.linkEvent fun t => t.tested [8] (doTapReqRepeat lane))

/-- RATE_STEP_TIMEOUT (R186). -/
def execRateStepTimeout (link : Nat) (s : State) : Host.Outcome State Fault Refusal :=
  ends s (s.linkEvent fun t => t.tested [8] (doRateStepTimeout link))

/-- EI_EXIT_TIMEOUT (R198). -/
def execEiExitTimeout (lane : Nat) (s : State) : Host.Outcome State Fault Refusal :=
  ends s (s.linkEvent fun t => t.tested [8] (doEiExitTimeout lane))

/-- IDLE_RETENTION_EXPIRY (R199). -/
def execIdleRetentionExpiry (lane : Nat) (s : State) : Host.Outcome State Fault Refusal :=
  ends s (s.linkEvent fun t => t.tested [8] (doIdleRetentionExpiry lane))

/-- DESKEW_WAIT_EXPIRY (R191). -/
def execDeskewWaitExpiry (link : Nat) (s : State) : Host.Outcome State Fault Refusal :=
  ends s (s.linkEvent fun t => t.tested [8] (doDeskewWaitExpiry link))

/-- RL_BLOCK_BOUNDARY (R202). -/
def execRlBlockBoundary (s : State) : Host.Outcome State Fault Refusal :=
  ends s (s.rlEvent fun t => t.tested [8] doRlBlockBoundary)

end Sys2Proof.Machine
end

