-- ==== Sys2Proof/Machine/ExecPort.lean ====
section
/-!
DEFINITION. Register accesses as events: a write or read at the port, and the rows that name one register (R320 to R343).
-/
namespace Sys2Proof.Machine

/-- REGISTER_WRITE (R326). -/
def execRegisterWrite (src : Source) (addr : Nat) (v : Word) (hw : List HwUpd) (s : State) : Host.Outcome State Fault Refusal :=
  ends s (s.access src (doRegisterWrite src addr v hw))

/-- RC_STATUS_READ (R336). -/
def execRcStatusRead (src : Source) (addr : Nat) (s : State) : Host.Outcome State Fault Refusal :=
  ends s (s.access src (doRcStatusRead src addr))

/-- REJ_FIFO_POP (R328). -/
def execRejFifoPop (src : Source) (s : State) : Host.Outcome State Fault Refusal :=
  ends s (s.access src (doRejFifoPop src))

/-- TIME_BASE_READ_LO (R52). -/
def execTimeBaseReadLo (src : Source) (stamp : Bool) (s : State) : Host.Outcome State Fault Refusal :=
  ends s (s.access src (doTimeBaseReadLo src stamp))

/-- SYS_KEY_WRITE (R332). -/
def execSysKeyWrite (src : Source) (v : Word) (s : State) : Host.Outcome State Fault Refusal :=
  ends s (s.access src fun t => t.write src 0x10 v)

/-- UNLOCK_LAPSE (R333). -/
def execUnlockLapse (s : State) : Host.Outcome State Fault Refusal :=
  ends s (s.live doUnlockLapse)

/-- TIME_BASE_LOAD (R53). -/
def execTimeBaseLoad (src : Source) (v : Word) (s : State) : Host.Outcome State Fault Refusal :=
  ends s (s.access src fun t => t.write src 0x2044 v)

/-- CUT_COLS_WRITE (R75). -/
def execCutColsWrite (src : Source) (w : Nat) (v : Word) (s : State) : Host.Outcome State Fault Refusal :=
  ends s (s.access src fun t => t.write src (0x3104 + 8 * (w % 16)) v)

/-- CUT_ROWS_STAGE (R75). -/
def execCutRowsStage (src : Source) (w : Nat) (v : Word) (s : State) : Host.Outcome State Fault Refusal :=
  ends s (s.access src fun t => t.write src (0x3100 + 8 * (w % 16)) v)

/-- LAYER_DISABLE (R140). -/
def execLayerDisable (src : Source) (n : Nat) (v : Word) (s : State) : Host.Outcome State Fault Refusal :=
  ends s (s.access src fun t => t.write src (0x5000 + 0x100 * (n % 8)) v)

/-- SE_STOP (R122). -/
def execSeStop (src : Source) (v : Word) (s : State) : Host.Outcome State Fault Refusal :=
  ends s (s.access src fun t => t.write src 0x4000 v)

/-- SE_START (R122). -/
def execSeStart (src : Source) (v : Word) (s : State) : Host.Outcome State Fault Refusal :=
  ends s (s.access src fun t => t.write src 0x4000 v)

/-- LANE_DISABLE (R200). -/
def execLaneDisable (src : Source) (v : Word) (s : State) : Host.Outcome State Fault Refusal :=
  ends s (s.access src fun t => t.write src 0x8000 v)

/-- LANE_ENABLE (R200). -/
def execLaneEnable (src : Source) (v : Word) (s : State) : Host.Outcome State Fault Refusal :=
  ends s (s.access src fun t => t.write src 0x8000 v)

/-- RL_DISABLE (R202). -/
def execRlDisable (src : Source) (v : Word) (s : State) : Host.Outcome State Fault Refusal :=
  ends s (s.access src fun t => t.write src 0x8000 v)

/-- RL_ENABLE (R202). -/
def execRlEnable (src : Source) (v : Word) (s : State) : Host.Outcome State Fault Refusal :=
  ends s (s.access src fun t => t.write src 0x8000 v)

/-- RL_BURST_REQUEST (R202). -/
def execRlBurstRequest (src : Source) (v : Word) (s : State) : Host.Outcome State Fault Refusal :=
  ends s (s.access src fun t => t.write src 0x8010 v)

/-- GOV_SCALE_WRITE (R105). -/
def execGovScaleWrite (src : Source) (v : Word) (s : State) : Host.Outcome State Fault Refusal :=
  ends s (s.access src fun t => t.write src 0x4014 v)

/-- CELLAR_EN_WRITE (R325). -/
def execCellarEnWrite (src : Source) (v : Word) (s : State) : Host.Outcome State Fault Refusal :=
  ends s (s.access src fun t => t.write src 0xB000 v)

/-- SCAN_DISABLE (R324). -/
def execScanDisable (src : Source) (v : Word) (s : State) : Host.Outcome State Fault Refusal :=
  ends s (s.access src fun t => t.write src 0x10080 v)

/-- CRC_UNIT_INIT (R430). -/
def execCrcUnitInit (src : Source) (k : Nat) (v : Word) (s : State) : Host.Outcome State Fault Refusal :=
  ends s (s.access src fun t => t.write src (0x10010 + 0x10 * (k % 4)) v)

/-- CRC_UNIT_DATA (R430). -/
def execCrcUnitData (src : Source) (k : Nat) (v : Word) (s : State) : Host.Outcome State Fault Refusal :=
  ends s (s.access src fun t => t.write src (0x10014 + 0x10 * (k % 4)) v)

/-- MEM_INMAP_WRITE (R351). -/
def execMemInmapWrite (src : Source) (v : Word) (s : State) : Host.Outcome State Fault Refusal :=
  ends s (s.access src fun t => t.write src 0xA00C v)

/-- OP_REQUEST_WRITE (R374). -/
def execOpRequestWrite (src : Source) (v : Word) (s : State) : Host.Outcome State Fault Refusal :=
  ends s (s.access src fun t => t.write src 0xC000 v)

end Sys2Proof.Machine
end

