-- ==== Sys2Proof/Machine/ExecPowerEvents.lean ====
section
/-!
DEFINITION. The events of power, clocks and temperature.
-/
namespace Sys2Proof.Machine

/-- POWER_HANDSHAKE_ANSWER (R386). -/
def execPowerHandshakeAnswer (block : Nat) (busy : Bool) (s : State) : Host.Outcome State Fault Refusal :=
  ends s (s.live (doHandshakeAnswer block busy))

/-- HANDSHAKE_TIMEOUT (R386). -/
def execHandshakeTimeout (s : State) : Host.Outcome State Fault Refusal :=
  ends s (s.live doHandshakeTimeout)

/-- WAKE_EVENT (R388). -/
def execWakeEvent (source : Nat) (s : State) : Host.Outcome State Fault Refusal :=
  ends s (doWakeEvent source s)

/-- WAKE_STAGE_READY (R389). -/
def execWakeStageReady (lost count : Nat) (s : State) : Host.Outcome State Fault Refusal :=
  ends s (doWakeStageReady lost count s)

/-- WAKE_STAGE_TIMEOUT (R389). -/
def execWakeStageTimeout (s : State) : Host.Outcome State Fault Refusal :=
  ends s (doWakeStageTimeout s)

/-- TRIM_RELOAD_DONE (R357). -/
def execTrimReloadDone (s : State) : Host.Outcome State Fault Refusal :=
  ends s (s.live doTrimReloadDone)

/-- LED_REGULATION_REACHED (R382). -/
def execLedRegulationReached (s : State) : Host.Outcome State Fault Refusal :=
  ends s (s.live fun t => t.tested [15] doLedRegulationReached)

/-- RELEASE_SUPPLY_TIMEOUT (R229). -/
def execReleaseSupplyTimeout (s : State) : Host.Outcome State Fault Refusal :=
  ends s (s.live doReleaseSupplyTimeout)

/-- LED_REG_LOSS (R382). -/
def execLedRegLoss (s : State) : Host.Outcome State Fault Refusal :=
  ends s (s.live fun t => t.tested [15] doLedRegLoss)

/-- LED_FOLDBACK (R380). -/
def execLedFoldback (sum : Nat) (s : State) : Host.Outcome State Fault Refusal :=
  ends s (s.live fun t => t.tested [15] (doLedFoldback sum))

/-- VLED_OVERVOLTAGE (R381). -/
def execVledOvervoltage (s : State) : Host.Outcome State Fault Refusal :=
  ends s (s.live fun t => t.tested [15] doVledOvervoltage)

/-- VBAT_LOW (R381). -/
def execVbatLow (level : Nat) (s : State) : Host.Outcome State Fault Refusal :=
  ends s (s.live (doVbatLow level))

/-- VBAT_HIGH (R381). -/
def execVbatHigh (s : State) : Host.Outcome State Fault Refusal :=
  ends s (s.live doVbatHigh)

/-- HEADROOM_TRIM_DECAY (R379). -/
def execHeadroomTrimDecay (s : State) : Host.Outcome State Fault Refusal :=
  ends s (s.live doHeadroomTrimDecay)

/-- SENSOR_CONVERSION (R399). -/
def execSensorConversion (conv : List (Option Int)) (s : State) : Host.Outcome State Fault Refusal :=
  ends s (s.live fun t => t.tested [7] (doSensorConversion conv))

/-- NTC_MEASUREMENT (R400). -/
def execNtcMeasurement (k ohms : Nat) (s : State) : Host.Outcome State Fault Refusal :=
  ends s (s.live (doNtcMeasurement k ohms))

/-- THROTTLE_HOLD_EXPIRY (R407). -/
def execThrottleHoldExpiry (s : State) : Host.Outcome State Fault Refusal :=
  ends s (s.live doThrottleHoldExpiry)

/-- SFCLK_MEASUREMENT (R393). -/
def execSfclkMeasurement (dev : Int) (s : State) : Host.Outcome State Fault Refusal :=
  ends s (s.live (doSfclk dev))

/-- VSYS_LOW (R371). -/
def execVsysLow (rail : Nat) (s : State) : Host.Outcome State Fault Refusal :=
  ends s (doVsysLowAll rail s)

/-- LED_SUPPLY_RESUME (R381). -/
def execLedSupplyResume (cause : Nat) (s : State) : Host.Outcome State Fault Refusal :=
  ends s (s.live (doLedSupplyResume cause))

/-- XTAL32_LOSS (R395). -/
def execXtal32Loss (s : State) : Host.Outcome State Fault Refusal :=
  ends s (doXtalLoss s)

/-- XTAL32_QUALIFIED (R395). -/
def execXtal32Qualified (s : State) : Host.Outcome State Fault Refusal :=
  ends s (s.withRef doXtalQualified)

/-- RC_OSCILLATOR_MEASUREMENT (R396). -/
def execRcOscillatorMeasurement (cycles : Nat) (s : State) : Host.Outcome State Fault Refusal :=
  ends s (s.withRef (doRcMeasurement cycles))

end Sys2Proof.Machine
end

