-- ==== Sys2Proof/Machine/ExecResetEvents.lean ====
section
/-!
DEFINITION. The events of reset and boot.
-/
namespace Sys2Proof.Machine

/-- RESET_PIN (R460). -/
def execResetPin (resetN testEn : Bool) (s : State) : Host.Outcome State Fault Refusal :=
  ends s (doResetPin resetN testEn s)

/-- POWER_ON (R482). -/
def execPowerOn (vaon : Bool) (s : State) : Host.Outcome State Fault Refusal :=
  ends s (doPowerOn vaon s)

/-- BROWN_OUT (R371). -/
def execBrownOut (s : State) : Host.Outcome State Fault Refusal :=
  ends s (doBrownOut s)

/-- RAIL_FAULT (R371). -/
def execRailFault (rail : Nat) (s : State) : Host.Outcome State Fault Refusal :=
  ends s (doRailFault rail s)

/-- CLOCK_LOSS (R392). -/
def execClockLoss (s : State) : Host.Outcome State Fault Refusal :=
  ends s (doClockLoss s)

/-- VAON_LOSS (R358). -/
def execVaonLoss (s : State) : Host.Outcome State Fault Refusal :=
  ends s (doVaonLoss s)

/-- JTAG_RESET (R459). -/
def execJtagReset (s : State) : Host.Outcome State Fault Refusal :=
  ends s (doJtagReset s)

/-- STAGE1_RELEASE (R482). -/
def execStage1Release (count : Nat) (s : State) : Host.Outcome State Fault Refusal :=
  ends s (doStage1Release count s)

/-- BOOT_STAGE_DONE (R462). -/
def execBootStageDone (fails : List (Nat × Nat)) (s : State) : Host.Outcome State Fault Refusal :=
  ends s (doBootStageDone fails s)

/-- BOOT_TIMEOUT (R464). -/
def execBootTimeout (s : State) : Host.Outcome State Fault Refusal :=
  ends s (doBootTimeout s)

end Sys2Proof.Machine
end

