-- ==== Sys2Proof/Machine/ExecSafeEvents.lean ====
section
/-!
DEFINITION. The events of the safety core: guard deadline, safe inputs, watchdogs, seal, change log, limp beam, scrubber.
-/
namespace Sys2Proof.Machine

/-- GUARD_DEADLINE (R216). -/
def execGuardDeadline (s : State) : Host.Outcome State Fault Refusal :=
  ends s (s.live doGuardDeadline)

/-- SAFE_INPUT_EDGE (R223). -/
def execSafeInputEdge (ch : Nat) (level : Bool) (s : State) : Host.Outcome State Fault Refusal :=
  ends s (s.tested [] (doSafeInputEdge ch level))

/-- SAFE_INPUT_FAULT (R224). -/
def execSafeInputFault (dk : Bool) (s : State) : Host.Outcome State Fault Refusal :=
  ends s (s.live (doSafeInputFault dk))

/-- FAULTN_MISMATCH (R213). -/
def execFaultnMismatch (s : State) : Host.Outcome State Fault Refusal :=
  ends s (s.live doFaultnMismatch)

/-- SC_WDOG (R235). -/
def execScWdog (s : State) : Host.Outcome State Fault Refusal :=
  ends s (s.live fun t => t.tested [11] doScWdog)

/-- SF_WDOG (R236). -/
def execSfWdog (s : State) : Host.Outcome State Fault Refusal :=
  ends s (s.live fun t => t.tested [11] doSfWdog)

/-- SEAL_CHECK (R241). -/
def execSealCheck (s : State) : Host.Outcome State Fault Refusal :=
  ends s (s.live doSealCheck)

/-- SEAL_STORE_DONE (R240). -/
def execSealStoreDone (s : State) : Host.Outcome State Fault Refusal :=
  ends s (s.live fun t => t.tested [9] fun t => doSealStoreDone t.scanStep)

/-- LOCKOUT_END (R242). -/
def execLockoutEnd (s : State) : Host.Outcome State Fault Refusal :=
  ends s (s.live doLockoutEnd)

/-- CHANGE_LOG_WRITE (R245). -/
def execChangeLogWrite (s : State) : Host.Outcome State Fault Refusal :=
  ends s (s.live fun t => t.tested [9] fun t => doChangeLogWrite t.scanStep)

/-- SCRUB_CHECK (R340). -/
def execScrubCheck (addr : Nat) (bad : Bool) (s : State) : Host.Outcome State Fault Refusal :=
  ends s (s.tested [12] (doScrubCheck addr bad))

/-- LIMP_RECORD_ACCEPT (R231). -/
def execLimpRecordAccept (s : State) : Host.Outcome State Fault Refusal :=
  ends s (s.live doLimpRecordAccept)

/-- LIMP_TABLE_RECOMPUTE (R231). -/
def execLimpTableRecompute (s : State) : Host.Outcome State Fault Refusal :=
  ends s (s.live doLimpTableRecompute)

/-- NEAR_MISS_WINDOW_EXPIRY (R225). -/
def execNearMissWindowExpiry (dk : Bool) (s : State) : Host.Outcome State Fault Refusal :=
  ends s (s.live (doNearMissExpiry dk))

end Sys2Proof.Machine
end

