-- ==== Sys2Proof/Machine/ExecSafety.lean ====
section
/-!
DEFINITION. The SAFETY opcodes as their executor performs them (R315 to R319).
-/
namespace Sys2Proof.Machine

/-- SEAL_READ (R315). -/
def execSealRead (x : Ctx) (s : State) : Host.Outcome State Fault Refusal :=
  ends s (s.perform x 0x70 (doSealRead x))

/-- SEAL_CONFIRM (R240). -/
def execSealConfirm (x : Ctx) (code : Nat) (s : State) : Host.Outcome State Fault Refusal :=
  ends s (s.perform x 0x71 (doSealConfirm x code))

/-- PASSWORD_UNLOCK (R242). -/
def execPasswordUnlock (x : Ctx) (op len : Nat) (pw : List Byte) (s : State) : Host.Outcome State Fault Refusal :=
  ends s (s.perform x 0x72 (doPasswordUnlock x op len pw))

/-- CHANGE_LOG_READ (R317). -/
def execChangeLogRead (x : Ctx) (first max : Nat) (s : State) : Host.Outcome State Fault Refusal :=
  ends s (s.perform x 0x73 (doChangeLogRead x first max))

/-- SAFE_STATE_RELEASE (R229). -/
def execSafeStateRelease (x : Ctx) (s : State) : Host.Outcome State Fault Refusal :=
  ends s (s.perform x 0x74 (doSafeStateRelease x))

/-- GROUP_CONFIG (R440). -/
def execGroupConfig (x : Ctx) (role member count : Nat) (s : State) : Host.Outcome State Fault Refusal :=
  ends s (s.perform x 0x78 (doGroupConfig x role member count))

/-- GROUP_STATUS (R319). -/
def execGroupStatus (x : Ctx) (s : State) : Host.Outcome State Fault Refusal :=
  ends s (s.perform x 0x79 (doGroupStatus x))

/-- SAT_CONFIG (R452). -/
def execSatConfig (x : Ctx) (len timing : Nat) (en tcomp : Bool) (s : State) : Host.Outcome State Fault Refusal :=
  ends s (s.perform x 0x7C (doSatConfig x len timing en tcomp))

/-- SAT_WRITE (R453). -/
def execSatWrite (x : Ctx) (first : Nat) (words : List (BitVec 48)) (s : State) : Host.Outcome State Fault Refusal :=
  ends s (s.perform x 0x7D (doSatWrite x first words))

end Sys2Proof.Machine
end

