-- ==== Sys2Proof/Machine/ExecStoreEvents.lean ====
section
/-!
DEFINITION. The events of the stores: cellar, scan engine, self-test, memory, tables.
-/
namespace Sys2Proof.Machine

/-- CELLAR_COMMIT_DONE (R361). -/
def execCellarCommitDone (s : State) : Host.Outcome State Fault Refusal :=
  ends s (s.live fun t => t.tested [9] fun t => doCommitDone t.scanStep)

/-- COPYBACK_DONE (R361). -/
def execCopybackDone (s : State) : Host.Outcome State Fault Refusal :=
  ends s (s.live fun t => t.tested [9] fun t => (doCopybackDone t.scanStep).shutResume)

/-- SCAN_DONE (R431). -/
def execScanDone (s : State) : Host.Outcome State Fault Refusal :=
  ends s (s.live fun t => t.tested [13] doScanDone)

/-- BIST_RUN_DONE (R422). -/
def execBistRunDone (fails : List (Nat × Nat)) (duration : Nat) (s : State) : Host.Outcome State Fault Refusal :=
  ends s (s.live (doBistRunDone fails duration))

/-- HOLD_TIMEOUT (R353). -/
def execHoldTimeout (bank req port : Nat) (s : State) : Host.Outcome State Fault Refusal :=
  ends s (s.live (doHoldTimeout bank req port))

/-- STARVE (R354). -/
def execStarve (bank req port : Nat) (s : State) : Host.Outcome State Fault Refusal :=
  ends s (s.live (doStarve bank req port))

/-- SYMBOL_LIBRARY_RELOAD_DONE (R357). -/
def execSymbolLibraryReloadDone (s : State) : Host.Outcome State Fault Refusal :=
  ends s (s.live doSymbolReloadDone)

/-- FIRMWARE_PAGE_WRITE_DONE (R306). -/
def execFirmwarePageWriteDone (s : State) : Host.Outcome State Fault Refusal :=
  ends s (s.live fun t => t.tested [9] fun t => (doFirmwarePageWriteDone t.scanStep).shutResume)

/-- RECORD_SLOT_WRITE_DONE (R363). -/
def execRecordSlotWriteDone (s : State) : Host.Outcome State Fault Refusal :=
  ends s (s.live fun t => t.tested [9] fun t => (doRecordSlotWriteDone t.scanStep).shutResume)

/-- TABLE_LOAD_DONE (R61). -/
def execTableLoadDone (s : State) : Host.Outcome State Fault Refusal :=
  ends s (s.live doTableLoadDone)

end Sys2Proof.Machine
end

