-- ==== Sys2Proof/Machine/ExecSystem.lean ====
section
/-!
DEFINITION. The SYSTEM opcodes as their executor performs them (R280 to R293).
-/
namespace Sys2Proof.Machine

/-- NOP (R280). -/
def execNop (x : Ctx) (s : State) : Host.Outcome State Fault Refusal :=
  ends s (s.perform x 0x01 (doNop x))

/-- IDENTIFY (R282). -/
def execIdentify (x : Ctx) (s : State) : Host.Outcome State Fault Refusal :=
  ends s (s.perform x 0x02 (doIdentify x))

/-- STATUS (R283). -/
def execStatus (x : Ctx) (s : State) : Host.Outcome State Fault Refusal :=
  ends s (s.perform x 0x03 (doStatus x))

/-- REG_READ (R285). -/
def execRegRead (x : Ctx) (addr n : Nat) (fixed : Bool) (s : State) : Host.Outcome State Fault Refusal :=
  ends s (s.perform x 0x04 (doRegRead x addr n fixed))

/-- REG_WRITE (R286). -/
def execRegWrite (x : Ctx) (addr : Nat) (fixed : Bool) (data : List Word) (s : State) : Host.Outcome State Fault Refusal :=
  ends s (s.perform x 0x05 (doRegWrite x addr fixed data))

/-- REG_MODIFY (R287). -/
def execRegModify (x : Ctx) (addr : Nat) (mask value : Word) (hw : List HwUpd) (s : State) : Host.Outcome State Fault Refusal :=
  ends s (s.perform x 0x06 (doRegModify x addr mask value hw))

/-- FENCE (R268). -/
def execFence (x : Ctx) (qmask : Nat) (all : Bool) (handles : List Nat) (s : State) : Host.Outcome State Fault Refusal :=
  ends s (s.perform x 0x08 (doFence x qmask all handles))

/-- FENCE_TICK (R270). -/
def execFenceTick (x : Ctx) (qmask mode value : Nat) (s : State) : Host.Outcome State Fault Refusal :=
  ends s (s.perform x 0x09 (doFenceTick x qmask mode value))

/-- QUERY_HANDLE (R288). -/
def execQueryHandle (x : Ctx) (h : Nat) (s : State) : Host.Outcome State Fault Refusal :=
  ends s (s.perform x 0x0A (doQueryHandle x h))

/-- READ_COMPLETIONS (R289). -/
def execReadCompletions (x : Ctx) (max : Nat) (s : State) : Host.Outcome State Fault Refusal :=
  ends s (s.perform x 0x0B (doReadCompletions x max))

/-- CANCEL (R272). -/
def execCancel (x : Ctx) (h : Nat) (s : State) : Host.Outcome State Fault Refusal :=
  ends s (s.perform x 0x0C (doCancel x h))

/-- SET_POWER_STATE (R291). -/
def execSetPowerState (x : Ctx) (st op retain wake wakeMs : Nat) (s : State) : Host.Outcome State Fault Refusal :=
  ends s (s.perform x 0x0D (doSetPowerState x st op retain wake wakeMs))

/-- SHUTDOWN (R292). -/
def execShutdown (x : Ctx) (storeCfg force : Bool) (next : Nat) (s : State) : Host.Outcome State Fault Refusal :=
  ends s (s.perform x 0x0E (doShutdown x storeCfg force next))

/-- RESET_DEVICE (R293). -/
def execResetDevice (x : Ctx) (kind key : Nat) (s : State) : Host.Outcome State Fault Refusal :=
  ends s (s.perform x 0x0F (doResetDevice x kind key))

end Sys2Proof.Machine
end

