-- ==== Sys2Proof/Machine/ExecTest.lean ====
section
/-!
DEFINITION. The TEST opcodes as their executor performs them (R308 to R314).
-/
namespace Sys2Proof.Machine

/-- CALIBRATE (R308). -/
def execCalibrate (x : Ctx) (mode colours strips maxFrames : Nat) (s : State) : Host.Outcome State Fault Refusal :=
  ends s (s.perform x 0x60 (doCalibrate x mode colours strips maxFrames))

/-- BIST_PLAN (R309). -/
def execBistPlan (x : Ctx) (plan : Nat) (quick : Bool) (s : State) : Host.Outcome State Fault Refusal :=
  ends s (s.perform x 0x62 (doBistPlan x plan quick))

/-- BIST_RESULT (R310). -/
def execBistResult (x : Ctx) (which : Nat) (s : State) : Host.Outcome State Fault Refusal :=
  ends s (s.perform x 0x63 (doBistResult x which))

/-- SCAN_CHECK (R311). -/
def execScanCheck (x : Ctx) (space alg : Nat) (compare : Bool) (start len expect : Nat) (s : State) : Host.Outcome State Fault Refusal :=
  ends s (s.perform x 0x64 (doScanCheck x space alg compare start len expect))

/-- MONITOR_CONFIG (R312). -/
def execMonitorConfig (x : Ctx) (mon : Nat) (en log2 : Bool) (source shift x0 y0 x1 y1 frames : Nat) (s : State) : Host.Outcome State Fault Refusal :=
  ends s (s.perform x 0x65 (doMonitorConfig x mon en log2 source shift x0 y0 x1 y1 frames))

/-- MONITOR_READ (R312). -/
def execMonitorRead (x : Ctx) (mon : Nat) (clear : Bool) (s : State) : Host.Outcome State Fault Refusal :=
  ends s (s.perform x 0x66 (doMonitorRead x mon clear))

/-- FAULT_MAP_READ (R313). -/
def execFaultMapRead (x : Ctx) (start max : Nat) (clear : Bool) (s : State) : Host.Outcome State Fault Refusal :=
  ends s (s.perform x 0x67 (doFaultMapRead x start max clear))

/-- ROW_KILL (R314). -/
def execRowKill (x : Ctx) (row op : Nat) (persist : Bool) (s : State) : Host.Outcome State Fault Refusal :=
  ends s (s.perform x 0x68 (doRowKill x row op persist))

end Sys2Proof.Machine
end

