-- ==== Sys2Proof/Machine/Dispatch.lean ====
section
/-!
DEFINITION. The dispatch: one arm per command, each one direct call of its meaning.
-/
namespace Sys2Proof.Machine

/-- The effect of a command on everything but the queue. -/
def exec (i : Instr) (s : State) : Host.Outcome State Fault Refusal :=
  match i with
  | .nop x => Sys2Proof.Machine.execNop x s
  | .identify x => Sys2Proof.Machine.execIdentify x s
  | .status x => Sys2Proof.Machine.execStatus x s
  | .regRead x addr n fixed => Sys2Proof.Machine.execRegRead x addr n fixed s
  | .regWrite x addr fixed data => Sys2Proof.Machine.execRegWrite x addr fixed data s
  | .regModify x addr mask value hw => Sys2Proof.Machine.execRegModify x addr mask value hw s
  | .fence x qmask all handles => Sys2Proof.Machine.execFence x qmask all handles s
  | .fenceTick x qmask mode value => Sys2Proof.Machine.execFenceTick x qmask mode value s
  | .queryHandle x h => Sys2Proof.Machine.execQueryHandle x h s
  | .readCompletions x max => Sys2Proof.Machine.execReadCompletions x max s
  | .cancel x h => Sys2Proof.Machine.execCancel x h s
  | .setPowerState x st op retain wake wakeMs => Sys2Proof.Machine.execSetPowerState x st op retain wake wakeMs s
  | .shutdown x storeCfg force next => Sys2Proof.Machine.execShutdown x storeCfg force next s
  | .resetDevice x kind key => Sys2Proof.Machine.execResetDevice x kind key s
  | .layerCommit x mask => Sys2Proof.Machine.execLayerCommit x mask s
  | .rack x beam mask bgW bgC => Sys2Proof.Machine.execRack x beam mask bgW bgC s
  | .caskSelect x mask beam => Sys2Proof.Machine.execCaskSelect x mask beam s
  | .cutWindowSet x win y0 y1 g0 g1 => Sys2Proof.Machine.execCutWindowSet x win y0 y1 g0 g1 s
  | .cutWindowClear x mask => Sys2Proof.Machine.execCutWindowClear x mask s
  | .symbolLoad x index first last offset width height warm cool format crc doff data => Sys2Proof.Machine.execSymbolLoad x index first last offset width height warm cool format crc doff data s
  | .coefLoad x set coef => Sys2Proof.Machine.execCoefLoad x set coef s
  | .rampLoad x ramp => Sys2Proof.Machine.execRampLoad x ramp s
  | .mixLoad x table entries => Sys2Proof.Machine.execMixLoad x table entries s
  | .regionSigSet x index en check point x0 y0 x1 y1 expect => Sys2Proof.Machine.execRegionSigSet x index en check point x0 y0 x1 y1 expect s
  | .cellarRead x src region offset n => Sys2Proof.Machine.execCellarRead x src region offset n s
  | .cellarWrite x soff data => Sys2Proof.Machine.execCellarWrite x soff data s
  | .cellarStore x region offset len => Sys2Proof.Machine.execCellarStore x region offset len s
  | .cellarInfo x => Sys2Proof.Machine.execCellarInfo x s
  | .firmwareStage x slot first last offset total crc data => Sys2Proof.Machine.execFirmwareStage x slot first last offset total crc data s
  | .firmwareActivate x slot reboot => Sys2Proof.Machine.execFirmwareActivate x slot reboot s
  | .calibrate x mode colours strips maxFrames => Sys2Proof.Machine.execCalibrate x mode colours strips maxFrames s
  | .bistPlan x plan quick => Sys2Proof.Machine.execBistPlan x plan quick s
  | .bistResult x which => Sys2Proof.Machine.execBistResult x which s
  | .scanCheck x space alg compare start len expect => Sys2Proof.Machine.execScanCheck x space alg compare start len expect s
  | .monitorConfig x mon en log2 source shift x0 y0 x1 y1 frames => Sys2Proof.Machine.execMonitorConfig x mon en log2 source shift x0 y0 x1 y1 frames s
  | .monitorRead x mon clear => Sys2Proof.Machine.execMonitorRead x mon clear s
  | .faultMapRead x start max clear => Sys2Proof.Machine.execFaultMapRead x start max clear s
  | .rowKill x row op persist => Sys2Proof.Machine.execRowKill x row op persist s
  | .sealRead x => Sys2Proof.Machine.execSealRead x s
  | .sealConfirm x code => Sys2Proof.Machine.execSealConfirm x code s
  | .passwordUnlock x op len pw => Sys2Proof.Machine.execPasswordUnlock x op len pw s
  | .changeLogRead x first max => Sys2Proof.Machine.execChangeLogRead x first max s
  | .safeStateRelease x => Sys2Proof.Machine.execSafeStateRelease x s
  | .groupConfig x role member count => Sys2Proof.Machine.execGroupConfig x role member count s
  | .groupStatus x => Sys2Proof.Machine.execGroupStatus x s
  | .satConfig x len timing en tcomp => Sys2Proof.Machine.execSatConfig x len timing en tcomp s
  | .satWrite x first words => Sys2Proof.Machine.execSatWrite x first words s
  | .spiFrame bytes => Sys2Proof.Machine.execSpiFrame bytes s
  | .replyFetch src seq inFlight => Sys2Proof.Machine.execReplyFetch src seq inFlight s
  | .queueEntryStart q => Sys2Proof.Machine.execQueueEntryStart q s
  | .barrierRelease h => Sys2Proof.Machine.execBarrierRelease h s
  | .fenceTickRelease h => Sys2Proof.Machine.execFenceTickRelease h s
  | .resetDeviceStart lost => Sys2Proof.Machine.execResetDeviceStart lost s
  | .registerWrite src addr v hw => Sys2Proof.Machine.execRegisterWrite src addr v hw s
  | .rcStatusRead src addr => Sys2Proof.Machine.execRcStatusRead src addr s
  | .rejFifoPop src => Sys2Proof.Machine.execRejFifoPop src s
  | .timeBaseReadLo src stamp => Sys2Proof.Machine.execTimeBaseReadLo src stamp s
  | .sysKeyWrite src v => Sys2Proof.Machine.execSysKeyWrite src v s
  | .unlockLapse => Sys2Proof.Machine.execUnlockLapse s
  | .timeBaseLoad src v => Sys2Proof.Machine.execTimeBaseLoad src v s
  | .cutColsWrite src w v => Sys2Proof.Machine.execCutColsWrite src w v s
  | .cutRowsStage src w v => Sys2Proof.Machine.execCutRowsStage src w v s
  | .layerDisable src n v => Sys2Proof.Machine.execLayerDisable src n v s
  | .seStop src v => Sys2Proof.Machine.execSeStop src v s
  | .seStart src v => Sys2Proof.Machine.execSeStart src v s
  | .laneDisable src v => Sys2Proof.Machine.execLaneDisable src v s
  | .laneEnable src v => Sys2Proof.Machine.execLaneEnable src v s
  | .rlDisable src v => Sys2Proof.Machine.execRlDisable src v s
  | .rlEnable src v => Sys2Proof.Machine.execRlEnable src v s
  | .rlBurstRequest src v => Sys2Proof.Machine.execRlBurstRequest src v s
  | .govScaleWrite src v => Sys2Proof.Machine.execGovScaleWrite src v s
  | .cellarEnWrite src v => Sys2Proof.Machine.execCellarEnWrite src v s
  | .scanDisable src v => Sys2Proof.Machine.execScanDisable src v s
  | .crcUnitInit src k v => Sys2Proof.Machine.execCrcUnitInit src k v s
  | .crcUnitData src k v => Sys2Proof.Machine.execCrcUnitData src k v s
  | .memInmapWrite src v => Sys2Proof.Machine.execMemInmapWrite src v s
  | .opRequestWrite src v => Sys2Proof.Machine.execOpRequestWrite src v s
  | .opStepDone => Sys2Proof.Machine.execOpStepDone s
  | .tick => Sys2Proof.Machine.execTick s
  | .predictionPassStart => Sys2Proof.Machine.execPredictionPassStart s
  | .predictionPassDone => Sys2Proof.Machine.execPredictionPassDone s
  | .vledTargetHandover => Sys2Proof.Machine.execVledTargetHandover s
  | .decisionPoint => Sys2Proof.Machine.execDecisionPoint s
  | .compositionDone cp => Sys2Proof.Machine.execCompositionDone cp s
  | .rackDone => Sys2Proof.Machine.execRackDone s
  | .slotStart => Sys2Proof.Machine.execSlotStart s
  | .writeWindowOpen bank => Sys2Proof.Machine.execWriteWindowOpen bank s
  | .rowSlot y shorts opens progress => Sys2Proof.Machine.execRowSlot y shorts opens progress s
  | .writeWindowEnd bank => Sys2Proof.Machine.execWriteWindowEnd bank s
  | .darkSlotStart => Sys2Proof.Machine.execDarkSlotStart s
  | .darkSlotEnd => Sys2Proof.Machine.execDarkSlotEnd s
  | .calSample sub k readings => Sys2Proof.Machine.execCalSample sub k readings s
  | .calFitDone => Sys2Proof.Machine.execCalFitDone s
  | .fsyncEdge => Sys2Proof.Machine.execFsyncEdge s
  | .fsyncWindowMiss => Sys2Proof.Machine.execFsyncWindowMiss s
  | .guardDeadline => Sys2Proof.Machine.execGuardDeadline s
  | .safeInputEdge ch level => Sys2Proof.Machine.execSafeInputEdge ch level s
  | .safeInputFault dk => Sys2Proof.Machine.execSafeInputFault dk s
  | .faultnMismatch => Sys2Proof.Machine.execFaultnMismatch s
  | .scWdog => Sys2Proof.Machine.execScWdog s
  | .sfWdog => Sys2Proof.Machine.execSfWdog s
  | .sealCheck => Sys2Proof.Machine.execSealCheck s
  | .sealStoreDone => Sys2Proof.Machine.execSealStoreDone s
  | .lockoutEnd => Sys2Proof.Machine.execLockoutEnd s
  | .changeLogWrite => Sys2Proof.Machine.execChangeLogWrite s
  | .scrubCheck addr bad => Sys2Proof.Machine.execScrubCheck addr bad s
  | .limpRecordAccept => Sys2Proof.Machine.execLimpRecordAccept s
  | .limpTableRecompute => Sys2Proof.Machine.execLimpTableRecompute s
  | .videoBlock lane seq payload => Sys2Proof.Machine.execVideoBlock lane seq payload s
  | .guardBlock lane seq payload => Sys2Proof.Machine.execGuardBlock lane seq payload s
  | .controlBlock lane seq payload => Sys2Proof.Machine.execControlBlock lane seq payload s
  | .idleBlock lane seq payload => Sys2Proof.Machine.execIdleBlock lane seq payload s
  | .pattern lane seq payload => Sys2Proof.Machine.execPattern lane seq payload s
  | .rateReq lane seq payload => Sys2Proof.Machine.execRateReq lane seq payload s
  | .rateGo lane seq payload => Sys2Proof.Machine.execRateGo lane seq payload s
  | .restripe lane seq payload => Sys2Proof.Machine.execRestripe lane seq payload s
  | .eiEnter lane seq payload => Sys2Proof.Machine.execEiEnter lane seq payload s
  | .eiExit lane seq payload => Sys2Proof.Machine.execEiExit lane seq payload s
  | .retrain lane seq payload => Sys2Proof.Machine.execRetrain lane seq payload s
  | .invalidBlock lane groups => Sys2Proof.Machine.execInvalidBlock lane groups s
  | .lossOfSignal lane squelch => Sys2Proof.Machine.execLossOfSignal lane squelch s
  | .commaRun lane => Sys2Proof.Machine.execCommaRun lane s
  | .huntTimeout lane => Sys2Proof.Machine.execHuntTimeout lane s
  | .trainTimeout lane => Sys2Proof.Machine.execTrainTimeout lane s
  | .tapReqRepeat lane => Sys2Proof.Machine.execTapReqRepeat lane s
  | .rateStepTimeout link => Sys2Proof.Machine.execRateStepTimeout link s
  | .eiExitTimeout lane => Sys2Proof.Machine.execEiExitTimeout lane s
  | .idleRetentionExpiry lane => Sys2Proof.Machine.execIdleRetentionExpiry lane s
  | .deskewWaitExpiry link => Sys2Proof.Machine.execDeskewWaitExpiry link s
  | .rlBlockBoundary => Sys2Proof.Machine.execRlBlockBoundary s
  | .powerHandshakeAnswer block busy => Sys2Proof.Machine.execPowerHandshakeAnswer block busy s
  | .handshakeTimeout => Sys2Proof.Machine.execHandshakeTimeout s
  | .wakeEvent source => Sys2Proof.Machine.execWakeEvent source s
  | .wakeStageReady lost count => Sys2Proof.Machine.execWakeStageReady lost count s
  | .wakeStageTimeout => Sys2Proof.Machine.execWakeStageTimeout s
  | .trimReloadDone => Sys2Proof.Machine.execTrimReloadDone s
  | .ledRegulationReached => Sys2Proof.Machine.execLedRegulationReached s
  | .releaseSupplyTimeout => Sys2Proof.Machine.execReleaseSupplyTimeout s
  | .ledRegLoss => Sys2Proof.Machine.execLedRegLoss s
  | .ledFoldback sum => Sys2Proof.Machine.execLedFoldback sum s
  | .vledOvervoltage => Sys2Proof.Machine.execVledOvervoltage s
  | .vbatLow level => Sys2Proof.Machine.execVbatLow level s
  | .vbatHigh => Sys2Proof.Machine.execVbatHigh s
  | .headroomTrimDecay => Sys2Proof.Machine.execHeadroomTrimDecay s
  | .sensorConversion conv => Sys2Proof.Machine.execSensorConversion conv s
  | .ntcMeasurement k ohms => Sys2Proof.Machine.execNtcMeasurement k ohms s
  | .throttleHoldExpiry => Sys2Proof.Machine.execThrottleHoldExpiry s
  | .sfclkMeasurement dev => Sys2Proof.Machine.execSfclkMeasurement dev s
  | .cellarCommitDone => Sys2Proof.Machine.execCellarCommitDone s
  | .copybackDone => Sys2Proof.Machine.execCopybackDone s
  | .scanDone => Sys2Proof.Machine.execScanDone s
  | .bistRunDone fails duration => Sys2Proof.Machine.execBistRunDone fails duration s
  | .holdTimeout bank req port => Sys2Proof.Machine.execHoldTimeout bank req port s
  | .starve bank req port => Sys2Proof.Machine.execStarve bank req port s
  | .gsyncEdge => Sys2Proof.Machine.execGsyncEdge s
  | .gsyncEdgeMissed => Sys2Proof.Machine.execGsyncEdgeMissed s
  | .groupSlotSend collision => Sys2Proof.Machine.execGroupSlotSend collision s
  | .groupSlotWord m levels => Sys2Proof.Machine.execGroupSlotWord m levels s
  | .groupExchangeEnd => Sys2Proof.Machine.execGroupExchangeEnd s
  | .satFrameStart => Sys2Proof.Machine.execSatFrameStart s
  | .satFrameEnd => Sys2Proof.Machine.execSatFrameEnd s
  | .resetPin resetN testEn => Sys2Proof.Machine.execResetPin resetN testEn s
  | .powerOn vaon => Sys2Proof.Machine.execPowerOn vaon s
  | .brownOut => Sys2Proof.Machine.execBrownOut s
  | .railFault rail => Sys2Proof.Machine.execRailFault rail s
  | .clockLoss => Sys2Proof.Machine.execClockLoss s
  | .vaonLoss => Sys2Proof.Machine.execVaonLoss s
  | .jtagReset => Sys2Proof.Machine.execJtagReset s
  | .stage1Release count => Sys2Proof.Machine.execStage1Release count s
  | .bootStageDone fails => Sys2Proof.Machine.execBootStageDone fails s
  | .bootTimeout => Sys2Proof.Machine.execBootTimeout s
  | .nearMissWindowExpiry dk => Sys2Proof.Machine.execNearMissWindowExpiry dk s
  | .vsysLow rail => Sys2Proof.Machine.execVsysLow rail s
  | .ledSupplyResume cause => Sys2Proof.Machine.execLedSupplyResume cause s
  | .xtal32Loss => Sys2Proof.Machine.execXtal32Loss s
  | .xtal32Qualified => Sys2Proof.Machine.execXtal32Qualified s
  | .rcOscillatorMeasurement cycles => Sys2Proof.Machine.execRcOscillatorMeasurement cycles s
  | .symbolLibraryReloadDone => Sys2Proof.Machine.execSymbolLibraryReloadDone s
  | .firmwarePageWriteDone => Sys2Proof.Machine.execFirmwarePageWriteDone s
  | .recordSlotWriteDone => Sys2Proof.Machine.execRecordSlotWriteDone s
  | .tableLoadDone => Sys2Proof.Machine.execTableLoadDone s

end Sys2Proof.Machine
end

