-- ==== Sys2Proof/Machine/Idle.lean ====
section
/-!
DEFINITION. What happens while no command waits: time passes.
-/
namespace Sys2Proof.Machine

/-- The period of the 25 MHz reference in ns (R51). -/
def refPeriod : Nat := 40

/-- What a period of the reference brings about of itself: the banks' transfers and the cellar's page writes go on (R348,
R359), and a SAFE_PATH test that held a request ends (R421). -/
def timePassed (s : State) : State :=
  let s1 := s.banksPeriod.cellarPeriod
  match s1.safe.path with
  | some (t, _) => if t ≤ s1.now then s1.testNext else s1
  | none => s1

/-- An idle step: one reference period passes (log entry 1), and a core cycle ends (log entry 22). The time base counts it
while the reference runs, from boot stage 1, through a warm reset, and outside sleep (R51, R460). -/
def idle (s : State) : State :=
  let t := { s with now := s.now + refPeriod, cycle := s.cycle + 1 }
  settle (timePassed (if s.refRuns then { t with tick := { t.tick with tb := t.tick.tb + 40 } } else t))

end Sys2Proof.Machine
end

