-- ==== Sys2Proof/Safety.lean ====
section
/-!
DEFINITION. The terms in which claims speak: when a command can act, what it answered, what it left alone; and what
counts as a safe run: no step stops, and the pins tell the truth about the state.
-/
namespace Sys2Proof.Machine

/-! ## When a command acts -/

/-- The parts are clocked: no reset is held and the device does not sleep. -/
def Live (s : State) : Prop := s.inReset = false ∧ s.sleeping = false

/-- The parts are clocked and no self-test runs, so no block is stopped (R421). -/
def Acts (s : State) : Prop := Live s ∧ s.testing = false

/-- The command engine runs and boot is not held, so every opcode acts (R247, R466). -/
def Open (s : State) : Prop := s.engineOn = true ∧ s.boot.held = false

/-- Every field of the register admits the word, written by a path (R326). -/
def Admitted (s : State) (src : Source) (a : Nat) (v : Word) : Prop :=
  ∀ f ∈ fieldsAt a, s.reasons src a (s.unlocks src a) v f = []

/-- No parity error waits to be detected: the scrubber has reported every one (R341). -/
def Sound (s : State) : Prop := ∀ a ∈ s.since.upset, a ∈ s.since.reported

/-- A register with a function that acts on the write itself: SYS_KEY, CELLAR_CTRL, those of R53, R75, R105, R122, R140, R200,
R225, R324, R351, R374 and R430, and those that saturate what is written (R369, R379, R380). -/
def actsAtOnce (a : Nat) : Bool :=
  [0x10, 0x2044, 0x4000, 0x4014, 0x8000, 0x900C, 0xA000, 0xA00C, 0xB000, 0xC000, 0xC014, 0xC018, 0x10080].contains a
    || (0xA040 ≤ a && a < 0xA060)
    || (0x3100 ≤ a && a < 0x3180 && a % 8 == 4) || (0x5000 ≤ a && a < 0x5800 && a % 256 == 0)
    || (0x10010 ≤ a && a < 0x10050 && (a % 16 == 0 || a % 16 == 4))

/-- The row performs a reset of the device in the state (R293, R371, R389, R392, R459, R464). -/
def State.resets (s : State) : Instr → Bool
  | .powerOn _ | .brownOut | .vaonLoss | .jtagReset => true
  | .railFault r => r != 0 || s.power.step.isNone
  | .resetPin n e => !n || e
  | .clockLoss => !s.inReset && !s.sleeping
  | .resetDeviceStart _ => s.boot.window.isSome
  | .bootTimeout => 3 ≤ s.boot.stage && s.boot.stage ≤ 10 && !s.boot.held
  | .wakeStageTimeout => s.power.asleep.isSome && s.power.wakeStage.isSome
  | _ => false

/-- The row of the table that a command of the queues is, in its context. -/
def rowOf (x : Ctx) : Cmd → Instr
  | .nop => .nop x
  | .identify => .identify x
  | .status => .status x
  | .regRead addr n fixed => .regRead x addr n fixed
  | .regWrite addr fixed data => .regWrite x addr fixed data
  | .regModify addr mask value => .regModify x addr mask value []
  | .fence qmask all handles => .fence x qmask all handles
  | .fenceTick qmask mode value => .fenceTick x qmask mode value
  | .queryHandle h => .queryHandle x h
  | .readCompletions max => .readCompletions x max
  | .cancel h => .cancel x h
  | .setPowerState st op retain wake wakeMs => .setPowerState x st op retain wake wakeMs
  | .shutdown storeCfg force next => .shutdown x storeCfg force next
  | .resetDevice kind key => .resetDevice x kind key
  | .layerCommit mask => .layerCommit x mask
  | .rack beam mask bgW bgC => .rack x beam mask bgW bgC
  | .caskSelect mask beam => .caskSelect x mask beam
  | .cutWindowSet win y0 y1 g0 g1 => .cutWindowSet x win y0 y1 g0 g1
  | .cutWindowClear mask => .cutWindowClear x mask
  | .symbolLoad index first last offset width height warm cool format crc doff data => .symbolLoad x index first last offset width height warm cool format crc doff data
  | .coefLoad set coef => .coefLoad x set coef
  | .rampLoad ramp => .rampLoad x ramp
  | .mixLoad table entries => .mixLoad x table entries
  | .regionSigSet index en check point x0 y0 x1 y1 expect => .regionSigSet x index en check point x0 y0 x1 y1 expect
  | .cellarRead src region offset n => .cellarRead x src region offset n
  | .cellarWrite soff data => .cellarWrite x soff data
  | .cellarStore region offset len => .cellarStore x region offset len
  | .cellarInfo => .cellarInfo x
  | .firmwareStage slot first last offset total crc data => .firmwareStage x slot first last offset total crc data
  | .firmwareActivate slot reboot => .firmwareActivate x slot reboot
  | .calibrate mode colours strips maxFrames => .calibrate x mode colours strips maxFrames
  | .bistPlan plan quick => .bistPlan x plan quick
  | .bistResult which => .bistResult x which
  | .scanCheck space alg compare start len expect => .scanCheck x space alg compare start len expect
  | .monitorConfig mon en log2 source shift x0 y0 x1 y1 frames => .monitorConfig x mon en log2 source shift x0 y0 x1 y1 frames
  | .monitorRead mon clear => .monitorRead x mon clear
  | .faultMapRead start max clear => .faultMapRead x start max clear
  | .rowKill row op persist => .rowKill x row op persist
  | .sealRead => .sealRead x
  | .sealConfirm code => .sealConfirm x code
  | .passwordUnlock op len pw => .passwordUnlock x op len pw
  | .changeLogRead first max => .changeLogRead x first max
  | .safeStateRelease => .safeStateRelease x
  | .groupConfig role member count => .groupConfig x role member count
  | .groupStatus => .groupStatus x
  | .satConfig len timing en tcomp => .satConfig x len timing en tcomp
  | .satWrite first words => .satWrite x first words

/-! ## What a packet command answered -/

/-- The reply of an immediate command (handle 0) is the latest of its SEQ; a queued command whose handle was not DONE
is DONE with the status, and its 16 result bytes begin with the payload (R262, R264, R281). -/
def Answered (s t : State) (x : Ctx) (status : Nat) (payload : List Byte) : Prop :=
  if x.handle = 0 then t.cmd.last.head? = some (x.seq, status, payload)
  else ∀ e, s.handle x.handle = some e → e.st ≠ 3 →
    ∃ e', t.handle x.handle = some e' ∧ e'.st = 3 ∧ e'.status = status ∧ e'.result = (payload ++ List.replicate 16 0).take 16

/-- A queued command continues as PENDING (R262). -/
def Pends (s t : State) (x : Ctx) : Prop := ∀ e, s.handle x.handle = some e → ∃ e', t.handle x.handle = some e' ∧ e'.st = 2

/-- A command that was not DONE has completed with a status. -/
def Ends (s t : State) (h status : Nat) : Prop :=
  ∀ e, s.handle h = some e → e.st ≠ 3 → ∃ e', t.handle h = some e' ∧ e'.st = 3 ∧ e'.status = status

/-! ## What a command left alone -/

/-- What the part holds beside its registers. -/
inductive Part where
  | now | tick | array | pipe | layer | cask | lanes | links | safe | mem | cellar | power | therm | cal | test | group
  | sat | boot
  /-- the bank arbiters and their ports -/
  | arb
  | engine
  /-- whether the receivers receive and the guard deadline has passed, and the packets on their way to the engine -/
  | receivers
  /-- the return lane, but for items joining its CONTROL priority -/
  | returns
  /-- the bytes last driven on SDO and GDAT -/
  | driven
  deriving DecidableEq, Repr

/-- A part is as before. -/
def Part.same (s t : State) : Part → Prop
  | .now => t.now = s.now
  | .tick => t.tick = s.tick
  | .array => t.array = s.array
  | .pipe => t.pipe = s.pipe
  | .layer => t.layer = s.layer
  | .cask => t.cask = s.cask
  | .lanes => t.daelo.lanes = s.daelo.lanes
  | .links => t.daelo.links = s.daelo.links
  | .safe => t.safe = s.safe
  | .mem => t.mem = s.mem
  | .cellar => t.cellar = s.cellar
  | .power => t.power = s.power
  | .therm => t.therm = s.therm
  | .cal => t.cal = s.cal
  | .test => t.test = s.test
  | .group => t.group = s.group
  | .sat => t.sat = s.sat
  | .boot => t.boot = s.boot
  | .arb => t.arb = s.arb
  | .engine => t.cmd = s.cmd
  | .receivers => t.daelo.rxOn = s.daelo.rxOn ∧ t.daelo.pastDeadline = s.daelo.pastDeadline ∧ t.daelo.inbox = s.daelo.inbox
  | .returns => t.daelo.rl = { s.daelo.rl with ctl := t.daelo.rl.ctl } ∧ s.daelo.rl.ctl <+: t.daelo.rl.ctl
  | .driven => t.pins.sdo = s.pins.sdo ∧ t.pins.gdat = s.pins.gdat

/-- The places of two fields share no bit. -/
def Fld.apart (f g : Fld) : Bool := f.addr != g.addr || f.lo + f.w ≤ g.lo || g.lo + g.w ≤ f.lo

/-- A field lies within its word. -/
def Fld.fits (f : Fld) : Bool := f.lo + f.w ≤ 32

/-- Every field that shares no bit with one of those listed reads as before. -/
def FieldsKept (s t : State) (fs : List Fld) : Prop := ∀ g : Fld, (∀ f ∈ fs, f.apart g = true) → t.rd g = s.rd g

/-- From `s` to `t` no part changed but those of `ps`, no register field but those of `fs`, and, where the SRAM or the
cellar is not among the parts, none of its bytes. -/
structure Frame (s t : State) (ps : List Part) (fs : List Fld) : Prop where
  parts : ∀ p, p ∉ ps → p.same s t
  fields : FieldsKept s t fs
  sram : Part.mem ∉ ps → ∀ a, t.sramByte a = s.sramByte a
  cellar : Part.cellar ∉ ps → ∀ a, t.cellarByte a = s.cellarByte a

/-- The parts that an answer touches: the command engine and, for a packet of a link, the return lane. -/
def answerParts : List Part := [.engine, .returns]

/-- The fields that an answer may touch: REPLY_DROP, CQ_OVF and LOST (R258, R265, R274). -/
def answerFlds : List Fld := [CMD_STATUS.REPLY_DROP, CMD_STATUS.CQ_OVF, CMD_CQ_STATUS.LOST]

/-- The fields that reading pages of the cellar may touch (R367), and those that a running scan touches as it reads on
(R431). -/
def eccFlds : List Fld := [CELLAR_ECC_CNT.CORR, CELLAR_ECC_CNT.FAIL, CELLAR_STATUS.ECC_CORR, CELLAR_STATUS.ECC_FAIL, CELLAR_ECC_ADDR.ADDR]

def scanFlds : List Fld := [CRC_SCAN_CRC.CRC, CRC_SCAN_COUNT.COUNT] ++ eccFlds

/-- The compositors' line buffers and working area in bank 26 (R345). -/
def scratch (a : Nat) : Bool := 0x1A00000 ≤ a && a < 0x1B00000 && !(0x1A90000 ≤ a && a < 0x1AA4000)

/-- What a running scan touches as it reads on (R431): nothing where none runs. -/
def State.scanParts (s : State) : List Part := if s.test.scan.isSome then [.test] else []

def State.scanShown (s : State) : List Fld := if s.test.scan.isSome then scanFlds else []

/-- The parts and fields that a lane's loss of lock may touch (R183, R184, R190, R197). -/
def lossParts : List Part := [.layer, .lanes, .links, .returns]

def lossFlds (n : Nat) : List Fld :=
  [LINK_CV.LOCK n, LINK_STATUS.LANE_LOSS, LINK_STATUS.LAME, LINK_STATUS.PKT_DROP, LINK_PKT.PKT_DROP (n / 2), LINK_DISC.DISCARD (n / 2),
   LINK_LANE_STATE.STATE n, linkFld (n / 2), LINK_MARGIN.EYE_H n, LINK_MARGIN.EYE_W n, LINK_MARGIN.PRBS_ERR n]

/-- The parts and fields that an entry to LIMP or DARK may touch (R81, R120, R210 to R212, R384, R386, R418, R473). -/
def safeParts : List Part := [.tick, .array, .pipe, .safe, .cellar, .power, .cal, .group] ++ answerParts

def safeFlds : List Fld :=
  [SAFE_CAUSE.LATCHED, SAFE_STATUS.STATE, SAFE_STATUS.STATE_EV, SAFE_STATUS.UNLIT, POWER_STATUS.LED_REG, POWER_STATUS.STATE,
   PIPE_SE_CTRL.ACTIVE, CELLAR_STATUS.WEAR_WARN, CELLAR_STATUS.WEAR_LIMIT, CAL_STATUS.PHASE, CAL_STATUS.AUTO_RUN, CAL_STATUS.INTERRUPTED, CAL_LAST.FRAMES, CAL_LAST.SAMPLES]
    ++ (List.range 16).map ARRAY_CUT_COLS.EN ++ answerFlds

/-- From NORMAL the device has entered a safe state for causes that are now latched; beside what an entry touches, only
fields of `fs` changed. -/
structure Enters (s t : State) (st mask : Nat) (fs : List Fld) : Prop where
  state : t.rd SAFE_STATUS.STATE = st
  latched : t.rd SAFE_CAUSE.LATCHED = Nat.lor (s.rd SAFE_CAUSE.LATCHED) mask
  event : t.rd SAFE_STATUS.STATE_EV = 1
  fault : t.pins.fault = true
  cuts : ∀ w, w < 16 → t.rd (ARRAY_CUT_COLS.EN w) = 0
  fill : t.pipe.fillAll = true
  cellar : ∀ a, a / 256 ≠ ringPage + s.cellar.ringNext % 64 → t.cellarByte a = s.cellarByte a
  pass : t.tick = { s.tick with passRunning := false, passWait := false, passDone := false }
  frame : Frame s t (s.scanParts ++ safeParts) (s.scanShown ++ fs ++ safeFlds)

/-- No self-test stops the link, and a block in sequence comes on the lane, in DATA, that carries a single-lane link; no exit burst is on its way and no EI_ENTER
waits for a match (R184, R190, R192, R198). -/
structure InSeq (s : State) (n seq : Nat) : Prop where
  acts : Acts s
  rx : s.daelo.rxOn = true
  inbox : s.daelo.inbox = []
  lanes : s.daelo.lanes.length = 4 ∧ s.daelo.links.length = 2
  lane : n < 4
  data : s.lane n = laneData
  exits : (s.laneSt n).exits ≠ 1
  mode : (s.linkSt (n / 2)).mode = 1 + n % 2
  order : (s.linkSt (n / 2)).adopt = true ∨ seq % 256 = (s.linkSt (n / 2)).expect
  idle : ∀ m, (s.laneSt m).eiWait = none

/-- The link has taken the block: the next one is expected. -/
def Took (s t : State) (n seq : Nat) : Prop :=
  (t.linkSt (n / 2)).expect = (seq + 1) % 256 ∧ (t.linkSt (n / 2)).adopt = false ∧ t.linkSt (1 - n / 2) = s.linkSt (1 - n / 2)

/-- The 60 payload bytes of a block, 0 where none is given (R180). -/
def pad60 (p : List Byte) : List Byte := (p ++ List.replicate 60 0).take 60

/-! ## The canonical form -/

/-- All that the state holds sparsely is in its canonical form: registers, SRAM, cellar, codes and satellite image. -/
structure Canonical (s : State) : Prop where
  regs : SMap.Wf regReset s.regs
  sram : SramWf s.mem.sram
  cellar : SMap.Wf erased s.cellar.mem
  wear : SMap.Wf (fun _ => 0) s.cellar.wear
  errs : SMap.Wf (fun _ => 0) s.cellar.errs
  codes : SMap.Wf (fun _ => (0 : BitVec 11)) s.array.codes
  image : SMap.Wf noWord s.sat.image

/-! ## Runs -/

/-- A step answers a next state. -/
def Runs (s : State) : Prop := ∃ t, step s = .next t

/-- The pins agree with the state: FAULT_N (R213), IRQ_N (R266), PH0 to PH3 (R381, R382), force-zero (R71), TICK_OUT (R49,
R50) and SAT_DO (R452, R453). -/
def PinsTrue (s : State) : Prop :=
  s.pins.irq = s.irqN ∧ s.pins.fault = s.faultN ∧ s.pins.phLow = s.phLow ∧ s.pins.forceZero = s.forceZero
    ∧ s.pins.tickOut = s.tickOutHigh ∧ s.pins.satDo = s.satDoHigh

end Sys2Proof.Machine
end

