-- ==== Sys2Proof/Certificates/Slice0/Obligations.lean ====
section
/-!
DEFINITION. The statements for the provers: what the commands do, what they leave alone, and what every step keeps.
-/
open Sys2Proof Sys2Proof.Machine

/-! ## Steps, queue and pins -/

/-- A step with a command at the front of the queue is that command on the state with the queue's rest. That commands are
taken in the order in which they came is R247 for packets; that they stand in a queue, and that a step performs one of
them, is the model's own choice (log entries 1 and 2): the spec knows no such queue. -/
def Obligations.StepRunsFront : Prop :=
  ∀ (c : Instr) (s : State), step { s with pending := c :: s.pending } = exec c s

/-- An idle step lets 40 ns pass, which the time base counts while the reference runs, and ends a core cycle. Beside the
transfers of the SRAM's banks it changes nothing else, unless a page write of the cellar falls due, or a SAFE_PATH test
that holds a request ends: then that page is written, and what the test held has acted. Each port has at most one
transaction outstanding after it, if it had before. That an empty queue stands for one reference period, and how the banks
and the cellar move on in it, is the model's choice (log entries 1, 22, 34 and 36); that a SAFE_PATH test ends so is log
entry 49; a running scan reads on only when something changes what it reads (log entry 96). -/
def Obligations.IdleStep : Prop :=
  ∀ s : State, s.pending = [] → ∃ t, step s = .next t ∧ t.pending = [] ∧ t.now = s.now + 40 ∧ t.cycle = s.cycle + 1
    ∧ t.tick.tb = s.tick.tb + (if (s.inReset ∧ s.boot.cold) ∨ s.sleeping then 0 else 40)
    ∧ (s.arb.xacts.Pairwise (fun x y => x.samePort y.req y.port = false) →
        t.arb.xacts.Pairwise fun x y => x.samePort y.req y.port = false)
    ∧ ((∀ p ∈ s.safe.path, s.now + 40 < p.1) →
        { t.tick with tb := s.tick.tb } = s.tick ∧ (s.arb.xacts = [] → t.arb = s.arb)
        ∧ (s.cellar.run = none → Frame s t [.now, .tick, .arb] [])
        ∧ (∀ r, s.cellar.run = some r → s.now + 40 < r.due ∨ r.limit ≤ r.done →
          Frame s t [.now, .tick, .arb, .cellar] [] ∧ ∀ a, t.cellarByte a = s.cellarByte a)
        ∧ ∀ r, s.cellar.run = some r → Frame s t (.now :: .tick :: .arb :: .cellar :: s.scanParts) (s.scanShown ++ eccFlds ++
            [CELLAR_SPARE_WEAR.COUNT, CELLAR_STATUS.WEAR_WARN, CELLAR_STATUS.WEAR_LIMIT, CELLAR_JOURNAL.PHASE, CELLAR_PROG.DONE,
             CELLAR_PROG.TOTAL]))
    ∧ ∀ e m, s.safe.path = some (e, m) → e ≤ s.now + 40 → s.underTest [10] = true → (∀ r, s.safe.released = some r → r.cycle ≠ s.cycle + 1) →
        t.safe.path = none ∧ (m < 65536 → Nat.lor (s.rd SAFE_CAUSE.LATCHED) m = t.rd SAFE_CAUSE.LATCHED)

/-- Every command answers a next state in every state, and leaves the queue of waiting commands. While reset is held and
the device does not sleep, no command changes a register or a part of the device but those that belong to resets, boot,
the crystal's loss, the supplies and the safe-input filters, in a warm reset also the scrubber and the crystal's and the
oscillator's measurements (R460), and those that bring a further cause of the reset in the core cycle in which it began.
That no other command acts in reset is the model's choice (log entry 94), and what falls into one core cycle is too (log
entry 22). -/
def Obligations.EveryCommandEnds : Prop :=
  (∀ (i : Instr) (s : State), ∃ t, exec i s = .next t ∧ t.pending = s.pending)
  ∧ ∀ (i : Instr) (s : State), s.inReset = true → s.sleeping = false →
    (match i with
      | .safeInputEdge .. | .xtal32Loss | .vsysLow .. | .resetPin .. | .powerOn .. | .brownOut | .railFault ..
      | .vaonLoss | .jtagReset | .stage1Release .. => False
      | .clockLoss | .bootTimeout | .wakeStageTimeout => s.causeNow = false
      | .resetDeviceStart .. => s.causeNow = false ∧ s.boot.window = none
      | .scrubCheck .. | .xtal32Qualified | .rcOscillatorMeasurement .. => s.boot.cold = true
      | _ => True) →
    ∃ t, exec i s = .next t ∧ Frame s t [.receivers, .driven] []

/-- After every step the pins agree with the state: IRQ_N with the enabled status bits, FAULT_N with boot and the safety
state, PH0 to PH3 with the LED supply, force-zero with its conditions, TICK_OUT with its pulses and polarity, and SAT_DO
with the bit being sent. -/
def Obligations.PinsFollow : Prop :=
  ∀ s t : State, PinsTrue s → step s = .next t → PinsTrue t

/-- After every step all that the state holds sparsely (registers, SRAM, cellar, write counts and bit errors, codes,
satellite image) is in its canonical form, if it was before. -/
def Obligations.CanonicalKept : Prop :=
  ∀ s t : State, Canonical s → step s = .next t → Canonical t

/-- At reset the pins agree with the state, and all that the state holds sparsely is in its canonical form. -/
def Obligations.InvariantsAtReset : Prop := PinsTrue State.reset ∧ Canonical State.reset

/-- Whatever the command, a state it leaves in DARK drives every current reference to 0, with force-zero and FAULT_N
asserted. -/
def Obligations.DarkIsDark : Prop :=
  ∀ (i : Instr) (s t : State), exec i s = .next t → t.safety = 2 →
    t.pins.forceZero = true ∧ t.pins.fault = true ∧ ∀ b c, t.dacOut b c = 0

/-! ## SYSTEM commands and queues -/

/-- NOP, IDENTIFY, STATUS and QUERY_HANDLE answer OK with their bytes, a handle that is not in the table HANDLE_UNKNOWN,
and change nothing but the command engine. READ_COMPLETIONS returns up to MAX of the oldest completions and removes them;
with MAX outside 1 to 32 it fails with BAD_PARAM and removes none. CANCEL of a QUEUED command completes it ABORTED and
answers OK; of a command that is DONE it answers NOT_NOW, and of a handle that is not in the table HANDLE_UNKNOWN. -/
def Obligations.SystemQueries : Prop :=
  (∀ (x : Ctx) (s : State), Open s →
     (∃ t, exec (.nop x) s = .next t ∧ Answered s t x 0x00 [] ∧ Frame s t answerParts answerFlds)
     ∧ (∃ t, exec (.identify x) s = .next t ∧ Answered s t x 0x00 s.identifyBytes ∧ Frame s t answerParts answerFlds)
     ∧ (∃ t, exec (.status x) s = .next t ∧ Answered s t x 0x00 s.statusBytes ∧ Frame s t answerParts answerFlds)
     ∧ (∀ h, ∃ t, exec (.queryHandle x h) s = .next t
       ∧ (match s.handle h with | some e => Answered s t x 0x00 (s.handleBytes e) | none => Answered s t x 0x18 [])
       ∧ Frame s t answerParts answerFlds))
  ∧ (∀ (x : Ctx) (max : Nat) (s : State), Open s → x.handle = 0 →
       (1 ≤ max → max ≤ 32 → ∃ t, exec (.readCompletions x max) s = .next t
         ∧ Answered s t x 0x00 (leBytes 1 (s.cmd.cq.take max).length ++ leBytes 1 (s.cmd.cq.drop max).length
             ++ leBytes 2 (s.rd CMD_CQ_STATUS.LOST) ++ (s.cmd.cq.take max).flatMap Completion.bytes)
         ∧ t.cmd.cq = s.cmd.cq.drop max ∧ Frame s t answerParts answerFlds)
       ∧ (max = 0 ∨ 32 < max → ∃ t, exec (.readCompletions x max) s = .next t ∧ Answered s t x 0x13 [] ∧ t.cmd.cq = s.cmd.cq
         ∧ Frame s t answerParts answerFlds))
  ∧ (∀ (x : Ctx) (h : Nat) (s : State), Open s → x.handle = 0 →
       ∃ t, exec (.cancel x h) s = .next t
         ∧ (match s.handle h with
           | none => Answered s t x 0x18 []
           | some e => (e.st = 3 → Answered s t x 0x17 [])
             ∧ (e.st = 0 → Answered s t x 0x00 [] ∧ Ends s t h 0x20 ∧ Frame s t answerParts answerFlds)))

/-- REG_READ of 1 to 512 words, 1 to 4 as a queued command, whose addresses are all register addresses, reads them in
order through the port, at rising addresses or with FIXED all at one, and answers the words; REG_WRITE of 1 to 512 words,
1 to 64 as a queued command, writes them in order so and answers how many and which were rejected, with LOCKED if any was.
With another number of words or an address that is none, each fails with BAD_PARAM and changes nothing else. REG_READ of
one word answers the word that the register shows; where no parity error waits in the register, and it is not BIST_PROG
while self-tests run, nothing changes but what a read clears, pops or copies, and how far a running scan has come where the
read shows it. REG_MODIFY writes the word read
with the masked bits replaced, and answers the word before and after. -/
def Obligations.RegisterPackets : Prop :=
  (∀ (x : Ctx) (a n : Nat) (fixed : Bool) (s : State), Open s →
     let legal := 1 ≤ n ∧ n ≤ (if x.handle = 0 then 512 else 4) ∧ ∀ i, i < n → regAddrOk (if fixed then a else a + 4 * i) = true
     (legal → ∃ t, exec (.regRead x a n fixed) s = .next t
       ∧ (let r := s.readWords x.src (regAddrs a n fixed)
          Answered r.2 t x 0x00 r.1 ∧ r.1.length = 4 * n ∧ Frame r.2 t answerParts answerFlds))
     ∧ (¬ legal → ∃ t, exec (.regRead x a n fixed) s = .next t ∧ Answered s t x 0x13 [] ∧ Frame s t answerParts answerFlds))
  ∧ (∀ (x : Ctx) (a : Nat) (fixed : Bool) (data : List Word) (s : State), Open s →
     let n := data.length
     let legal := 1 ≤ n ∧ n ≤ (if x.handle = 0 then 512 else 64) ∧ ∀ i, i < n → regAddrOk (if fixed then a else a + 4 * i) = true
     (legal → ∃ t, exec (.regWrite x a fixed data) s = .next t
       ∧ (let w := s.writeWords x.src ((regAddrs a n fixed).zip data)
          Answered w.2 t x (if w.1.any id then 0x15 else 0x00) (writeResult w.1) ∧ w.1.length = n ∧ Frame w.2 t answerParts answerFlds))
     ∧ (¬ legal → ∃ t, exec (.regWrite x a fixed data) s = .next t ∧ Answered s t x 0x13 [] ∧ Frame s t answerParts answerFlds))
  ∧ (∀ (x : Ctx) (a : Nat) (fixed : Bool) (s : State), Open s → x.handle = 0 → regAddrOk a = true →
     ((a ∈ s.since.upset → a ∈ s.since.reported) → (a = 0x1300C → s.testing = false) → ∃ t, exec (.regRead x a 1 fixed) s = .next t
       ∧ Answered s t x 0x00 (leBytes 4 (if s.hidden x.src a then 0 else s.view a).toNat)
       ∧ { t.tick with tbShadow := s.tick.tbShadow, tstampShadow := s.tick.tstampShadow } = s.tick
       ∧ Frame s t ((if s.scanRead a then [.test] else []) ++ .tick :: answerParts)
           ((if s.scanRead a then scanFlds else []) ++ ⟨a, 0, 32⟩ :: answerFlds))
     ∧ (∀ v : Word, ∃ t, exec (.regWrite x a fixed [v]) s = .next t
         ∧ (let w := s.portWrite x.src a v []
            Answered s t x (if w.1 then 0x15 else 0x00) (writeResult [w.1]) ∧ Frame w.2 t answerParts answerFlds))
     ∧ ∀ (mask value : Word) (hw : List HwUpd), ∃ t, exec (.regModify x a mask value hw) s = .next t
         ∧ (let r := s.portRead x.src a
            let w := r.2.portWrite x.src a ((r.1 &&& ~~~mask) ||| (value &&& mask)) hw
            Answered s t x (if w.1 then 0x15 else 0x00) (leBytes 4 r.1.toNat ++ leBytes 4 (w.2.portSample x.src a).toNat)
              ∧ Frame w.2 t answerParts answerFlds))
  ∧ ∀ (x : Ctx) (a : Nat) (mask value : Word) (hw : List HwUpd) (s : State), Open s → regAddrOk a = false →
     ∃ t, exec (.regModify x a mask value hw) s = .next t ∧ Answered s t x 0x13 [] ∧ Frame s t answerParts answerFlds

/-- The command at the head of a queue, QUEUED and not held back by a handshake, does what its row does, as EXECUTING. A
barrier at the head, an empty queue or a command that is no longer QUEUED starts nothing. A FENCE or FENCE_TICK that is
admitted stands at the tail of every queue it names, and nothing but the command engine changes. A released fence is DONE
with OK, its barriers leave every queue, and the fence is gone: a plain one when it waits for nothing more, a FENCE_TICK
when its tick has come. One that is not ready stays. -/
def Obligations.Queues : Prop :=
  (∀ (q : Queue) (s : State), s.engineOn = true →
     (∀ x c rest, s.cmd.queues.getD (queueNum q) [] = .cmd x c :: rest → (s.handle x.handle).map (·.st) = some 0 →
       s.heldBack (opcodeOf c) = false → ∃ t, exec (.queueEntryStart q) s = .next t
       ∧ exec (rowOf x c) (s.setHandle x.handle fun e => { e with st := 1 }) = .next t)
     ∧ (∀ x rest, s.cmd.queues.getD (queueNum q) [] = .cmd x .nop :: rest → s.boot.held = false → (s.handle x.handle).map (·.st) = some 0 →
       s.heldBack 0 = false → x.handle ≠ 0 → ∃ t, exec (.queueEntryStart q) s = .next t ∧ Ends s t x.handle 0x00
       ∧ Frame s t answerParts answerFlds)
     ∧ ((∀ x c rest, s.cmd.queues.getD (queueNum q) [] = .cmd x c :: rest → (s.handle x.handle).map (·.st) ≠ some 0) →
       ∃ t, exec (.queueEntryStart q) s = .next t ∧ Frame s t [] []))
  ∧ (∀ (x : Ctx) (qmask : Nat) (s : State), Open s → queuesOf qmask ≠ [] → s.anyFull (queuesOf qmask) = false →
       (∀ all hs, hs.length ≤ 8 → hs.all (s.earlier x.handle) = true → ∃ t, exec (.fence x qmask all hs) s = .next t
         ∧ (∀ q, q < 5 → t.cmd.queues.getD q [] =
             if bitN qmask q then s.cmd.queues.getD q [] ++ [.barrier x.handle] else s.cmd.queues.getD q [])
         ∧ Frame s t [.engine] [])
       ∧ ∀ mode value, mode ≤ 1 → (mode = 0 → 1 ≤ value ∧ value ≤ 65535) → ∃ t, exec (.fenceTick x qmask mode value) s = .next t
         ∧ (∀ q, q < 5 → t.cmd.queues.getD q [] =
             if bitN qmask q then s.cmd.queues.getD q [] ++ [.barrier x.handle] else s.cmd.queues.getD q [])
         ∧ Frame s t [.engine] [])
  ∧ (∀ (h : Nat) (e : HandleEnt) (s : State), Live s → s.handle h = some e → e.st ≠ 3 →
       let released (i : Instr) := ∃ t, exec i s = .next t ∧ Ends s t h 0x00 ∧ (∀ f ∈ t.cmd.fences, f.h ≠ h)
         ∧ (∀ q, ∀ b ∈ t.cmd.queues.getD q [], b.is h = false) ∧ Frame s t answerParts answerFlds
       (s.cmd.fences.any (fun f => f.h == h && f.waits.isEmpty && f.kind == .plain) = true → released (.barrierRelease h))
       ∧ (s.cmd.fences.any (fun f => f.h == h && f.due && f.kind != .plain) = true → released (.fenceTickRelease h))
       ∧ (s.cmd.fences.any (fun f => f.h == h && f.waits.isEmpty && f.kind == .plain) = false →
         ∃ t, exec (.barrierRelease h) s = .next t ∧ Frame s t [] [])
       ∧ (s.cmd.fences.any (fun f => f.h == h && f.due && f.kind != .plain) = false →
         ∃ t, exec (.fenceTickRelease h) s = .next t ∧ Frame s t [] []))

/-- In every SPI frame from boot stage 3 on as many bytes are driven on SDO as came in; before, in reset too, none is, and
nothing happens (R247, R252, R460, R488). While the engine does not run they are all 0xFF (R247). A packet that passes its
checks does what its row does, its reply kept for fetching; a queued one is ACCEPTED with a handle at the tail of its
queue. One whose CRC is wrong is answered BAD_CRC, counted and has no other effect (R256, R257); one that repeats a kept
packet of its SEQ, the same but for RETRY, is answered DUPLICATE with the kept payload and not executed; another of that
SEQ SEQ_CONFLICT (R258). Which bytes two packets must share to be the same is the model's reading (log entry 31). A fetch
returns the last reply of the SEQ named, on SDO after the summary byte or as an item of the return lane, and changes
nothing else. -/
def Obligations.SpiFrames : Prop :=
  (∀ (bytes : List Byte) (s : State),
     (s.boot.stage < 3 → ∃ t, exec (.spiFrame bytes) s = .next t ∧ t.pins.sdo = [] ∧ Frame s t [.driven] [])
     ∧ (3 ≤ s.boot.stage → ∃ t, exec (.spiFrame bytes) s = .next t ∧ t.pins.sdo.length = bytes.length)
     ∧ (3 ≤ s.boot.stage → s.engineOn = false →
       ∃ t, exec (.spiFrame bytes) s = .next t ∧ t.pins.sdo = List.replicate bytes.length 0xFF ∧ Frame s t [.driven] [])
     ∧ (∀ (p : Packet) (c : Cmd) (skip : Bool), Open s → s.boot.window = none → frame bytes = .packet p → u8 bytes 0 = 0xA6 → p.crcOk = true →
       s.rd SAFE_STATUS.HOST_SEEN = 1 → s.cmd.kept.find? (·.seq == p.seq) = none → decodePacket p = .inl (c, skip) →
       let x : Ctx := { p.ctx .spi with cqSkip := skip }
       let q := queueField c
       (p.ptype = 1 → ∃ t u, exec (.spiFrame bytes) s = .next t ∧ exec (rowOf x c) (s.inc CMD_PKT_CNT.COUNT) = .next u
         ∧ { t with pins := { t.pins with sdo := s.pins.sdo } } = u
         ∧ t.pins.sdo = (leBytes 1 s.summary ++ List.replicate bytes.length 0xFF).take bytes.length)
       ∧ (p.ptype = 2 → immediateOp (opcodeOf c) = false → isFence c = false → s.liveHandles < 64 → (s.cmd.queues.getD q []).length < 16 →
         s.cmd.queues.length = 5 → ∃ t, exec (.spiFrame bytes) s = .next t
         ∧ t.cmd.last.head? = some (p.seq, 0x01, leBytes 2 s.nextHandle)
         ∧ t.cmd.queues = s.cmd.queues.set q (s.cmd.queues.getD q [] ++ [.cmd { x with handle := s.nextHandle } c])
         ∧ (t.handle s.nextHandle).map (·.st) = some 0 ∧ t.rd CMD_PKT_CNT.COUNT = min (2 ^ CMD_PKT_CNT.COUNT.w - 1) (s.rd CMD_PKT_CNT.COUNT + 1)
         ∧ Frame s t (.driven :: answerParts) [CMD_PKT_CNT.COUNT]))
     ∧ ∀ p : Packet, s.engineOn = true → s.boot.window = none → frame bytes = .packet p → u8 bytes 0 = 0xA6 →
       (p.crcOk = false → ∃ t, exec (.spiFrame bytes) s = .next t ∧ t.cmd.last.head? = some (p.seq, 0x10, [])
         ∧ t.rd CMD_STATUS.REJECT = 1 ∧ t.rd CMD_ERR_CNT.CRC = min 255 (s.rd CMD_ERR_CNT.CRC + 1)
         ∧ Frame s t (.driven :: answerParts) [CMD_STATUS.REJECT, CMD_ERR_CNT.CRC])
       ∧ ∀ r, p.crcOk = true → 1 ≤ p.ptype → p.ptype ≤ 2 → s.rd SAFE_STATUS.HOST_SEEN = 1 →
         s.cmd.kept.find? (·.seq == p.seq) = some r →
         (r.ptype = p.ptype ∧ r.len = p.len ∧ r.crc = p.crc → ∃ t, exec (.spiFrame bytes) s = .next t
           ∧ t.cmd.last.head? = some (p.seq, 0x02, r.payload) ∧ t.rd CMD_ERR_CNT.DUP = min 255 (s.rd CMD_ERR_CNT.DUP + 1)
           ∧ Frame s t (.driven :: answerParts) [CMD_ERR_CNT.DUP, CMD_STATUS.DUP_NORETRY])
         ∧ (¬ (r.ptype = p.ptype ∧ r.len = p.len ∧ r.crc = p.crc) → ∃ t, exec (.spiFrame bytes) s = .next t
           ∧ t.cmd.last.head? = some (p.seq, 0x14, []) ∧ t.rd CMD_STATUS.SEQ_CONFLICT = 1
           ∧ t.rd CMD_ERR_CNT.CONFLICT = min 255 (s.rd CMD_ERR_CNT.CONFLICT + 1)
           ∧ Frame s t (.driven :: answerParts) [CMD_ERR_CNT.CONFLICT, CMD_STATUS.SEQ_CONFLICT]))
  ∧ (∀ (seq : Nat) (inFlight : Bool) (s : State), s.engineOn = true → s.rd SAFE_STATUS.HOST_SEEN = 1 →
       (∃ t, exec (.replyFetch .spi seq inFlight) s = .next t ∧ t.pins.sdo = fetchFrame s.summary (s.fetched seq inFlight)
         ∧ Frame s t [.driven] [])
       ∧ ∀ src, src = .linkA ∨ src = .linkB → ∃ t, exec (.replyFetch src seq inFlight) s = .next t
         ∧ s.daelo.rl.ctl ++ [.reply s.cmd.serial (s.fetched seq inFlight) false] <+: t.daelo.rl.ctl ∧ t.cmd.last = s.cmd.last
         ∧ t.cmd.handles = s.cmd.handles ∧ Frame s t [.engine, .returns] [])

/-- SET_POWER_STATE to a lower state begins an entry handshake and stays PENDING; in the present state it only requests
its operating point: a raise starts, a lowering waits for the tick, a step in progress or automatic selection is waited
for, and a point that is in force completes it OK with the commands that waited for one; to ACTIVE from IDLE it leaves
IDLE and completes OK. A state above 3 or a point above 3 is BAD_PARAM, a lower state in LIMP SAFETY_REFUSED, a second
handshake NOT_NOW. SHUTDOWN begins with its record, its run shown and the array off; a NEXT outside 1 to 3 is BAD_PARAM,
LIMP without FORCE SAFETY_REFUSED, a store or racking in progress NOT_NOW. RESET_DEVICE with its key opens the reset
window; of another kind or key it is BAD_PARAM. Each that fails changes nothing but the command engine. When the commands
that wait for a point complete is log entries 81 and 92. -/
def Obligations.PowerCommands : Prop :=
  ∀ (x : Ctx) (s : State), Open s →
    (∀ st op retain wake ms, 1 ≤ st → st ≤ 3 → op ≤ 3 → s.safety ≠ 1 → st ≠ s.powerState → s.power.hs = none →
      ∃ t, exec (.setPowerState x st op retain wake ms) s = .next t ∧ Pends s t x
        ∧ t.power = { s.power with hs := some ⟨x.handle, st, op, retain, wake, ms, []⟩ }
        ∧ Frame s t [.engine, .power] [])
    ∧ (∀ st op retain wake ms,
      let fails (status : Nat) (p : List Byte) := ∃ t, exec (.setPowerState x st op retain wake ms) s = .next t ∧ Answered s t x status p
        ∧ Frame s t answerParts answerFlds
      (3 < st ∨ 3 < op → fails 0x13 [])
      ∧ (st ≤ 3 → op ≤ 3 → st ≠ 0 → s.safety = 1 → fails 0x30 [])
      ∧ (1 ≤ st → st ≤ 3 → op ≤ 3 → s.safety ≠ 1 → st ≠ s.powerState → s.power.hs ≠ none → fails 0x17 (leBytes 4 0x1000)))
    ∧ (∀ op retain wake ms, op ≤ 3 → s.powerState ≤ 3 → (s.safety = 1 → s.powerState = 0) →
      let i := Instr.setPowerState x s.powerState op retain wake ms
      let top := min op s.opMax
      let p := { s.power with want := op, lower := false, autoStep := false, wantHandles := s.power.wantHandles ++ [x.handle] }
      (s.power.step ≠ none ∨ op = 3 → ∃ t, exec i s = .next t ∧ Pends s t x ∧ t.power = p ∧ Frame s t [.engine, .power] [])
      ∧ (s.power.step = none → op < 3 → s.power.div < top → ∃ t, exec i s = .next t ∧ Pends s t x ∧ t.power = { p with step := some (top, true) }
        ∧ t.rd POWER_STATUS.OP_BUSY = 1 ∧ Frame s t [.engine, .power] [POWER_STATUS.OP_BUSY])
      ∧ (s.power.step = none → op < 3 → top < s.power.div → ∃ t, exec i s = .next t ∧ Pends s t x ∧ t.power = { p with lower := true }
        ∧ t.rd POWER_STATUS.OP_DEFER = 1 ∧ Frame s t [.engine, .power] [POWER_STATUS.OP_DEFER])
      ∧ (s.power.step = none → op < 3 → s.power.div = op → op ≤ s.opMax → ∃ t, exec i s = .next t ∧ Ends s t x.handle 0x00
        ∧ (∀ h ∈ s.power.wantHandles, Ends s t h 0x00) ∧ t.power = { p with wantHandles := [] }
        ∧ Frame s t (.power :: answerParts) answerFlds))
    ∧ (∀ op retain wake ms, op ≤ 3 → s.powerState = 1 → ∃ t, exec (.setPowerState x 0 op retain wake ms) s = .next t ∧ Answered s t x 0x00 []
        ∧ t.rd POWER_STATUS.STATE = 0 ∧ t.pipe = { s.pipe with noFrame := true } ∧ t.power.want = op
        ∧ (s.safety = 0 → s.power.led = 0 → s.power.shutHold = false → t.power.led = 1)
        ∧ Frame s t (.pipe :: .power :: answerParts) (POWER_STATUS.STATE :: POWER_STATUS.OP_BUSY :: POWER_STATUS.OP_DEFER :: answerFlds))
    ∧ (∀ cfg force next,
      let fails (status : Nat) := ∃ t, exec (.shutdown x cfg force next) s = .next t ∧ Answered s t x status [] ∧ Frame s t answerParts answerFlds
      (next = 0 ∨ 3 < next → fails 0x13) ∧ (1 ≤ next → next ≤ 3 → s.safety = 1 → force = false → fails 0x30)
      ∧ (1 ≤ next → next ≤ 3 → (s.safety = 1 → force = true) → s.shutBusy = true → fails 0x17))
    ∧ (∀ cfg force next, 1 ≤ next → next ≤ 3 → (s.safety = 1 → force = true) → s.shutBusy = false →
      ∃ t, exec (.shutdown x cfg force next) s = .next t ∧ (t.power.shut.map fun h => (h.handle, h.storeCfg, h.next)) = some (x.handle, cfg, next)
        ∧ t.power.shutHold = true ∧ t.power.led = 0 ∧ t.rd BIST_STATUS.RUN = 1 ∧ t.cellar.shutRec.map (·.st) = some 2
        ∧ t.pins.forceZero = true)
    ∧ (∀ kind, kind ≤ 1 → x.handle = 0 → ∃ t, exec (.resetDevice x kind 0x5A) s = .next t ∧ Answered s t x 0x00 []
        ∧ t.boot.window = some (kind == 1, 0) ∧ { t.boot with window := s.boot.window } = s.boot
        ∧ Frame s t (.boot :: answerParts) answerFlds)
    ∧ ∀ kind key, 1 < kind ∨ key ≠ 0x5A → ∃ t, exec (.resetDevice x kind key) s = .next t ∧ Answered s t x 0x13 []
        ∧ Frame s t answerParts answerFlds

/-! ## DISPLAY commands -/

/-- A LAYER_COMMIT whose layers no earlier commit names is checked at once. With a failing check it completes BAD_PARAM,
its result naming the layer and the register, and nothing is locked; otherwise its layers are locked with COMMIT_PEND and
it stays PENDING. One that names a claimed layer waits. A CASK_SELECT of cask layers and of a valid beam that no racking
writes sets BEAM of the named layers and then goes on as a LAYER_COMMIT of them. A named layer of another KIND makes it
BAD_PARAM, a beam that is not valid or being racked NOT_NOW. -/
def Obligations.Commits : Prop :=
  (∀ (x : Ctx) (mask : Nat) (s : State), Open s → x.handle ≠ 0 → mask ≠ 0 →
     (Nat.land mask s.claimed = 0 → s.commitFault mask = none → ∃ t, exec (.layerCommit x mask) s = .next t ∧ Pends s t x
       ∧ t.layer = { s.layer with commits := s.layer.commits ++ [⟨x.handle, mask, none⟩] }
       ∧ (∀ n, n < 8 → t.rd (LAYER_STATUS.COMMIT_PEND n) = if bitN s.pendMask n || bitN mask n then 1 else 0)
       ∧ Frame s t [.layer, .engine] ((List.range 8).map LAYER_STATUS.COMMIT_PEND))
     ∧ (∀ e, Nat.land mask s.claimed = 0 → s.commitFault mask = some e → ∃ t, exec (.layerCommit x mask) s = .next t
       ∧ Answered s t x 0x13 (failResult e.1 e.2) ∧ Frame s t answerParts answerFlds)
     ∧ (Nat.land mask s.claimed ≠ 0 → ∃ t, exec (.layerCommit x mask) s = .next t ∧ Pends s t x
       ∧ t.layer = { s.layer with waiting := s.layer.waiting ++ [(x.handle, .layerCommit mask)] }
       ∧ Frame s t [.layer, .engine] []))
  ∧ (∀ (x : Ctx) (mask k : Nat) (s : State), Open s → x.handle ≠ 0 → mask ≠ 0 → k ≤ 1 → Nat.land mask s.claimed = 0 →
       let cask := ∀ n ∈ layersOf mask, (s.regCfg n).kind = 2
       let usable := s.beamValid k = true ∧ ∀ r, s.cask.racking = some r → r.beam ≠ k
       let selected := (layersOf mask).foldl (fun (u : State) n => u.wr (LAYER_CTRL.BEAM n) k) s
       (cask → usable → selected.commitFault mask = none → ∃ t, exec (.caskSelect x mask k) s = .next t ∧ Pends s t x
         ∧ t.layer = { s.layer with commits := s.layer.commits ++ [⟨x.handle, mask, some k⟩] }
         ∧ (∀ n, n < 8 → bitN mask n = true → t.rd (LAYER_CTRL.BEAM n) = k ∧ t.rd (LAYER_STATUS.COMMIT_PEND n) = 1)
         ∧ Frame s t [.layer, .engine] ((List.range 8).map LAYER_STATUS.COMMIT_PEND ++ (layersOf mask).map LAYER_CTRL.BEAM))
       ∧ (¬ cask → ∃ t p, exec (.caskSelect x mask k) s = .next t ∧ Answered s t x 0x13 p ∧ Frame s t answerParts answerFlds)
       ∧ (cask → ¬ usable → ∃ t, exec (.caskSelect x mask k) s = .next t ∧ Answered s t x 0x17 []
         ∧ Frame s t answerParts answerFlds))

/-- A RACK that passes its checks makes its beam not valid, shows RACKING and TARGET with no row written, holds the source
buffers IN_USE, and stays PENDING with the copied configurations. One that fails a check of its parameters completes
BAD_PARAM, one that cannot run now NOT_NOW, both without effect. RACK_DONE, where the composition does not read the beam,
leaves the beam valid with its CRC and tick, no racking, and its command OK. That the rows of a racking are written when
it is done is the model's choice (log entry 72). -/
def Obligations.RackRuns : Prop :=
  (∀ (x : Ctx) (k mask bgW bgC : Nat) (s : State), Open s → k ≤ 1 →
     let idle := s.cask.racking = none ∧ (∀ n ∈ layersOf mask, s.rackSource n ≠ none) ∧ s.beamNamed k = false
     (s.rackFault k mask = none → idle → ∃ t, exec (.rack x k mask bgW bgC) s = .next t ∧ Pends s t x
       ∧ (∃ r, t.cask = { s.cask with racking := some r } ∧ r.handle = x.handle ∧ r.beam = k ∧ r.bgW = bgW ∧ r.bgC = bgC
         ∧ r.cfg = s.layer.active ∧ ∀ n ∈ layersOf mask, some (r.judge.getD n .hidden) = s.rackSource n)
       ∧ t.rd (validFld k) = 0 ∧ t.rd CASK_STATUS.RACKING = 1 ∧ t.rd CASK_STATUS.TARGET = k ∧ t.rd CASK_RACK_PROG.ROWS_CP0 = 0
       ∧ t.rd CASK_RACK_PROG.ROWS_CP1 = 0
       ∧ (∀ n ∈ layersOf mask, ∀ b, s.rackSource n = some (.buffer b) → t.buf n b = bufInUse)
       ∧ { t.layer with bufs := s.layer.bufs } = s.layer
       ∧ Frame s t [.cask, .layer, .engine, .arb] ([validFld k, CASK_STATUS.RACKING, CASK_STATUS.TARGET, CASK_RACK_PROG.ROWS_CP0,
           CASK_RACK_PROG.ROWS_CP1] ++ (layersOf mask).flatMap fun n => [bufFld n 0, bufFld n 1]))
     ∧ (∀ e, s.rackFault k mask = some e → ∃ t, exec (.rack x k mask bgW bgC) s = .next t
       ∧ Answered s t x 0x13 (failResult e.1 e.2) ∧ Frame s t answerParts answerFlds)
     ∧ (s.rackFault k mask = none → ¬ idle → ∃ t, exec (.rack x k mask bgW bgC) s = .next t ∧ Answered s t x 0x17 []
       ∧ Frame s t answerParts answerFlds))
  ∧ (∀ (r : Racking) (s : State), Acts s → s.cask.racking = some r → r.beam ≤ 1 → s.compReadsBeam r.beam = false →
       ∃ t, exec .rackDone s = .next t ∧ t.cask = { s.cask with racking := none } ∧ t.rd (validFld r.beam) = 1 ∧ t.rd CASK_STATUS.RACKING = 0
         ∧ t.rd CASK_STATUS.RACK_DONE = 1 ∧ t.rd CASK_RACK_PROG.ROWS_CP0 = 320 ∧ t.rd CASK_RACK_PROG.ROWS_CP1 = 320
         ∧ t.rd (CASK_BEAM_CRC.CRC r.beam) = crc32c (t.sramBytes (beamBase r.beam) 2621440) % 2 ^ 32
         ∧ t.rd (CASK_BEAM_TICK.COUNT r.beam) = s.tickCount ∧ Ends s t r.handle 0x00
         ∧ (∀ a, scratch a = false → a < beamBase r.beam ∨ beamBase r.beam + 2621440 ≤ a → t.sramByte a = s.sramByte a)
         ∧ Frame s t (.mem :: .arb :: .layer :: .cask :: s.scanParts ++ answerParts) (s.scanShown ++ [validFld r.beam, CASK_STATUS.RACKING, CASK_STATUS.RACK_DONE,
             CASK_RACK_PROG.ROWS_CP0, CASK_RACK_PROG.ROWS_CP1, CASK_BEAM_CRC.CRC r.beam, CASK_BEAM_TICK.COUNT r.beam] ++
             (List.range 16).map (fun i => bufFld (i / 2) (i % 2)) ++ answerFlds))

/-- An enabled window with Y0 > Y1 or G0 > G1, rows above 639 taken as 639, darkens nothing: the segments driven are those
of the window disabled. CUT_WINDOW_SET of such a window completes BAD_PARAM and changes nothing; a register write of one
takes effect as it stands and sets CUT_EMPTY. -/
def Obligations.EmptyWindows : Prop :=
  (∀ (s : State) (w : Nat) (c : Cut) (y g : Nat),
    min c.rect.y1 639 < min c.rect.y0 639 ∨ c.rect.g1 < c.rect.g0 →
    ({ s with array := { s.array with cuts := s.array.cuts.set w c } } : State).segDark y g
      = ({ s with array := { s.array with cuts := s.array.cuts.set w { c with en := false } } } : State).segDark y g)
  ∧ (∀ (x : Ctx) (w y0 y1 g0 g1 : Nat) (s : State), Open s → min y1 639 < min y0 639 ∨ g1 < g0 →
    ∃ t, exec (.cutWindowSet x w y0 y1 g0 g1) s = .next t ∧ Answered s t x 0x13 [] ∧ Frame s t answerParts answerFlds)
  ∧ ∀ (src : Source) (w : Nat) (v : Word) (s : State), Open s → w < 16 → s.array.cuts.length = 16 → fget v 31 1 = 1 →
    Admitted s src (0x3104 + 8 * w) v → src = .spi ∨ s.cutTie w = none →
    min (s.rd (ARRAY_CUT_ROWS.Y1 w)) 639 < min (s.rd (ARRAY_CUT_ROWS.Y0 w)) 639 ∨ fget v 16 7 < fget v 0 7 →
    ∃ t, exec (.cutColsWrite src w v) s = .next t ∧ t.rd ARRAY_STATUS.CUT_EMPTY = 1
      ∧ t.array.cuts.getD w ⟨⟨0, 0, 0, 0⟩, false⟩
        = ⟨⟨s.rd (ARRAY_CUT_ROWS.Y0 w), s.rd (ARRAY_CUT_ROWS.Y1 w), fget v 0 7, fget v 16 7⟩, true⟩

/-- CUT_WINDOW_SET in NORMAL puts the window in force, rows above 639 taken as 639, and shows it, enabled, in both
registers, its rows as 639 too (the model's choice, log entry 28). CUT_WINDOW_CLEAR disables every window of its mask,
whose registers show the rest of the window in force. Every other window stands. An update of a link that comes in the
core cycle of updates of the same window from the SPI port is applied before them (which commands share a core cycle is
the model's choice, log entry 22). In LIMP and in DARK, CUT_WINDOW_SET of a window that is not empty returns
SAFETY_REFUSED and changes nothing, no entry of a CUT list with EN = 1 changes a window, and CUT_WINDOW_CLEAR and the
entries with EN = 0 disable theirs. -/
def Obligations.CutWindows : Prop :=
  ((∀ (x : Ctx) (w y0 y1 g0 g1 : Nat) (s : State), Open s → s.safety = 0 → w < 16 → min y0 639 ≤ min y1 639 → g0 ≤ g1 → g1 ≤ 127 →
     (x.src = .spi ∨ s.cutTie w = none → ∃ t, exec (.cutWindowSet x w y0 y1 g0 g1) s = .next t ∧ Answered s t x 0x00 []
       ∧ t.array.cuts = s.array.cuts.set w ⟨⟨min y0 639, min y1 639, g0, g1⟩, true⟩
       ∧ { t.array with cuts := s.array.cuts, held := s.array.held, litBar := s.array.litBar, cutSpi := s.array.cutSpi } = s.array
       ∧ t.rd (ARRAY_CUT_ROWS.Y0 w) = min y0 639 ∧ t.rd (ARRAY_CUT_ROWS.Y1 w) = min y1 639 ∧ t.rd (ARRAY_CUT_COLS.G0 w) = g0
       ∧ t.rd (ARRAY_CUT_COLS.G1 w) = g1 ∧ t.rd (ARRAY_CUT_COLS.EN w) = 1
       ∧ Frame s t (.array :: answerParts) (answerFlds ++ [ARRAY_CUT_ROWS.Y0 w, ARRAY_CUT_ROWS.Y1 w, ARRAY_CUT_COLS.G0 w,
           ARRAY_CUT_COLS.G1 w, ARRAY_CUT_COLS.EN w]))
     ∧ (∀ e, x.src ≠ .spi → s.cutTie w = some e → ∃ t, exec (.cutWindowSet x w y0 y1 g0 g1) s = .next t ∧ Answered s t x 0x00 []
       ∧ (let v := e.ops.foldl (fun v o => o.apply v) ⟨min y0 639, min y1 639, ⟨⟨min y0 639, min y1 639, g0, g1⟩, true⟩⟩
          t.array.cuts = s.array.cuts.set w v.cut ∧ t.on (ARRAY_CUT_COLS.EN w) = v.cut.en
          ∧ t.rd (ARRAY_CUT_ROWS.Y0 w) = v.y0 % 1024 ∧ t.rd (ARRAY_CUT_ROWS.Y1 w) = v.y1 % 1024)
       ∧ { t.array with cuts := s.array.cuts, held := s.array.held, litBar := s.array.litBar, cutSpi := s.array.cutSpi } = s.array
       ∧ Frame s t (.array :: answerParts) (answerFlds ++ [ARRAY_CUT_ROWS.Y0 w, ARRAY_CUT_ROWS.Y1 w, ARRAY_CUT_COLS.G0 w,
           ARRAY_CUT_COLS.G1 w, ARRAY_CUT_COLS.EN w])))
   ∧ ∀ (x : Ctx) (mask : Nat) (s : State), Open s → s.array.cuts.length = 16 →
     (x.src = .spi ∨ ∀ w, bitN mask w = true → s.cutTie w = none) → ∃ t, exec (.cutWindowClear x mask) s = .next t ∧ Answered s t x 0x00 []
       ∧ t.array.cuts = s.array.cuts.mapIdx (fun w c => if bitN mask w then { c with en := false } else c)
       ∧ (∀ w, w < 16 → bitN mask w = true → t.rd (ARRAY_CUT_COLS.EN w) = 0
         ∧ t.rd (ARRAY_CUT_ROWS.Y0 w) = (s.cutView w).cut.rect.y0 % 1024 ∧ t.rd (ARRAY_CUT_ROWS.Y1 w) = (s.cutView w).cut.rect.y1 % 1024
         ∧ t.rd (ARRAY_CUT_COLS.G0 w) = (s.cutView w).cut.rect.g0 % 128 ∧ t.rd (ARRAY_CUT_COLS.G1 w) = (s.cutView w).cut.rect.g1 % 128)
       ∧ { t.array with cuts := s.array.cuts, held := s.array.held, litBar := s.array.litBar, cutSpi := s.array.cutSpi } = s.array
       ∧ Frame s t (.array :: answerParts) (answerFlds ++ ((List.range 16).filter (bitN mask)).flatMap fun w =>
           [ARRAY_CUT_ROWS.Y0 w, ARRAY_CUT_ROWS.Y1 w, ARRAY_CUT_COLS.G0 w, ARRAY_CUT_COLS.G1 w, ARRAY_CUT_COLS.EN w]))
  ∧ (∀ s : State, s.safety ≠ 0 →
       (∀ (x : Ctx) (w y0 y1 g0 g1 : Nat), Open s → cutEmpty y0 y1 g0 g1 = false →
         ∃ t, exec (.cutWindowSet x w y0 y1 g0 g1) s = .next t ∧ Answered s t x 0x30 [] ∧ Frame s t answerParts answerFlds)
       ∧ (∀ (x : Ctx) (mask : Nat), Open s → (x.src = .spi ∨ ∀ w, bitN mask w = true → s.cutTie w = none) → ∃ t, exec (.cutWindowClear x mask) s = .next t
         ∧ Answered s t x 0x00 [] ∧ ∀ w, w < 16 → bitN mask w = true → t.rd (ARRAY_CUT_COLS.EN w) = 0)
       ∧ (∀ (k : Nat) (e : List Byte), bitN (u8 e 0) 7 = true → (s.cutEntry k e).array = s.array
         ∧ ∀ w, w < 16 → (s.cutEntry k e).reg (0x3100 + 8 * w) = s.reg (0x3100 + 8 * w)
           ∧ (s.cutEntry k e).reg (0x3104 + 8 * w) = s.reg (0x3104 + 8 * w))
       ∧ ∀ (k : Nat) (e : List Byte), bitN (u8 e 0) 7 = false → s.cutTie (bits (u8 e 0) 0 4) = none → (s.cutEntry k e).rd (ARRAY_CUT_COLS.EN (bits (u8 e 0) 0 4)) = 0)

/-- A SYMBOL_LOAD with FIRST that passes its checks and whose symbol nothing reads writes the directory entry, LOADING and
not VALID, and the data bytes; without LAST it completes OK, and no other SRAM byte changes. Read by a racking it
completes NOT_NOW, with a failing check BAD_PARAM, both without effect; read by the composition its data waits, PENDING. A
SYMBOL_LOAD with LAST ends the load: the symbol becomes VALID if the CRC-32C of its data matches, else it stays not valid
and the command completes VERIFY_FAIL; LOADING clears either way. For a symbol that is not LOADING, or with a byte beyond
the data, it completes BAD_PARAM and writes nothing. -/
def Obligations.SymbolLoads : Prop :=
  (∀ (x : Ctx) (i off w h warm cool fmt crc doff : Nat) (data : List Byte) (s : State), Open s → x.handle ≠ 0 → i ≤ 255 →
     data.length ≤ 2048 → warm < 65536 → cool < 65536 →
     let c := Instr.symbolLoad x i true false off w h warm cool fmt crc doff data
     let e : SymEntry := ⟨off, w, h, warm, cool, fmt, false, true, symPitch fmt w⟩
     (s.symFirstOk i off w h fmt = true → s.rackReadsSymbol i = false → s.symHeld i = false →
       doff + data.length ≤ e.bytes → ∃ t, exec c s = .next t ∧ Answered s t x 0x00 [] ∧ t.symEntry i = e
         ∧ t.sramBytes (symbolStore + off + doff) data.length = data
         ∧ (∀ a, (a < symbolStore + 16 * i ∨ symbolStore + 16 * i + 16 ≤ a) →
             (a < symbolStore + off + doff ∨ symbolStore + off + doff + data.length ≤ a) → t.sramByte a = s.sramByte a)
         ∧ Frame s t (.mem :: .arb :: s.scanParts ++ answerParts) (s.scanShown ++ answerFlds))
     ∧ (s.symFirstOk i off w h fmt = true → s.rackReadsSymbol i = false → s.symHeld i = true →
       ∃ t, exec c s = .next t ∧ Pends s t x ∧ t.symEntry i = e
         ∧ t.cask = { s.cask with heldSyms := s.cask.heldSyms ++ [⟨x.handle, i, false, crc, doff, data⟩] }
         ∧ (∀ a, (a < symbolStore + 16 * i ∨ symbolStore + 16 * i + 16 ≤ a) → t.sramByte a = s.sramByte a)
         ∧ Frame s t (.mem :: .arb :: .cask :: .engine :: s.scanParts) s.scanShown)
     ∧ (s.symFirstOk i off w h fmt = true → s.rackReadsSymbol i = true →
       ∃ t, exec c s = .next t ∧ Answered s t x 0x17 [] ∧ Frame s t answerParts answerFlds)
     ∧ (s.symFirstOk i off w h fmt = false →
       ∃ t, exec c s = .next t ∧ Answered s t x 0x13 [] ∧ Frame s t answerParts answerFlds))
  ∧ (∀ (x : Ctx) (i off w h warm cool fmt crc doff : Nat) (data : List Byte) (s : State), Open s → x.handle ≠ 0 → i ≤ 255 →
       data.length ≤ 2048 → s.symHeld i = false →
       let c := Instr.symbolLoad x i false true off w h warm cool fmt crc doff data
       let e := s.symEntry i
       (e.loading = true → doff + data.length ≤ e.bytes → 4096 ≤ e.offset →
         let ok := crc32c ((s.sramWrite (symbolStore + e.offset + doff) data).sramBytes (symbolStore + e.offset) e.bytes) == crc
         ∃ t, exec c s = .next t ∧ Answered s t x (if ok then 0x00 else 0x24) [] ∧ t.symEntry i = { e with valid := ok, loading := false }
           ∧ t.sramBytes (symbolStore + e.offset + doff) data.length = data
           ∧ Frame s t (.mem :: .arb :: s.scanParts ++ answerParts) (s.scanShown ++ answerFlds))
       ∧ (e.loading = false ∨ (data ≠ [] ∧ e.bytes < doff + data.length) →
         ∃ t, exec c s = .next t ∧ Answered s t x 0x13 [] ∧ Frame s t answerParts answerFlds))

/-- COEF_LOAD, RAMP_LOAD and MIX_LOAD that pass their checks stay PENDING; TABLE_LOAD_DONE stores the oldest of them,
shows it loaded and completes it OK. With a failing check they complete BAD_PARAM without effect. -/
def Obligations.TableLoads : Prop :=
  ∀ s : State,
    (∀ (x : Ctx) (k : Nat) (coef : List Byte), Open s →
      (k ≤ 7 → (normSet (coefOf coef)).isSome = true → ∃ t, exec (.coefLoad x k coef) s = .next t ∧ Pends s t x
        ∧ t.cask = { s.cask with loads := s.cask.loads ++ [(x.handle, .coefLoad k coef)] } ∧ Frame s t [.cask, .engine] [])
      ∧ (7 < k ∨ normSet (coefOf coef) = none → ∃ t, exec (.coefLoad x k coef) s = .next t ∧ Answered s t x 0x13 []
        ∧ Frame s t answerParts answerFlds))
    ∧ (∀ (x : Ctx) (ramp : List Nat), Open s →
      (rampOk ramp = true → ∃ t, exec (.rampLoad x ramp) s = .next t ∧ Pends s t x
        ∧ t.cask = { s.cask with loads := s.cask.loads ++ [(x.handle, .rampLoad ramp)] } ∧ Frame s t [.cask, .engine] [])
      ∧ (rampOk ramp = false → ∃ t, exec (.rampLoad x ramp) s = .next t ∧ Answered s t x 0x13 []
        ∧ Frame s t answerParts answerFlds))
    ∧ (∀ (x : Ctx) (k : Nat) (es : List (Nat × Nat)), Open s →
      (k ≤ 3 → ∃ t, exec (.mixLoad x k es) s = .next t ∧ Pends s t x
        ∧ t.cask = { s.cask with loads := s.cask.loads ++ [(x.handle, .mixLoad k es)] } ∧ Frame s t [.cask, .engine] [])
      ∧ (3 < k → ∃ t, exec (.mixLoad x k es) s = .next t ∧ Answered s t x 0x13 [] ∧ Frame s t answerParts answerFlds))
    ∧ ∀ (h : Nat) (c : Cmd) (rest : List (Nat × Cmd)), Live s → s.cask.loads = (h, c) :: rest →
      match c with
      | .coefLoad k coef => k ≤ 7 → ∃ t, exec .tableLoadDone s = .next t ∧ Ends s t h 0x00 ∧ t.rd ⟨0x6800, k, 1⟩ = 1
        ∧ t.cask = { s.cask with loads := rest, coef := (k, (normSet (coefOf coef)).getD []) :: s.cask.coef.filter (·.1 != k) }
        ∧ Frame s t (.cask :: answerParts) (⟨0x6800, k, 1⟩ :: answerFlds)
      | .rampLoad ramp => ∃ t, exec .tableLoadDone s = .next t ∧ Ends s t h 0x00 ∧ t.rd ARRAY_RAMP_CTRL.LOADED = 1
        ∧ t.array = { s.array with ramp := ramp } ∧ t.cask = { s.cask with loads := rest }
        ∧ Frame s t (.array :: .cask :: answerParts) (ARRAY_RAMP_CTRL.LOADED :: answerFlds)
      | .mixLoad k es => k ≤ 3 → ∃ t, exec .tableLoadDone s = .next t ∧ Ends s t h 0x00 ∧ t.rd ⟨0x4024, k, 1⟩ = 1
        ∧ t.pipe = { s.pipe with mix := (k, es) :: s.pipe.mix.filter (·.1 != k) } ∧ t.cask = { s.cask with loads := rest }
        ∧ Frame s t (.pipe :: .cask :: answerParts) (⟨0x4024, k, 1⟩ :: answerFlds)
      | _ => True

/-- REGION_SIG_SET, MONITOR_CONFIG, GROUP_CONFIG, SAT_CONFIG, SAT_WRITE and CALIBRATE with MODE 1 that pass their checks
wait, PENDING, for the next tick, and change nothing but the command engine; out of range they complete BAD_PARAM, and
CALIBRATE during a calibration NOT_NOW. When the tick latches one of them, it writes what the command names and completes
it OK; CALIBRATE with MODE 1 restores the gains of the selected strips in the selected colours, and the trims of those
colours, from CONFIG (which values those are is the model's reading, log entry 46). The clauses on latchCmd say it of the
operation that the tick performs for each, those on the tick of a tick with one such command waiting. -/
def Obligations.CommandsForTheTick : Prop :=
  (∀ (x : Ctx) (s : State), Open s →
     let waits (i : Instr) (c : Cmd) := ∃ t, exec i s = .next t ∧ Pends s t x ∧ t.cmd.tickCmds = s.cmd.tickCmds ++ [(x.handle, c)]
       ∧ Frame s t [.engine] []
     let bad (i : Instr) := ∃ t, exec i s = .next t ∧ Answered s t x 0x13 [] ∧ Frame s t answerParts answerFlds
     (∀ k en check point x0 y0 x1 y1 expect,
       if k ≤ 15 ∧ point ≤ 1 ∧ x0 ≤ x1 ∧ x1 ≤ 2047 ∧ y0 ≤ y1 ∧ y1 ≤ 639 then
         waits (.regionSigSet x k en check point x0 y0 x1 y1 expect) (.regionSigSet k en check point x0 y0 x1 y1 expect)
       else bad (.regionSigSet x k en check point x0 y0 x1 y1 expect))
     ∧ (∀ m en log2 src shift x0 y0 x1 y1 frames,
       if m ≤ 7 ∧ src ≤ 6 ∧ shift ≤ 15 ∧ x0 ≤ x1 ∧ x1 ≤ 2047 ∧ y0 ≤ y1 ∧ y1 ≤ 639 then
         waits (.monitorConfig x m en log2 src shift x0 y0 x1 y1 frames) (.monitorConfig m en log2 src shift x0 y0 x1 y1 frames)
       else bad (.monitorConfig x m en log2 src shift x0 y0 x1 y1 frames))
     ∧ (∀ role member count,
       if role ≤ 2 ∧ 1 ≤ count ∧ count ≤ 4 ∧ member < count then waits (.groupConfig x role member count) (.groupConfig role member count)
       else bad (.groupConfig x role member count))
     ∧ (∀ len timing en tcomp,
       if len ≤ 64 ∧ timing ≤ 3 then waits (.satConfig x len timing en tcomp) (.satConfig len timing en tcomp)
       else bad (.satConfig x len timing en tcomp))
     ∧ (∀ first words,
       if first ≤ 63 ∧ 1 ≤ words.length ∧ words.length ≤ 64 ∧ first + words.length ≤ s.rd SAT_CFG.LEN then
         waits (.satWrite x first words) (.satWrite first words)
       else bad (.satWrite x first words))
     ∧ ∀ mode colours strips frames,
       let bounds := mode ≤ 1 ∧ colours ≠ 0 ∧ strips ≠ 0 ∧ (frames = 0 ∨ 8 ≤ frames ∧ frames ≤ 1200)
       (bounds → mode = 1 → s.calBusy = false → waits (.calibrate x 1 colours strips frames) (.calibrate 1 colours strips frames))
       ∧ (¬ bounds → bad (.calibrate x mode colours strips frames))
       ∧ (bounds → s.calBusy = true → ∃ t, exec (.calibrate x mode colours strips frames) s = .next t ∧ Answered s t x 0x17 []
         ∧ Frame s t answerParts answerFlds))
  ∧ (∀ (h : Nat) (s : State),
       (∀ k en check point x0 y0 x1 y1 expect, k ≤ 15 → point ≤ 1 → x1 ≤ 2047 → x0 ≤ x1 → y0 ≤ y1 → y1 ≤ 639 → expect < 2 ^ 32 →
         let t := s.latchCmd h (.regionSigSet k en check point x0 y0 x1 y1 expect)
         t.rd (MON_SIG_X.X0 k) = x0 ∧ t.rd (MON_SIG_X.X1 k) = x1 ∧ t.rd (MON_SIG_Y.Y0 k) = y0 ∧ t.rd (MON_SIG_Y.Y1 k) = y1
           ∧ t.on (MON_SIG_Y.EN k) = en ∧ t.on (MON_SIG_Y.CHECK k) = check ∧ t.rd (MON_SIG_Y.POINT k) = point
           ∧ t.rd (MON_SIG_EXPECT.VALUE k) = expect ∧ t.test = { s.test with sigHave := s.test.sigHave.filter (· != k) } ∧ Ends s t h 0x00)
       ∧ (∀ m en log2 src shift x0 y0 x1 y1 frames, m ≤ 7 → s.test.mons.length = 8 →
         let t := s.latchCmd h (.monitorConfig m en log2 src shift x0 y0 x1 y1 frames)
         t.mon m = { s.mon m with en := en, log2 := log2, source := src, shift := shift, rect := (x0, y0, x1, y1), frames := frames,
                                  acc := Hist.init, counted := 0, clear := false }
           ∧ (∀ k, k ≠ m → t.mon k = s.mon k) ∧ Ends s t h 0x00)
       ∧ (∀ role member count, role ≤ 2 → member ≤ 3 → count ≤ 4 →
         let t := s.latchCmd h (.groupConfig role member count)
         t.rd GROUP_CFG.ROLE = role ∧ t.rd GROUP_CFG.MEMBER = member ∧ t.rd GROUP_CFG.COUNT = count ∧ t.group.conflict = false
           ∧ (role ≠ 2 → t.rd GROUP_STATUS.SYNC = 0) ∧ Ends s t h 0x00)
       ∧ (∀ len timing en tcomp, len ≤ 64 → timing ≤ 3 →
         let t := s.latchCmd h (.satConfig len timing en tcomp)
         t.rd SAT_CFG.LEN = len ∧ t.rd SAT_CFG.TIMING = timing ∧ t.on SAT_CFG.EN = en ∧ t.on SAT_CFG.TCOMP = tcomp ∧ Ends s t h 0x00)
       ∧ ∀ first (words : List (BitVec 48)) (i : Nat), SMap.Wf noWord s.sat.image →
         let t := s.latchCmd h (.satWrite first words)
         SMap.get noWord t.sat.image i = (if first ≤ i ∧ i < first + words.length then words.getD (i - first) 0 else SMap.get noWord s.sat.image i)
           ∧ t.rd SAT_STATUS.WAIT = 0 ∧ Ends s t h 0x00)
  ∧ (∀ (h : Nat) (c : Cmd) (s : State), s.ticking = true → s.cmd.tickCmds = [(h, c)] → s.cal.run = none → Sound s →
       (match c with | .regionSigSet .. | .monitorConfig .. | .groupConfig .. | .satConfig .. | .satWrite .. | .calibrate .. => True | _ => False) →
       ∃ t, exec .tick s = .next t ∧ t.cmd.tickCmds = [] ∧ Ends s t h 0x00 ∧
       match c with
       | .regionSigSet k en check point x0 y0 x1 y1 expect => k ≤ 15 → point ≤ 1 → x0 ≤ 2047 → x1 ≤ 2047 → y0 ≤ 639 → y1 ≤ 639 → expect < 2 ^ 32 →
         t.rd (MON_SIG_X.X0 k) = x0 ∧ t.rd (MON_SIG_X.X1 k) = x1 ∧ t.rd (MON_SIG_Y.Y0 k) = y0 ∧ t.rd (MON_SIG_Y.Y1 k) = y1
           ∧ t.on (MON_SIG_Y.EN k) = en ∧ t.on (MON_SIG_Y.CHECK k) = check ∧ t.rd (MON_SIG_Y.POINT k) = point
           ∧ t.rd (MON_SIG_EXPECT.VALUE k) = expect
       | .monitorConfig m en log2 src shift x0 y0 x1 y1 frames => m ≤ 7 → s.test.mons.length = 8 →
         (t.mon m).en = en ∧ (t.mon m).log2 = log2 ∧ (t.mon m).source = src ∧ (t.mon m).shift = shift ∧ (t.mon m).rect = (x0, y0, x1, y1)
           ∧ (t.mon m).frames = frames
       | .groupConfig role member count => role ≤ 2 → member ≤ 3 → count ≤ 4 →
         t.rd GROUP_CFG.ROLE = role ∧ t.rd GROUP_CFG.MEMBER = member ∧ t.rd GROUP_CFG.COUNT = count
       | .satConfig len timing en tcomp => len ≤ 64 → timing ≤ 3 →
         t.rd SAT_CFG.LEN = len ∧ t.rd SAT_CFG.TIMING = timing ∧ t.on SAT_CFG.EN = en ∧ t.on SAT_CFG.TCOMP = tcomp
       | .satWrite first words => SMap.Wf noWord s.sat.image → ∀ i, SMap.get noWord t.sat.image i =
           if first ≤ i ∧ i < first + words.length then words.getD (i - first) 0 else SMap.get noWord s.sat.image i
       | .calibrate _ colours strips _ => colours < 4 →
         (∀ k c, k < 8 → c < 2 → t.rd (gainFld k c) =
           if bitN strips k && bitN colours c then s.storedField (gainFld k c) 0x8000 % 65536 else s.rd (gainFld k c))
         ∧ ∀ b c, b < 8 → c < 2 → t.rd (trimFld b c) =
           if bitN colours c then s.storedField (trimFld b c) 0x8000 % 65536 else s.rd (trimFld b c)
       | _ => True)

/-! ## CELLAR commands -/

/-- CELLAR_READ answers the committed bytes of a region, or of the staging area, and changes nothing but the record of bit
errors that a cellar read finds; a page with more than two bit errors makes it VERIFY_FAIL, a range that a write in
progress or waiting targets NOT_NOW, a bound outside the region BAD_PARAM. CELLAR_INFO answers its 80 bytes. CELLAR_WRITE
puts its data into the staging area at SOFF and no other SRAM byte changes. SOFF + N above 524,288, or no or too much
data, fails with BAD_PARAM; while a CELLAR_STORE that reads the staging area is pending or executing it completes NOT_NOW
and writes nothing. -/
def Obligations.CellarReads : Prop :=
  (∀ (x : Ctx) (s : State), Open s →
     (∀ r off n, 1 ≤ n → n ≤ 2048 → r ≤ 5 → off + n ≤ regionSize r → s.targetBusy (regionBase r + off, n) = false →
       ∃ t, exec (.cellarRead x 0 r off n) s = .next t
         ∧ (if (pagesOf (regionBase r + off) n).any s.pageBad then Answered s t x 0x24 []
           else Answered s t x 0x00 (s.cellarBytes (regionBase r + off) n))
         ∧ Frame s t answerParts (answerFlds ++ eccFlds))
     ∧ (∀ r off n, 1 ≤ n → n ≤ 2048 → off + n ≤ 524288 → ∃ t, exec (.cellarRead x 1 r off n) s = .next t
         ∧ Answered s t x 0x00 (s.sramBytes (stagingBase + off) n) ∧ Frame s t answerParts answerFlds)
     ∧ (∀ r off n, 1 ≤ n → n ≤ 2048 → r ≤ 5 → off + n ≤ regionSize r → s.targetBusy (regionBase r + off, n) = true →
       ∃ t, exec (.cellarRead x 0 r off n) s = .next t ∧ Answered s t x 0x17 [] ∧ Frame s t answerParts answerFlds)
     ∧ (∀ r off n, n = 0 ∨ 2048 < n ∨ 5 < r ∨ regionSize r < off + n →
       ∃ t, exec (.cellarRead x 0 r off n) s = .next t ∧ Answered s t x 0x13 [] ∧ Frame s t answerParts answerFlds)
     ∧ ∃ t, exec (.cellarInfo x) s = .next t ∧ Answered s t x 0x00 s.cellarInfo ∧ Frame s t answerParts answerFlds)
  ∧ (∀ (x : Ctx) (soff : Nat) (data : List Byte) (s : State), Open s →
       (1 ≤ data.length → data.length ≤ 2048 → soff + data.length ≤ 524288 → s.stagingBusy = false →
         ∃ t, exec (.cellarWrite x soff data) s = .next t ∧ Answered s t x 0x00 []
           ∧ (∀ i, i < data.length → t.sramByte (stagingBase + soff + i) = data.getD i 0)
           ∧ (∀ a, a < stagingBase + soff ∨ stagingBase + soff + data.length ≤ a → t.sramByte a = s.sramByte a)
           ∧ { t.mem with sram := s.mem.sram } = s.mem ∧ Frame s t (.mem :: .arb :: s.scanParts ++ answerParts) (s.scanShown ++ answerFlds))
       ∧ (data.length = 0 ∨ 2048 < data.length ∨ 524288 < soff + data.length →
         ∃ t, exec (.cellarWrite x soff data) s = .next t ∧ Answered s t x 0x13 [] ∧ Frame s t answerParts answerFlds)
       ∧ (1 ≤ data.length → data.length ≤ 2048 → soff + data.length ≤ 524288 → s.stagingBusy = true →
         ∃ t, exec (.cellarWrite x soff data) s = .next t ∧ Answered s t x 0x17 [] ∧ Frame s t answerParts answerFlds))

/-- With the cellar enabled and no write in progress, CELLAR_STORE begins with its shadow phase over the staging bytes (a
CONFIG store over a snapshot of the registers), FIRMWARE_STAGE with FIRST makes its slot not valid and begins to write it,
and FIRMWARE_ACTIVATE of a valid slot begins to write the boot selector; each stays PENDING. Behind a write in progress
each waits, PENDING; when its turn comes, activating a slot that is not valid is VERIFY_FAIL, staging without FIRST one
that has not begun BAD_PARAM. Staging the running slot is SAFETY_REFUSED. With CELLAR_CTRL.EN = 0, CELLAR_STORE,
FIRMWARE_STAGE and FIRMWARE_ACTIVATE whose parameters are in range complete NOT_NOW without writing, and REFUSED is set.
From the command to its end: a CELLAR_STORE of regions 2 to 4 and the commit after it leave the staging bytes in the
region, its handle DONE with OK; a FIRMWARE_STAGE and the page writes after it leave its data in the slot; a
FIRMWARE_ACTIVATE of a valid slot and the record write after it leave the selector naming the slot. When a store takes its
data, and how the waiting commands are judged, is the model's reading (log entry 34). -/
def Obligations.CellarWritesBegin : Prop :=
  (∀ (x : Ctx) (s : State), Open s → s.rd CELLAR_CTRL.EN = 1 →
     let staged (slot : Nat) (last : Bool) (off total : Nat) (data : List Byte) := slot ≤ 1 ∧ s.runningSlot ≠ some slot ∧ off % 256 = 0
       ∧ data.length ≤ 2048 ∧ (last = false → data.length % 256 = 0) ∧ off + data.length ≤ 1048576 ∧ (last = true → total ≤ 1048576)
     let shown := [CELLAR_STATUS.BUSY, CELLAR_PROG.DONE, CELLAR_PROG.TOTAL]
     (s.cellar.run = none →
       (∀ r off len, r ≠ 5 → storeOk r off len = true → ∃ t, exec (.cellarStore x r off len) s = .next t ∧ Pends s t x
         ∧ t.cellar = { s.cellar with run := some ⟨x.handle, .store r off (s.sramBytes stagingBase len) none, s.cellar.spareStart,
             len / 256, 0, s.now + 16000, false⟩ }
         ∧ t.rd CELLAR_STATUS.BUSY = 1 ∧ t.rd CELLAR_JOURNAL.PHASE = 1 ∧ t.rd CELLAR_JOURNAL.REGION = r ∧ t.rd CELLAR_PROG.DONE = 0
         ∧ t.rd CELLAR_PROG.TOTAL = len / 256
         ∧ Frame s t [.cellar, .arb, .engine] (CELLAR_JOURNAL.PHASE :: CELLAR_JOURNAL.REGION :: shown))
       ∧ (∃ t, exec (.cellarStore x 5 0 0) s = .next t ∧ Pends s t x
         ∧ (t.cellar.run.map fun r => (r.handle, r.job, r.pages)) = some (x.handle, .store 5 0 [] (some s.snapshot), 120)
         ∧ Frame s t [.cellar, .engine] (CELLAR_JOURNAL.PHASE :: CELLAR_JOURNAL.REGION :: shown))
       ∧ (∀ slot last off total crc data, staged slot last off total data →
         ∃ t, exec (.firmwareStage x slot true last off total crc data) s = .next t ∧ Pends s t x
           ∧ t.cellar.selector = s.cellar.selector.withImg slot none
           ∧ (t.cellar.run.map fun r => (r.handle, r.job)) = some (x.handle, .firmware slot last off total crc data)
           ∧ t.rd CELLAR_STATUS.BUSY = 1
           ∧ Frame s t (.cellar :: .engine :: s.scanParts) (s.scanShown ++ CELLAR_STATUS.WEAR_WARN :: CELLAR_STATUS.WEAR_LIMIT :: shown))
       ∧ (∀ slot last off total crc data, staged slot last off total data → slot ∈ s.cellar.begun →
         ∃ t, exec (.firmwareStage x slot false last off total crc data) s = .next t ∧ Pends s t x
           ∧ (t.cellar.run.map fun r => (r.handle, r.job)) = some (x.handle, .firmware slot last off total crc data)
           ∧ t.cellar.selector = s.cellar.selector ∧ t.rd CELLAR_STATUS.BUSY = 1 ∧ Frame s t [.cellar, .engine] shown)
       ∧ (∀ slot last off total crc data, staged slot last off total data → slot ∉ s.cellar.begun →
         ∃ t, exec (.firmwareStage x slot false last off total crc data) s = .next t ∧ Answered s t x 0x13 [] ∧ Frame s t answerParts answerFlds)
       ∧ (∀ slot reboot, slot ≤ 1 → (s.cellar.selector.img slot).isSome = true →
         ∃ t, exec (.firmwareActivate x slot reboot) s = .next t ∧ Pends s t x
           ∧ (t.cellar.run.map fun r => (r.handle, r.job)) = some (x.handle, .activate slot reboot)
           ∧ Frame s t [.cellar, .engine] shown)
       ∧ ∀ slot reboot, slot ≤ 1 → s.cellar.selector.img slot = none → ∃ t, exec (.firmwareActivate x slot reboot) s = .next t
           ∧ Answered s t x 0x24 [] ∧ Frame s t answerParts answerFlds)
     ∧ (s.cellar.run ≠ none →
       let waits (i : Instr) (c : Cmd) := ∃ t, exec i s = .next t ∧ Pends s t x
         ∧ t.cellar = { s.cellar with waiting := s.cellar.waiting ++ [(x, c)] } ∧ Frame s t [.cellar, .engine] []
       (∀ r off len, storeOk r off len = true → waits (.cellarStore x r off len) (.cellarStore r off len))
       ∧ (∀ slot first last off total crc data, staged slot last off total data →
         waits (.firmwareStage x slot first last off total crc data) (.firmwareStage slot first last off total crc data))
       ∧ ∀ slot reboot, slot ≤ 1 → waits (.firmwareActivate x slot reboot) (.firmwareActivate slot reboot))
     ∧ ∀ slot first last off total crc data, slot ≤ 1 → s.runningSlot = some slot →
       ∃ t, exec (.firmwareStage x slot first last off total crc data) s = .next t ∧ Answered s t x 0x30 [] ∧ Frame s t answerParts answerFlds)
  ∧ (∀ (x : Ctx) (s : State), Open s → s.rd CELLAR_CTRL.EN = 0 →
       let refused (i : Instr) := ∃ t, exec i s = .next t ∧ Answered s t x 0x17 [] ∧ t.rd CELLAR_STATUS.REFUSED = 1
         ∧ Frame s t answerParts (CELLAR_STATUS.REFUSED :: answerFlds)
       (∀ r off len, storeOk r off len = true → refused (.cellarStore x r off len))
       ∧ (∀ slot last off total crc data, slot ≤ 1 → s.runningSlot ≠ some slot → off % 256 = 0 → data.length ≤ 2048 →
         (last = false → data.length % 256 = 0) → off + data.length ≤ 1048576 → (last = true → total ≤ 1048576) →
         refused (.firmwareStage x slot true last off total crc data))
       ∧ ∀ slot reboot, slot ≤ 1 → refused (.firmwareActivate x slot reboot))
  ∧ (∀ (x : Ctx) (s : State), Open s → s.testing = false → s.rd CELLAR_CTRL.EN = 1 → s.cellar.run = none → s.cellar.waiting = [] →
       SMap.Wf erased s.cellar.mem → (∀ h, s.power.shut = some h → h.record = none) → (∃ e, s.handle x.handle = some e ∧ e.st ≠ 3) →
       let ok (u : State) := ∃ e, u.handle x.handle = some e ∧ e.st = 3 ∧ e.status = 0x00
       (∀ r off len, r ≠ 5 → storeOk r off len = true → ∃ t, exec (.cellarStore x r off len) s = .next t
         ∧ ∃ u, exec .cellarCommitDone t = .next u ∧ ok u ∧ u.cellarBytes (regionBase r + off) len = s.sramBytes stagingBase len)
       ∧ (∀ slot off total crc data, slot ≤ 1 → s.runningSlot ≠ some slot → off % 256 = 0 → data.length ≤ 2048 → data.length % 256 = 0 →
         off + data.length ≤ 1048576 → ∃ t, exec (.firmwareStage x slot true false off total crc data) s = .next t
         ∧ ∃ u, exec .firmwarePageWriteDone t = .next u ∧ ok u ∧ u.cellarBytes (regionBase slot + off) data.length = data)
       ∧ ∀ slot reboot, slot ≤ 1 → (s.cellar.selector.img slot).isSome = true → ∃ t, exec (.firmwareActivate x slot reboot) s = .next t
         ∧ ∃ u, exec .recordSlotWriteDone t = .next u ∧ ok u ∧ u.cellar.selector = { s.cellar.selector with slot := slot })

/-- A store to regions 2 to 4 commits: its bytes read in the region from then on, it completes OK, counts, and copies
back, paused while the logic region is hot, which COPYBACK_DONE ends with one write to each page of the range not copied
before; the committed image stays as it is, where no spare page has more than two bit errors. FIRMWARE_PAGE_WRITE_DONE
ends a stage without LAST OK, its bytes in the slot; with LAST the slot becomes valid if the CRC over the image and its
header are good, else the command completes VERIFY_FAIL and the slot is not valid. RECORD_SLOT_WRITE_DONE ends an
activation: the selector names the slot, and with REBOOT the reset window opens. That the pages not yet written when a
phase ends are written with its end is the model's choice (log entry 34). -/
def Obligations.CellarWritesEnd : Prop :=
  (∀ (r : CellarRun) (k off : Nat) (data : List Byte) (s : State), Acts s → s.cellar.run = some r → r.job = .store k off data none →
     2 ≤ k → k ≤ 4 → data.length = 256 * r.pages → off % 256 = 0 → off + data.length ≤ regionSize k →
     (r.copying = false → SMap.Wf erased s.cellar.mem → ∃ t, exec .cellarCommitDone s = .next t
       ∧ (r.done ≤ r.pages → ∀ i, i < data.length → t.cellarByte (regionBase k + off + i) = data.getD i 0)
       ∧ (∀ a, a < 0x708000 → a < regionBase k + off ∨ regionBase k + off + data.length ≤ a → t.cellarByte a = s.cellarByte a)
       ∧ (t.cellar.run.map fun q => (q.copying, q.done, q.handle, q.spare)) = some (true, 0, 0, r.spare)
       ∧ t.rd CELLAR_JOURNAL.PHASE = 3 ∧ t.rd CELLAR_STATUS.COPYBACK = 1
       ∧ t.rd CELLAR_STORE_CNT.COUNT = min (2 ^ 32 - 1) (s.rd CELLAR_STORE_CNT.COUNT + 1) ∧ t.rd CELLAR_PROG.DONE = 0
       ∧ t.rd CELLAR_PROG.TOTAL = r.pages % 65536 ∧ (s.therm.shutL = true → t.rd CELLAR_STATUS.THERMAL_EV = 1)
       ∧ t.cellar.spareStart = (r.spare + r.pages) % 2048 ∧ Ends s t r.handle 0x00
       ∧ Frame s t (.cellar :: .safe :: s.scanParts ++ answerParts) (s.scanShown ++ [CELLAR_SPARE_WEAR.COUNT, CELLAR_STATUS.WEAR_WARN, CELLAR_STATUS.WEAR_LIMIT,
           CELLAR_JOURNAL.SPARE_START, CELLAR_JOURNAL.PHASE, CELLAR_STATUS.COPYBACK, CELLAR_STATUS.THERMAL_EV, CELLAR_STORE_CNT.COUNT,
           CELLAR_PROG.DONE, CELLAR_PROG.TOTAL] ++ answerFlds))
     ∧ (r.copying = true → s.therm.shutL = false → s.cellar.waiting = [] → (∀ h, s.power.shut = some h → h.record = none) → ∃ t, exec .copybackDone s = .next t
       ∧ t.cellar.run = none ∧ t.rd CELLAR_STATUS.BUSY = 0 ∧ t.rd CELLAR_STATUS.COPYBACK = 0 ∧ t.rd CELLAR_JOURNAL.PHASE = 0
       ∧ (∀ p, t.pageWrites p = s.pageWrites p
           + if (regionBase k + off) / 256 + r.done ≤ p ∧ p < (regionBase k + off) / 256 + r.pages then 1 else 0)
       ∧ ((∀ i, r.done ≤ i → i < r.pages → s.pageErrs (r.sparePage i) ≤ 2) → ∀ a, t.cellarByte a = s.cellarByte a)
       ∧ Frame s t (.cellar :: s.scanParts) (s.scanShown ++ eccFlds ++ [CELLAR_STATUS.WEAR_WARN, CELLAR_STATUS.WEAR_LIMIT, CELLAR_PROG.DONE,
           CELLAR_STATUS.BUSY, CELLAR_STATUS.COPYBACK, CELLAR_JOURNAL.PHASE])))
  ∧ (∀ (r : CellarRun) (s : State), Acts s → s.cellar.run = some r → s.cellar.waiting = [] → (∀ h, s.power.shut = some h → h.record = none) →
       (∀ slot last off total crc data, r.job = .firmware slot last off total crc data → slot ≤ 1 → off % 256 = 0 → r.copying = false →
         SMap.Wf erased s.cellar.mem → 256 * r.pages < data.length + 256 → data.length ≤ 256 * r.pages → off + 256 * r.pages ≤ 1048576 → total ≤ 1048576 →
         ∃ t, exec .firmwarePageWriteDone s = .next t ∧ t.cellar.run = none ∧ t.rd CELLAR_STATUS.BUSY = 0
           ∧ (∀ i, 256 * r.done ≤ i → i < data.length → t.cellarByte (regionBase slot + off + i) = data.getD i 0)
           ∧ (let img := t.cellarBytes (regionBase slot) total
              let good := crc32c img = crc ∧ Config.headerGood img = true
              (last = false → Ends s t r.handle 0x00 ∧ t.cellar.selector = s.cellar.selector)
              ∧ (last = true → good → Ends s t r.handle 0x00
                 ∧ (t.cellar.selector.img slot).map (fun f => (f.total, f.crc)) = some (total, crc))
              ∧ (last = true → ¬ good → Ends s t r.handle 0x24 ∧ t.cellar.selector = s.cellar.selector.withImg slot none))
           ∧ t.rd CELLAR_PROG.DONE = r.pages % 65536
           ∧ Frame s t (.cellar :: s.scanParts ++ answerParts) (s.scanShown ++ [CELLAR_STATUS.WEAR_WARN, CELLAR_STATUS.WEAR_LIMIT, CELLAR_STATUS.BUSY,
               CELLAR_STATUS.COPYBACK, CELLAR_JOURNAL.PHASE, CELLAR_PROG.DONE] ++ answerFlds))
       ∧ ∀ slot reboot, r.job = .activate slot reboot → ∃ t, exec .recordSlotWriteDone s = .next t ∧ Ends s t r.handle 0x00
           ∧ t.cellar.selector = { s.cellar.selector with slot := slot } ∧ t.cellar.run = none
           ∧ t.boot = (if reboot then { s.boot with window := some (true, 1) } else s.boot)
           ∧ Frame s t (.boot :: .cellar :: s.scanParts ++ answerParts) (s.scanShown ++ [CELLAR_STATUS.WEAR_WARN, CELLAR_STATUS.WEAR_LIMIT, CELLAR_STATUS.BUSY,
               CELLAR_STATUS.COPYBACK, CELLAR_JOURNAL.PHASE, CELLAR_PROG.DONE] ++ answerFlds))

/-! ## TEST commands -/

/-- CALIBRATE with MODE 0 begins a collection that its handle waits for, PENDING; a parameter out of range is BAD_PARAM, a
run in progress NOT_NOW. A CAL_SAMPLE reaches an instant that was drawn for the sub-frame in progress: in a frame of
collection it adds the points of the strips that are not discarded, with readings above 2,000 mA taken as 2,000 mA.
Another CAL_SAMPLE has no effect. CAL_FIT_DONE in the fit phase either ends the run CAL_REJECTED, with the reason shown,
or holds the new gains for the next tick. Neither touches a gain or a trim. That a CAL_SAMPLE takes the next drawn
instant, and that another has no effect, is the model's choice (log entry 43), and so is the arithmetic of the fit (log
entry 45). -/
def Obligations.Calibration : Prop :=
  (∀ (x : Ctx) (colours strips n : Nat) (s : State), Open s → x.handle ≠ 0 →
     (colours ≠ 0 → strips ≠ 0 → n = 0 ∨ (8 ≤ n ∧ n ≤ 1200) → s.calBusy = false →
       ∃ t, exec (.calibrate x 0 colours strips n) s = .next t ∧ Pends s t x
         ∧ t.cal = { s.cal with run := some ⟨x.handle, colours, strips, if n = 0 then 240 else n, 2, 0, [], [], [], []⟩ }
         ∧ t.rd CAL_STATUS.PHASE = 1 ∧ t.rd CAL_STATUS.AUTO_RUN = 0
         ∧ Frame s t [.cal, .engine] [CAL_STATUS.PHASE, CAL_STATUS.AUTO_RUN])
     ∧ (∀ mode, colours = 0 ∨ strips = 0 ∨ 1 < mode ∨ (n ≠ 0 ∧ (n < 8 ∨ 1200 < n)) →
       ∃ t, exec (.calibrate x mode colours strips n) s = .next t ∧ Answered s t x 0x13 [] ∧ Frame s t answerParts answerFlds)
     ∧ (∀ mode, mode ≤ 1 → colours ≠ 0 → strips ≠ 0 → n = 0 → s.calBusy = true →
       ∃ t, exec (.calibrate x mode colours strips n) s = .next t ∧ Answered s t x 0x17 [] ∧ Frame s t answerParts answerFlds))
  ∧ (∀ (r : CalRun) (s : State), Acts s → s.cal.run = some r →
       (∀ sub i k readings, (s.cal.instants.getD sub [])[i]? = some k → sub = s.subframe →
         let pts := s.calPoints r k (readings.map (min 16000))
         ∃ t, exec (.calSample sub i readings) s = .next t ∧ t.cal.instants = s.cal.instants.modify sub (fun l => l.eraseIdx i)
           ∧ (r.wait = 0 → s.rd CAL_STATUS.PHASE = 1 → s.tick.dark = false →
             t.cal.run = some { r with points := r.points ++ pts } ∧ t.cal.kept = s.cal.kept + pts.length)
           ∧ (r.wait = 0 → s.rd CAL_STATUS.PHASE = 1 → s.tick.dark = true →
             let n := r.points.length - s.cal.kept
             t.cal.run = some { r with points := r.points.take n ++ pts ++ r.points.drop n } ∧ t.cal.kept = s.cal.kept)
           ∧ (r.wait ≠ 0 ∨ s.rd CAL_STATUS.PHASE ≠ 1 → t.cal.run = some r)
           ∧ { t.cal with run := s.cal.run, kept := s.cal.kept, instants := s.cal.instants } = s.cal ∧ Frame s t [.cal] [])
       ∧ (∀ sub i readings, (s.cal.instants.getD sub [])[i]? = none ∨ sub ≠ s.subframe →
         ∃ t, exec (.calSample sub i readings) s = .next t ∧ Frame s t [] [])
       ∧ (s.rd CAL_STATUS.PHASE = 2 → ∃ t, exec .calFitDone s = .next t
         ∧ ((t.rd CAL_STATUS.PHASE = 3 ∧ t.cal.run.isSome = true)
           ∨ (t.rd CAL_STATUS.PHASE = 0 ∧ t.cal.run = none ∧ t.rd CAL_STATUS.REJECTED = 1 ∧ 1 ≤ t.rd CAL_STATUS.REASON
             ∧ t.rd CAL_STATUS.REASON ≤ 3 ∧ Ends s t r.handle 0x23))
         ∧ Frame s t (.cal :: answerParts) ([CAL_STATUS.PHASE, CAL_STATUS.AUTO_RUN, CAL_STATUS.REJECTED, CAL_STATUS.REASON, CAL_LAST.FRAMES,
             CAL_LAST.SAMPLES] ++ (List.range 16).map (fun i => ⟨0xE040 + 4 * i, 0, 32⟩) ++ answerFlds)))

/-- BIST_PLAN sets the plan and QUICK_START; BIST_RESULT answers the record it names, or none as zeros. BIST_RUN_DONE ends
the run of a SHUTDOWN: its registers show the outcome, and, with no cellar write in progress, the store of the record of
the planned tests, and of the CONFIG snapshot with STORE_CFG, begins; behind a cellar write it waits. When that store is
committed the SHUTDOWN completes: outside LIMP with OK, the device in the state NEXT, dark, and asleep for SLEEP and OFF;
INTERRUPTED, in ACTIVE, where LIMP was entered since. That the store waits behind a cellar write is the model's choice
(log entry 93), and so is which outcomes a read of BIST_PROG has shown before (log entry 48). MONITOR_READ answers the
readout set, FAULT_MAP_READ the list from START on as it stood before the confirmations of its core cycle (log entry 22),
GROUP_STATUS its 40 bytes with role, member, SEEN and TICK_COUNT; with CLEAR a monitor restarts at the next tick, and the
fault list loses the entries returned. While a test of the compositors and engines runs, their events change nothing but
how far the tests have come (R421), which is a free value. -/
def Obligations.SelfTests : Prop :=
  (∀ (x : Ctx) (s : State), Open s →
     (∀ plan quick, plan < 65536 → ∃ t, exec (.bistPlan x plan quick) s = .next t ∧ Answered s t x 0x00 []
       ∧ t.rd BIST_PLAN_CFG.PLAN = plan ∧ t.on BIST_PLAN_CFG.QUICK_START = quick
       ∧ Frame s t answerParts (BIST_PLAN_CFG.PLAN :: BIST_PLAN_CFG.QUICK_START :: answerFlds))
     ∧ (∃ t, exec (.bistResult x 0) s = .next t ∧ Answered s t x 0x00 (s.shutRecord.getD noRecord).bytes ∧ Frame s t answerParts answerFlds)
     ∧ (∃ t, exec (.bistResult x 1) s = .next t ∧ Answered s t x 0x00 (s.bootRecord.getD noRecord).bytes ∧ Frame s t answerParts answerFlds)
     ∧ ∀ which, 1 < which → ∃ t, exec (.bistResult x which) s = .next t ∧ Answered s t x 0x13 [] ∧ Frame s t answerParts answerFlds)
  ∧ (∀ (i : Instr) (s : State), Live s → s.testing = true → s.testStep.underTest [2, 14] = true → i ∈ [.predictionPassStart, .predictionPassDone,
       .decisionPoint, .compositionDone 0, .compositionDone 1, .rackDone] → ∃ t, exec i s = .next t ∧ Frame s.testStep t [] [])
  ∧ (∀ (fails : List (Nat × Nat)) (duration : Nat) (h : Shut) (s : State), Live s → s.power.shut = some h → h.record = none →
       s.safe.path = none →
       let r := h.outcome duration (s.failsShown fails)
       ∃ t, exec (.bistRunDone fails duration) s = .next t ∧ t.power.shut = some { h with record := some r }
         ∧ t.rd BIST_STATUS.RUN = 0 ∧ t.rd BIST_PROG.ACTIVE = 0 ∧ t.rd BIST_PROG.FAILED = r.fail % 65536
         ∧ (s.cellar.run ≠ none → t.cellar = s.cellar)
         ∧ (s.cellar.run = none → (t.cellar.run.map fun q => (q.handle, q.job, q.copying)) = some (0, .shut r (if h.storeCfg then some s.snapshot else none), false)
           ∧ t.rd CELLAR_STATUS.BUSY = 1 ∧ t.rd CELLAR_JOURNAL.PHASE = 1))
  ∧ (∀ (h : Shut) (rec : BistRec) (snap : Option CfgSnap) (r : CellarRun) (s : State), Acts s → s.power.shut = some h → s.cellar.run = some r →
       r.job = .shut rec snap → r.copying = false → r.done ≤ r.pages → r.handle = 0 → h.handle ≠ 0 → 1 ≤ h.next → h.next ≤ 3 →
       ∃ t, exec .cellarCommitDone s = .next t ∧ t.power.shut = none ∧ t.power.shutHold = false ∧ t.cellar.shutRec = some rec
         ∧ t.cellar.config = (if snap.isSome then snap else s.cellar.config)
         ∧ (h.limp = false → t.powerState = h.next ∧ t.power.led = 0 ∧ t.array.parked = List.range 8 ∧ t.sleeping = (h.next != 1)
           ∧ Ends s t h.handle 0x00)
         ∧ (h.limp = true → t.powerState = s.powerState ∧ Ends s t h.handle 0x22))
  ∧ (∀ (x : Ctx) (s : State), Open s →
       (∀ m clear, m ≤ 7 → s.test.mons.length = 8 → ∃ t, exec (.monitorRead x m clear) s = .next t ∧ Answered s t x 0x00 (s.mon m).bytes
         ∧ t.mon m = (if clear then { s.mon m with clear := true } else s.mon m) ∧ (∀ k, k ≠ m → t.mon k = s.mon k)
         ∧ { t.test with mons := s.test.mons } = s.test ∧ Frame s t (.test :: answerParts) answerFlds)
       ∧ (∀ start max clear, 1 ≤ max → max ≤ 255 → (clear = true → start = 0) → ∃ t, exec (.faultMapRead x start max clear) s = .next t
         ∧ (let list := s.faultsBefore
            let out := (list.drop start).take max
            Answered s t x 0x00 (leBytes 2 list.length ++ leBytes 1 out.length ++ leBytes 1 0 ++ out.flatMap faultBytes)
            ∧ (clear = false → t.array = s.array)
            ∧ (clear = true → list.drop out.length <+: t.array.faults ∧ { t.array with faults := s.array.faults, confirmed := s.array.confirmed } = s.array
              ∧ (s.array.confirmed.cycle ≠ s.cycle → list = s.array.faults ∧ t.array.faults = s.array.faults.drop out.length)
              ∧ (s.array.confirmed.cycle = s.cycle → ∀ f ∈ s.array.confirmed.faults, t.array.faults.any f.same = true ∨ 1024 ≤ t.array.faults.length)))
         ∧ Frame s t (.array :: answerParts) answerFlds)
       ∧ (∃ t p, exec (.groupStatus x) s = .next t ∧ Answered s t x 0x00 p ∧ p.length = 40
         ∧ p.take 3 = leBytes 1 (s.rd GROUP_CFG.ROLE) ++ leBytes 1 (s.rd GROUP_CFG.MEMBER) ++ leBytes 1 (s.rd GROUP_STATUS.SEEN)
         ∧ (p.drop 4).take 4 = leBytes 4 s.tickCount
         ∧ Frame s t answerParts answerFlds)
       ∧ (∀ m clear, 7 < m → ∃ t, exec (.monitorRead x m clear) s = .next t ∧ Answered s t x 0x13 [] ∧ Frame s t answerParts answerFlds)
       ∧ ∀ start max clear, max = 0 ∨ 255 < max ∨ (clear = true ∧ start ≠ 0) →
         ∃ t, exec (.faultMapRead x start max clear) s = .next t ∧ Answered s t x 0x13 [] ∧ Frame s t answerParts answerFlds)

/-- A write of CRC_k_CTRL with INIT, or that changes ALG, loads the initial value and clears the count; a data write
processes the lowest BYTES bytes of the word, lowest first, and counts them. A SCAN_CHECK in range, with the engine
enabled and idle, starts the scan and stays PENDING; SCAN_DONE leaves the CRC and the byte count of the range, each byte
as it stood when read, and completes OK, or VERIFY_FAIL with SCAN_MISMATCH where COMPARE finds another CRC. Clearing
CRC_SCAN_CTRL.EN during the scan ends it ABORTED. -/
def Obligations.CrcUnits : Prop :=
  (∀ (src : Source) (k : Nat) (v : Word) (s : State), Open s → k < 4 → s.test.crc.length = 4 →
     (fget v 8 1 = 1 ∨ fget v 0 2 ≠ s.rd (CRC_CTRL.ALG k) → ∃ t, exec (.crcUnitInit src k v) s = .next t
       ∧ t.rd (CRC_CTRL.ALG k) = fget v 0 2 ∧ t.rd (CRC_CTRL.BYTES k) = fget v 16 2 ∧ t.rd (CRC_CTRL.INIT k) = 0 ∧ t.rd (CRC_COUNT.COUNT k) = 0
       ∧ t.test = { s.test with crc := s.test.crc.set k (crcInit (if fget v 0 2 = 3 then 1 else fget v 0 2)) }
       ∧ Frame s t [.test] [⟨0x10010 + 0x10 * k, 0, 32⟩, CRC_COUNT.COUNT k])
     ∧ (let n := if s.rd (CRC_CTRL.BYTES k) = 0 then 4 else s.rd (CRC_CTRL.BYTES k)
        s.testing = false → ∃ t, exec (.crcUnitData src k v) s = .next t
         ∧ t.test = { s.test with crc := s.test.crc.set k ((leBytes n v.toNat).foldl (crcByte (s.crcAlg k)) (s.test.crc.getD k 0)) }
         ∧ t.rd (CRC_COUNT.COUNT k) = min (2 ^ 32 - 1) (s.rd (CRC_COUNT.COUNT k) + n) ∧ t.reg (0x10014 + 0x10 * k) = 0
         ∧ Frame s t [.test] [CRC_COUNT.COUNT k, ⟨0x10014 + 0x10 * k, 0, 32⟩]))
  ∧ ((∀ (x : Ctx) (alg : Nat) (cmp : Bool) (start len expect : Nat) (s : State), Open s → x.handle ≠ 0 →
       (scanOk 0 alg start len = true → s.rd CRC_SCAN_CTRL.EN = 1 → s.test.scan = none →
         ∃ t, exec (.scanCheck x 0 alg cmp start len expect) s = .next t ∧ Pends s t x
           ∧ t.test = { s.test with scan := some ⟨x.handle, 0, alg, cmp, start, len, expect, 0, crcInit alg⟩ } ∧ t.rd CRC_STATUS.SCAN_BUSY = 1
           ∧ t.rd CRC_SCAN_COUNT.COUNT = 0
           ∧ Frame s t [.test, .arb, .engine] [CRC_SCAN_CTRL.ALG, CRC_SCAN_CTRL.SPACE, CRC_SCAN_CRC.CRC, CRC_SCAN_COUNT.COUNT, CRC_STATUS.SCAN_BUSY])
       ∧ (∀ space, scanOk space alg start len = false →
         ∃ t, exec (.scanCheck x space alg cmp start len expect) s = .next t ∧ Answered s t x 0x13 [] ∧ Frame s t answerParts answerFlds)
       ∧ (∀ space, scanOk space alg start len = true → s.rd CRC_SCAN_CTRL.EN = 0 ∨ s.test.scan ≠ none →
         ∃ t, exec (.scanCheck x space alg cmp start len expect) s = .next t ∧ Answered s t x 0x17 [] ∧ Frame s t answerParts answerFlds))
     ∧ (∀ (r : ScanRun) (s : State), Acts s → s.test.scan = some r → r.space = 0 → r.len < 2 ^ 32 →
       let crc := crcOut r.alg ((s.sramBytes (r.start + r.got) (r.len - r.got)).foldl (crcByte r.alg) r.raw) % 2 ^ 32
       let bad := r.compare && crc != r.expect
       (r.got = 0 → r.raw = crcInit r.alg → crc = crcOf r.alg (s.sramBytes r.start r.len) % 2 ^ 32) ∧ ∃ t, exec .scanDone s = .next t ∧ t.test = { s.test with scan := none } ∧ t.rd CRC_SCAN_CRC.CRC = crc
         ∧ t.rd CRC_SCAN_COUNT.COUNT = r.len ∧ t.rd CRC_STATUS.SCAN_BUSY = 0 ∧ t.rd CRC_STATUS.SCAN_DONE = 1
         ∧ (bad = true → t.rd CRC_STATUS.SCAN_MISMATCH = 1) ∧ Ends s t r.handle (if bad then 0x24 else 0x00)
         ∧ Frame s t (.test :: .arb :: answerParts) ([CRC_SCAN_CRC.CRC, CRC_SCAN_COUNT.COUNT, CRC_STATUS.SCAN_BUSY, CRC_STATUS.SCAN_DONE,
             CRC_STATUS.SCAN_MISMATCH] ++ answerFlds))
     ∧ ∀ (src : Source) (v : Word) (r : ScanRun) (s : State), Open s → s.test.scan = some r → r.space = 0 → v.toNat % 2 = 0 →
       Admitted s src 0x10080 v → ∃ t, exec (.scanDisable src v) s = .next t ∧ t.test = { s.test with scan := none }
         ∧ t.rd CRC_SCAN_CTRL.EN = 0 ∧ t.rd CRC_STATUS.SCAN_ABORT = 1 ∧ t.rd CRC_STATUS.SCAN_BUSY = 0 ∧ Ends s t r.handle 0x20
         ∧ Frame s t (.test :: .arb :: answerParts) ([⟨0x10080, 0, 32⟩, CRC_SCAN_CRC.CRC, CRC_SCAN_COUNT.COUNT, CRC_STATUS.SCAN_ABORT,
             CRC_STATUS.SCAN_BUSY] ++ answerFlds))

/-! ## SAFETY commands -/

/-- SEAL_READ computes the seal of the live block, in every seal state, shows it and replies with it, the stored seal, the
seal state, PW_SET and the seconds of lockout. SEAL_CONFIRM of the live seal, with a password set, the device UNSEALED or
PROVISIONAL and a valid limp beam, begins to store block and seal; SEAL_STORE_DONE makes it SEALED with that seal, out of
PROVISIONAL, logs the confirmation and completes OK. Another value is VERIFY_FAIL, a missing condition SAFETY_REFUSED,
both without effect. While SEALED the periodic check shows the live seal, and one that differs from the stored seal
latches SEAL_FAULT; in every other state it does nothing. -/
def Obligations.Seals : Prop :=
  (∀ (x : Ctx) (s : State), Open s → ∃ t, exec (.sealRead x) s = .next t
     ∧ Answered s t x 0x00 (leBytes 4 (sealOf s.sealBlock).toNat ++ leBytes 4 (s.rd SAFE_SEAL_STORED.SEAL) ++ leBytes 1 s.sealState
         ++ leBytes 1 (s.rd SAFE_SEAL_STATUS.PW_SET) ++ leBytes 2 s.lockoutS)
     ∧ t.rd SAFE_SEAL_LIVE.SEAL = (sealOf s.sealBlock).toNat
     ∧ t.on SAFE_SEAL_STATUS.MATCH = ((sealOf s.sealBlock).toNat == s.rd SAFE_SEAL_STORED.SEAL)
     ∧ Frame s t answerParts (SAFE_SEAL_LIVE.SEAL :: SAFE_SEAL_STATUS.MATCH :: answerFlds))
  ∧ ((∀ (x : Ctx) (code : Nat) (s : State), Open s → x.handle ≠ 0 →
       let allowed := s.rd SAFE_SEAL_STATUS.PW_SET = 1 ∧ (s.sealState = 0 ∨ s.sealState = 2) ∧ s.rd PIPE_FILL_STATUS.BEAM_VALID = 1
       (allowed → (sealOf s.sealBlock).toNat = code → ∃ t, exec (.sealConfirm x code) s = .next t ∧ Pends s t x
         ∧ t.safe = { s.safe with sealing := s.safe.sealing ++ [(x.handle, ⟨s.sealBlock, sealOf s.sealBlock⟩, srcCode x.src)] }
         ∧ Frame s t [.safe, .engine] [SAFE_SEAL_LIVE.SEAL, SAFE_SEAL_STATUS.MATCH])
       ∧ (allowed → (sealOf s.sealBlock).toNat ≠ code → ∃ t, exec (.sealConfirm x code) s = .next t ∧ Answered s t x 0x24 []
         ∧ Frame s t answerParts answerFlds)
       ∧ (¬ allowed → ∃ t, exec (.sealConfirm x code) s = .next t ∧ Answered s t x 0x30 [] ∧ Frame s t answerParts answerFlds))
     ∧ ∀ (h src : Nat) (rec : SealRec) (rest : List (Nat × SealRec × Nat)) (s : State), Acts s →
       s.safe.sealing = (h, rec, src) :: rest → s.safe.log.length < 16 → s.cellar.sealSlots.length = 2 →
       ∃ t, exec .sealStoreDone s = .next t ∧ t.sealState = 1 ∧ t.rd SAFE_SEAL_STORED.SEAL = rec.code.toNat
         ∧ t.rd SAFE_STATUS.PROVISIONAL = 0 ∧ t.cellar.sealRec = some rec ∧ t.safe.sealing = rest ∧ Ends s t h 0x00
         ∧ (∃ e, t.safe.log = s.safe.log ++ [e] ∧ e.kind = 2 ∧ e.addr = 0 ∧ e.new = rec.code ∧ e.source = src
             ∧ e.number = s.rd SAFE_LOG_STATUS.NEXT)
         ∧ Frame s t (.safe :: .cellar :: s.scanParts ++ answerParts) (s.scanShown ++ [CELLAR_STATUS.WEAR_WARN, CELLAR_STATUS.WEAR_LIMIT, SAFE_SEAL_STATUS.STATE,
             SAFE_SEAL_STORED.SEAL, SAFE_STATUS.PROVISIONAL, SAFE_SEAL_LIVE.SEAL, SAFE_SEAL_STATUS.MATCH, SAFE_LOG_STATUS.NEXT] ++ answerFlds))
  ∧ (∀ s : State, Live s →
       (s.sealState = 1 → (sealOf s.sealBlock).toNat = s.rd SAFE_SEAL_STORED.SEAL → ∃ t, exec .sealCheck s = .next t
         ∧ t.rd SAFE_SEAL_LIVE.SEAL = (sealOf s.sealBlock).toNat ∧ t.rd SAFE_SEAL_STATUS.MATCH = 1
         ∧ Frame s t [] [SAFE_SEAL_LIVE.SEAL, SAFE_SEAL_STATUS.MATCH])
       ∧ (s.sealState = 1 → (sealOf s.sealBlock).toNat ≠ s.rd SAFE_SEAL_STORED.SEAL → ∃ t, exec .sealCheck s = .next t
         ∧ t.sealState = 3 ∧ t.rd SAFE_SEAL_LIVE.SEAL = (sealOf s.sealBlock).toNat ∧ bitN (t.rd SAFE_CAUSE.LATCHED) 10 = true
         ∧ t.safety ≠ 0)
       ∧ (s.sealState ≠ 1 → ∃ t, exec .sealCheck s = .next t ∧ Frame s t [] []))

/-- A CHANGE_LOG_WRITE takes the oldest pending entry to the next place of the ring of 256, 32 bytes, where the oldest
entry of a full ring stands, and changes no other cellar byte of the ring; CHANGE_LOG_READ changes nothing. -/
def Obligations.ChangeLog : Prop :=
  (∀ (e : LogEnt) (rest : List LogEnt) (s : State), Acts s → s.safe.log = e :: rest → SMap.Wf erased s.cellar.mem →
    let a := 0x70A000 + 32 * (s.cellar.logPos % 256)
    ∃ t, exec .changeLogWrite s = .next t ∧ t.safe = { s.safe with log := rest } ∧ t.cellar.logPos = (s.cellar.logPos + 1) % 256
      ∧ t.cellarBytes a 32 = e.bytes
      ∧ (∀ b, s.pageWrites (b / 256) ≠ 0 → opaquePage (b / 256) = false → b < a ∨ a + 32 ≤ b → t.cellarByte b = s.cellarByte b)
      ∧ Frame s t (.safe :: .cellar :: s.scanParts) (CELLAR_STATUS.WEAR_WARN :: CELLAR_STATUS.WEAR_LIMIT :: s.scanShown))
  ∧ ∀ (x : Ctx) (first max : Nat) (s : State), Open s →
    (1 ≤ max → max ≤ 63 → s.logHeld = [] → ∃ t p, exec (.changeLogRead x first max) s = .next t
      ∧ Answered s t x 0x00 (p ++ leBytes 2 (s.rd SAFE_LOG_STATUS.NEXT) ++ leBytes 4 0) ∧ p.length = 2 ∧ Frame s t answerParts answerFlds)
    ∧ (1 ≤ max → max ≤ 63 → s.logHeld ≠ [] → ∃ t, exec (.changeLogRead x first max) s = .next t
      ∧ (let fage := (s.rd SAFE_LOG_STATUS.NEXT + 65536 - first) % 65536
         let out := (s.logHeld.filter fun e => e.1 ≤ fage).take max
         let old := s.logHeld.headD (0, [])
         Answered s t x 0x00 (leBytes 2 (u16 old.2 26) ++ leBytes 2 (s.rd SAFE_LOG_STATUS.NEXT) ++ leBytes 1 out.length
           ++ leBytes 1 (if old.1 < fage then 1 else 0) ++ leBytes 2 0 ++ out.flatMap (·.2)))
      ∧ Frame s t answerParts answerFlds)
    ∧ (max = 0 ∨ 63 < max → ∃ t, exec (.changeLogRead x first max) s = .next t ∧ Answered s t x 0x13 [] ∧ Frame s t answerParts answerFlds)

/-- PASSWORD_UNLOCK: SET, while UNSEALED or PROVISIONAL, begins to store the digest, and the end of its record write
stores it, sets PW_SET and completes OK; UNLOCK with the right password makes the device PROVISIONAL and clears the
failure count, with a wrong one it is refused and counted, and the fifth starts a lockout of 60 s in which no password is
checked; LOCK makes it SEALED again. Elsewhere each is refused. Each is logged when it has taken effect, SET at the end of
its write, or, with a full queue, dropped and counted (for these kinds the model's choice, log entry 104). LOCKOUT_END
ends the lockout. -/
def Obligations.Passwords : Prop :=
  (∀ (x : Ctx) (len : Nat) (pw : List Byte) (s : State), Open s → 4 ≤ len → len ≤ 16 → s.safe.log.length < 16 →
    (s.sealState = 0 ∨ s.sealState = 2 → ∃ t, exec (.passwordUnlock x 0 len pw) s = .next t ∧ Pends s t x
      ∧ t.cellar = { s.cellar with digestWrite := s.cellar.digestWrite ++ [(x.handle, sha256 pw, srcCode x.src)] }
      ∧ Frame s t [.cellar, .engine] [])
    ∧ (s.sealState = 1 ∨ s.sealState = 3 → ∃ t, exec (.passwordUnlock x 0 len pw) s = .next t ∧ Answered s t x 0x30 []
      ∧ Frame s t answerParts answerFlds)
    ∧ (s.sealState = 1 → s.safe.lockout = none → s.cellar.digest = some (sha256 pw) →
      ∃ t, exec (.passwordUnlock x 1 len pw) s = .next t ∧ Answered s t x 0x00 [] ∧ t.sealState = 2
        ∧ t.rd SAFE_STATUS.PROVISIONAL = 1 ∧ t.rd SAFE_SEAL_STATUS.PW_FAILS = 0 ∧ t.safe.log.getLast?.map (·.kind) = some 4
        ∧ Frame s t (.safe :: answerParts) ([SAFE_SEAL_STATUS.STATE, SAFE_STATUS.PROVISIONAL, SAFE_SEAL_STATUS.PW_FAILS,
            SAFE_LOG_STATUS.NEXT] ++ answerFlds))
    ∧ (s.sealState = 1 → s.safe.lockout = none → s.cellar.digest ≠ some (sha256 pw) →
      ∃ t, exec (.passwordUnlock x 1 len pw) s = .next t ∧ Answered s t x 0x30 [] ∧ t.sealState = 1
        ∧ t.rd SAFE_SEAL_STATUS.PW_FAILS = min 5 (s.rd SAFE_SEAL_STATUS.PW_FAILS + 1) ∧ t.rd SAFE_STATUS.PW_FAIL = 1
        ∧ t.safe.lockout = (if 4 ≤ s.rd SAFE_SEAL_STATUS.PW_FAILS then some (s.now + 60000000000) else none)
        ∧ t.safe.log.getLast?.map (·.kind) = some 6
        ∧ Frame s t (.safe :: answerParts) ([SAFE_SEAL_STATUS.PW_FAILS, SAFE_STATUS.PW_FAIL, SAFE_LOG_STATUS.NEXT] ++ answerFlds))
    ∧ (s.sealState ≠ 1 ∨ s.safe.lockout ≠ none → ∃ t, exec (.passwordUnlock x 1 len pw) s = .next t ∧ Answered s t x 0x30 []
        ∧ Frame s t answerParts answerFlds))
  ∧ (∀ (x : Ctx) (pw : List Byte) (r : SealRec) (s : State), Open s → s.sealState = 2 → s.cellar.sealRec = some r →
      s.safe.log.length < 16 → ∃ t, exec (.passwordUnlock x 2 0 pw) s = .next t ∧ Answered s t x 0x00 [] ∧ t.sealState = 1
        ∧ t.rd SAFE_STATUS.PROVISIONAL = 0 ∧ t.safe.log.getLast?.map (·.kind) = some 5
        ∧ (∀ i, i < 14 →
            t.regBits (sealRegs.getD i 0) (sBits (sealRegs.getD i 0)) = r.block.getD (i + 1) 0 &&& BitVec.ofNat 32 (sBits (sealRegs.getD i 0)))
        ∧ Frame s t (.safe :: answerParts) ([SAFE_SEAL_STATUS.STATE, SAFE_STATUS.PROVISIONAL, SAFE_LOG_STATUS.NEXT]
            ++ SAFE_STATUS.IN_DEGRADED :: sealRegs.map (fun a => ⟨a, 0, 32⟩) ++ answerFlds))
  ∧ (∀ (x : Ctx) (pw : List Byte) (s : State), Open s → s.sealState ≠ 2 → ∃ t, exec (.passwordUnlock x 2 0 pw) s = .next t
      ∧ Answered s t x 0x30 [] ∧ Frame s t answerParts answerFlds)
  ∧ (∀ (x : Ctx) (len : Nat) (pw : List Byte) (s : State), Open s → 4 ≤ len → len ≤ 16 → 16 ≤ s.safe.log.length → s.sealState = 1 →
      s.safe.lockout = none → ∃ t, exec (.passwordUnlock x 1 len pw) s = .next t ∧ t.safe.log = s.safe.log ∧ t.rd SAFE_STATUS.LOG_DROP = 1
      ∧ t.rd SAFE_LOG_STATUS.DROPPED = min (2 ^ SAFE_LOG_STATUS.DROPPED.w - 1) (s.rd SAFE_LOG_STATUS.DROPPED + 1)
      ∧ t.sealState = (if s.cellar.digest = some (sha256 pw) then 2 else 1))
  ∧ (∀ (h src : Nat) (d : List Byte) (rest : List (Nat × List Byte × Nat)) (s : State), Acts s → s.cellar.digestWrite = (h, d, src) :: rest →
      s.cellar.run = none → s.cellar.sealSlots.length = 2 → s.safe.log.length < 16 → (∀ h, s.power.shut = some h → h.record = none) →
      ∃ t, exec .recordSlotWriteDone s = .next t ∧ t.cellar.digest = some d ∧ t.cellar.sealRec = s.cellar.sealRec
      ∧ t.cellar.digestWrite = rest ∧ t.rd SAFE_SEAL_STATUS.PW_SET = 1 ∧ Ends s t h 0x00
      ∧ (∃ e, t.safe = { s.safe with log := s.safe.log ++ [e] } ∧ e.kind = 3 ∧ e.source = src ∧ e.number = s.rd SAFE_LOG_STATUS.NEXT)
      ∧ Frame s t (.safe :: .cellar :: s.scanParts ++ answerParts) (s.scanShown ++ [CELLAR_STATUS.WEAR_WARN, CELLAR_STATUS.WEAR_LIMIT,
          SAFE_SEAL_STATUS.PW_SET, SAFE_LOG_STATUS.NEXT] ++ answerFlds))
  ∧ (∀ (x : Ctx) (op len : Nat) (pw : List Byte) (s : State), Open s → 2 < op ∨ (op ≤ 1 ∧ (len < 4 ∨ 16 < len)) ∨ (op = 2 ∧ len ≠ 0) →
      ∃ t, exec (.passwordUnlock x op len pw) s = .next t ∧ Answered s t x 0x13 [] ∧ Frame s t answerParts answerFlds)
  ∧ ∀ s : State, Live s → ∃ t, exec .lockoutEnd s = .next t ∧ t.safe = { s.safe with lockout := none } ∧ Frame s t [.safe] []

/-- SAFE_STATE_RELEASE completes OK in NORMAL, unchanged; with a cause that prevents it, it is refused with the bitmap;
from LIMP it clears every latched bit and the guard runs and returns to NORMAL; from DARK it waits, and the state stays
DARK, until LED_REGULATION_REACHED completes it so, or RELEASE_SUPPLY_TIMEOUT refuses it with the supply off again. A
cause in the core cycle of a release that has taken effect wins: what the release cleared is latched again with the cause,
the device is in a safe state, and the release is SAFETY_REFUSED. Which events share a core cycle is the model's choice
(log entry 22). -/
def Obligations.Releases : Prop :=
  (∀ (x : Ctx) (s : State), Open s →
    (s.safety = 0 → ∃ t, exec (.safeStateRelease x) s = .next t ∧ Answered s t x 0x00 [] ∧ Frame s t answerParts answerFlds)
    ∧ (s.safety ≠ 0 → s.blocking ≠ 0 → ∃ t, exec (.safeStateRelease x) s = .next t
      ∧ Answered s t x 0x30 (leBytes 2 s.blocking ++ leBytes 1 0) ∧ Frame s t answerParts answerFlds)
    ∧ (s.safety = 1 → s.blocking = 0 → ∃ t, exec (.safeStateRelease x) s = .next t ∧ Answered s t x 0x00 [] ∧ t.safety = 0
      ∧ t.rd SAFE_CAUSE.LATCHED = 0 ∧ t.rd SAFE_GUARD_STAT.DISC_RUN = 0 ∧ t.rd SAFE_GUARD_STAT.SINGLE_RUN = 0
      ∧ t.rd SAFE_GUARD_STAT.HOLD_RUN = 0 ∧ t.rd SAFE_STATUS.STATE_EV = 1
      ∧ t.safe = { s.safe with released := some (s.releaseNoted [x.handle]) } ∧ t.releaseNow = some (s.releaseNoted [x.handle])
      ∧ Frame s t (.safe :: .power :: answerParts) ([SAFE_CAUSE.LATCHED, SAFE_GUARD_STAT.DISC_RUN, SAFE_GUARD_STAT.SINGLE_RUN,
          SAFE_GUARD_STAT.HOLD_RUN, SAFE_STATUS.STATE, SAFE_STATUS.STATE_EV, SAFE_STATUS.UNLIT] ++ answerFlds))
    ∧ (s.safety = 2 → s.blocking = 0 → ∃ t, exec (.safeStateRelease x) s = .next t ∧ Pends s t x ∧ t.safety = 2
      ∧ t.safe = { s.safe with release := s.safe.release ++ [x.handle] } ∧ Frame s t [.safe, .power, .engine] []))
  ∧ (∀ (h : Nat) (s : State), Acts s → s.safety = 2 → s.safe.release = [h] → s.power.led = 1 → s.phLow = false →
    ∃ t, exec .ledRegulationReached s = .next t ∧ t.safety = 0 ∧ t.rd SAFE_CAUSE.LATCHED = 0
      ∧ (∃ r, t.releaseNow = some r ∧ r.handles = [h] ∧ r.state = 2 ∧ r.latched = s.rd SAFE_CAUSE.LATCHED
        ∧ t.safe = { s.safe with release := [], released := some r })
      ∧ t.power.led = 2 ∧ t.rd POWER_STATUS.LED_REG = 1 ∧ Ends s t h 0x00
      ∧ Frame s t (.safe :: .power :: answerParts) ([POWER_STATUS.LED_REG, SAFE_CAUSE.LATCHED, SAFE_GUARD_STAT.DISC_RUN,
          SAFE_GUARD_STAT.SINGLE_RUN, SAFE_GUARD_STAT.HOLD_RUN, SAFE_STATUS.STATE, SAFE_STATUS.STATE_EV, SAFE_STATUS.UNLIT] ++ answerFlds))
  ∧ (∀ (r : Released) (s : State), Acts s → s.boot.stage = 11 → s.releaseNow = some r → 1 ≤ r.state → r.state ≤ 2 → r.latched < 65536 →
    ∃ t, exec .scWdog s = .next t ∧ t.safety ≠ 0 ∧ r.state ≤ t.safety ∧ t.rd SAFE_CAUSE.LATCHED = Nat.lor r.latched 0x80 ∧ t.releaseNow = none
      ∧ (∀ w, w < 16 → t.rd (ARRAY_CUT_COLS.EN w) = 0)
      ∧ ∀ h ∈ r.handles, ∀ e, s.handle h = some e → e.st = 3 → ∃ e', t.handle h = some e' ∧ e'.st = 3 ∧ e'.status = 0x30)
  ∧ ∀ (h : Nat) (s : State), Live s → s.safe.release = [h] → ∃ t, exec .releaseSupplyTimeout s = .next t ∧ t.safety = s.safety
      ∧ t.safe = { s.safe with release := [] } ∧ t.power.led = 0 ∧ Ends s t h 0x30
      ∧ Frame s t (.safe :: .power :: answerParts) (POWER_STATUS.LED_REG :: answerFlds)

/-! ## The register port -/

/-- Reading TICK_TB_LO or TICK_TSTAMP_LO copies the upper word into a shadow, which is what a read of the HI word returns.
No parity error waits to be detected. -/
def Obligations.TimeBaseRead : Prop :=
  ∀ (src : Source) (s : State), Open s → Sound s →
    (∃ t, exec (.timeBaseReadLo src false) s = .next t ∧ t.view 0x2034 = BitVec.ofNat 32 (s.tick.tb.toNat / 2 ^ 32)
      ∧ t.tick = { s.tick with tbShadow := BitVec.ofNat 32 (s.tick.tb.toNat / 2 ^ 32) } ∧ Frame s t [.tick] [])
    ∧ (∃ t, exec (.timeBaseReadLo src true) s = .next t ∧ t.view 0x203C = BitVec.ofNat 32 (s.tick.tstamp.toNat / 2 ^ 32)
      ∧ t.tick = { s.tick with tstampShadow := BitVec.ofNat 32 (s.tick.tstamp.toNat / 2 ^ 32) } ∧ Frame s t [.tick] [])
    ∧ (s.portRead src 0x2034).1 = s.tick.tbShadow ∧ (s.portRead src 0x203C).1 = s.tick.tstampShadow

/-- An admitted write of TICK_TB_SET_HI loads it and TICK_TB_SET_LO into the time base, and increments TICK_EPOCH; one
that is not admitted leaves both. A read clears exactly the RC bits of its register whose cause is absent; a read of
SYS_REJ_FIFO takes the oldest record, or reads 0 where there is none. No parity error waits to be detected. -/
def Obligations.PortEffects : Prop :=
  (∀ (src : Source) (v : Word) (s : State), Open s →
     (Admitted s src 0x2044 v → ∃ t, exec (.timeBaseLoad src v) s = .next t
       ∧ t.tick = { s.tick with tb := BitVec.ofNat 64 (s.rd TICK_TB_SET_LO.TB + 2 ^ 32 * v.toNat) }
       ∧ t.rd TICK_EPOCH.EPOCH = (s.rd TICK_EPOCH.EPOCH + 1) % 2 ^ 32 ∧ t.rd TICK_TB_SET_HI.TB = v.toNat ∧ t.rd POWER_TIME.QUALITY = 0
       ∧ t.cmd.unlock = none ∧ Frame s t [.tick, .engine] [TICK_TB_SET_HI.TB, TICK_EPOCH.EPOCH, POWER_TIME.QUALITY])
     ∧ (s.unlocks src 0x2044 = false → s.hidden src 0x2044 = false → v.toNat ≠ s.rd TICK_TB_SET_HI.TB →
       ∃ t, exec (.timeBaseLoad src v) s = .next t ∧ t.rd SYS_STATUS.LOCK_VIOLATION = 1
         ∧ t.rd SYS_LOCK_CNT.REJECTED = min 65535 (s.rd SYS_LOCK_CNT.REJECTED + 1)
         ∧ (s.cmd.rejFifo.length < 16 → t.cmd.rejFifo = s.cmd.rejFifo ++ [rejRecord 0x2044 src 3])
         ∧ Frame s t [.engine] [SYS_STATUS.LOCK_VIOLATION, SYS_LOCK_CNT.REJECTED, SYS_STATUS.REJ_OVF]))
  ∧ (∀ (src : Source) (s : State), Open s → Sound s →
       (∀ a b, b ∈ rcBits a → s.hidden src a = false → ∃ t, exec (.rcStatusRead src a) s = .next t
         ∧ t.rd ⟨a, b, 1⟩ = (if s.rcCause s.cfgErr a b then s.rd ⟨a, b, 1⟩ else 0)
         ∧ Frame s t [] ((rcBits a).map fun b => ⟨a, b, 1⟩))
       ∧ (∃ t, exec (.rejFifoPop src) s = .next t ∧ t.cmd.rejFifo = s.cmd.rejFifo.drop 1 ∧ Frame s t [.engine] [])
       ∧ (s.portRead src 0x1C).1 = s.cmd.rejFifo.headD 0)

/-- A SYS_KEY write that is not well formed clears any unlock, creates none and sets KEY_ERR; a well-formed one makes the
unlock of its block and path, which admits no write of a register that holds no K field. By a link with PRIVMODE the write
is rejected with REASON 4 and the unlock stays. SYS_KEY reads 0. UNLOCK_LAPSE ends an unlock; and an unlock of more than a
millisecond ago admits nothing even before it. That it admits nothing from then on is the model's reading (log entry 18). -/
def Obligations.Keys : Prop :=
  (∀ (src : Source) (v : Word) (s : State), Open s →
     let barred := s.rd SYS_COMPAT.PRIVMODE = 1 ∧ isLink src = true
     (¬ barred → fget v 0 16 ≠ 0xA5C3 ∨ fget v 21 11 ≠ 0 → ∃ t, exec (.sysKeyWrite src v) s = .next t ∧ t.cmd.unlock = none
       ∧ t.rd SYS_STATUS.KEY_ERR = 1 ∧ Frame s t [.engine] [SYS_STATUS.KEY_ERR])
     ∧ (¬ barred → fget v 0 16 = 0xA5C3 → fget v 21 11 = 0 → ∃ t, exec (.sysKeyWrite src v) s = .next t
       ∧ t.cmd.unlock = some ⟨fget v 16 5, src, s.now⟩ ∧ Frame s t [.engine] [])
     ∧ (barred → ∃ t, exec (.sysKeyWrite src v) s = .next t ∧ t.cmd.unlock = s.cmd.unlock ∧ t.rd SYS_STATUS.LOCK_VIOLATION = 1
       ∧ t.rd SYS_LOCK_CNT.REJECTED = min 65535 (s.rd SYS_LOCK_CNT.REJECTED + 1)
       ∧ (s.cmd.rejFifo.length < 16 → t.cmd.rejFifo = s.cmd.rejFifo ++ [rejRecord 0x10 src 4])
       ∧ Frame s t [.engine] [SYS_STATUS.LOCK_VIOLATION, SYS_LOCK_CNT.REJECTED, SYS_STATUS.REJ_OVF])
     ∧ (∀ a, kReg a = false ∨ (∀ u, s.cmd.unlock = some u → u.block ≠ a / 4096 ∨ u.source ≠ src ∨ u.time + 1000000 < s.now) →
       s.unlocks src a = false)
     ∧ s.view 0x10 = 0)
  ∧ (∀ s : State, Live s → (∃ t, exec .unlockLapse s = .next t ∧ t.cmd.unlock = none ∧ t.cmd.handles = s.cmd.handles
         ∧ t.cmd.rejFifo = s.cmd.rejFifo ∧ Frame s t [.engine] [])
       ∧ ∀ src a u, s.cmd.unlock = some u → u.time + 1000000 < s.now → s.unlocks src a = false)

/-- A write changes each field of its register as its access code says: refused fields keep their value, a hardware update
of the same cycle stands, adds or yields by the field's class, and drops the write of a hardware-maintained field, which
is reported. A word is rejected, counted and recorded when a refused field would have changed. That a hardware update
stands alone where the software write of its field was refused is the model's reading (log entry 16). Writes that act at
once are not meant here. -/
def Obligations.RegisterWrites : Prop :=
  ∀ (src : Source) (a : Nat) (v : Word) (hw : List HwUpd) (s : State), Open s → (regFields a).isSome = true → actsAtOnce a = false →
    ∃ t, exec (.registerWrite src a v hw) s = .next t
      ∧ (∀ f ∈ fieldsAt a, t.rd ⟨a, f.lo, f.w⟩ = fieldNext f.acc f.w (s.rd ⟨a, f.lo, f.w⟩) (fget v f.lo f.w)
          (s.reasons src a (s.unlocks src a) v f).isEmpty (hwOn hw f))
      ∧ t.cmd.unlock = (if s.unlocks src a then none else s.cmd.unlock)
      ∧ (losesWrite a hw = true → a / 4096 = 3 → t.rd ARRAY_STATUS.WRITE_LOST = 1)
      ∧ (losesWrite a hw = true → a / 4096 = 4 → t.rd PIPE_STATUS.WRITE_LOST = 1)
      ∧ (losesWrite a hw = true → a / 4096 ≠ 3 → a / 4096 ≠ 4 → t.rd SYS_STATUS.WRITE_LOST = 1 ∧ t.rd SYS_WRITE_LOST_ADDR.ADDR = a)
      ∧ (∀ r, s.rejection src a (s.unlocks src a) v = some r → t.rd SYS_STATUS.LOCK_VIOLATION = 1
        ∧ t.rd SYS_LOCK_CNT.REJECTED = min 65535 (s.rd SYS_LOCK_CNT.REJECTED + 1)
        ∧ (s.cmd.rejFifo.length < 16 → t.cmd.rejFifo = s.cmd.rejFifo ++ [rejRecord a src r])
        ∧ (16 ≤ s.cmd.rejFifo.length → t.cmd.rejFifo = s.cmd.rejFifo ∧ t.rd SYS_STATUS.REJ_OVF = 1))
      ∧ (s.rejection src a (s.unlocks src a) v = none → losesWrite a hw = false → s.sealState ≠ 2 → t.cmd.rejFifo = s.cmd.rejFifo
        ∧ t.cmd.handles = s.cmd.handles ∧ Frame s t [.engine] [⟨a, 0, 32⟩])

/-- SYS_HOST_TAG takes the first write after a reset, whatever the value, and refuses every later one; each reset makes it
writable again. -/
def Obligations.HostTag : Prop :=
  (∀ (src : Source) (v : Word) (s : State), Open s →
    (s.cmd.tagWritten = false → ∃ t, exec (.registerWrite src 0x0C v []) s = .next t ∧ t.rd SYS_HOST_TAG.TAG = v.toNat
      ∧ t.cmd.tagWritten = true ∧ t.cmd.rejFifo = s.cmd.rejFifo ∧ Frame s t [.engine] [SYS_HOST_TAG.TAG])
    ∧ (s.cmd.tagWritten = true → ∃ t, exec (.registerWrite src 0x0C v []) s = .next t ∧ t.rd SYS_HOST_TAG.TAG = s.rd SYS_HOST_TAG.TAG
      ∧ t.cmd.tagWritten = true ∧ (v.toNat ≠ s.rd SYS_HOST_TAG.TAG → t.rd SYS_STATUS.LOCK_VIOLATION = 1
        ∧ t.rd SYS_LOCK_CNT.REJECTED = min 65535 (s.rd SYS_LOCK_CNT.REJECTED + 1))
      ∧ (v.toNat = s.rd SYS_HOST_TAG.TAG → Frame s t [] [])
      ∧ Frame s t [.engine] [SYS_STATUS.LOCK_VIOLATION, SYS_STATUS.REJ_OVF, SYS_LOCK_CNT.REJECTED]))
  ∧ ∀ (i : Instr) (s : State), s.resets i = true → ∃ t, exec i s = .next t ∧ t.cmd.tagWritten = false ∧ t.rd SYS_HOST_TAG.TAG = 0

/-- A write of ARRAY_CUT_ROWS stages rows and changes no window; one of ARRAY_CUT_COLS applies the rows as they stand with
its columns (R75, R322). In LIMP and DARK a word that would enable the window is rejected with REASON 6 and the window
stays disabled, while EN = 0 is admitted (R330). Where updates of the window from the SPI port were made in the same core
cycle, a link's write counts as made before them: what they make of it stands (R76); which commands share a core cycle is
the model's choice (log entry 22), and so is the Y that is shown above 639 (log entry 28). -/
def Obligations.CutRegisters : Prop :=
  ∀ (src : Source) (w : Nat) (v : Word) (s : State), Open s → w < 16 → s.array.cuts.length = 16 →
    let rows : Rect := ⟨s.rd (ARRAY_CUT_ROWS.Y0 w), s.rd (ARRAY_CUT_ROWS.Y1 w), fget v 0 7, fget v 16 7⟩
    (∃ t, exec (.cutRowsStage src w v) s = .next t ∧ t.rd (ARRAY_CUT_ROWS.Y0 w) = fget v 0 10 ∧ t.rd (ARRAY_CUT_ROWS.Y1 w) = fget v 16 10
      ∧ Frame s t [] [ARRAY_CUT_ROWS.Y0 w, ARRAY_CUT_ROWS.Y1 w])
    ∧ (∀ e, src ≠ .spi → s.cutTie w = some e → fget v 31 1 = 0 ∨ s.safety = 0 → ∃ t, exec (.cutColsWrite src w v) s = .next t
      ∧ (let z := e.ops.foldl (fun u o => o.apply u) ((CutOp.cols (fget v 0 7) (fget v 16 7) (fget v 31 1 == 1)).apply e.base)
        t.array.cuts = s.array.cuts.set w z.cut ∧ t.rd (ARRAY_CUT_ROWS.Y0 w) = z.y0 % 2 ^ 10 ∧ t.rd (ARRAY_CUT_ROWS.Y1 w) = z.y1 % 2 ^ 10
        ∧ t.rd (ARRAY_CUT_COLS.G0 w) = z.cut.rect.g0 % 2 ^ 7 ∧ t.rd (ARRAY_CUT_COLS.G1 w) = z.cut.rect.g1 % 2 ^ 7
        ∧ t.rd (ARRAY_CUT_COLS.EN w) = if z.cut.en then 1 else 0)
      ∧ Frame s t [.array] [⟨0x3100 + 8 * w, 0, 32⟩, ⟨0x3104 + 8 * w, 0, 32⟩, ARRAY_STATUS.CUT_EMPTY])
    ∧ (fget v 31 1 = 0 ∨ s.safety = 0 → src = .spi ∨ s.cutTie w = none → ∃ t, exec (.cutColsWrite src w v) s = .next t
      ∧ t.array.cuts = s.array.cuts.set w ⟨rows, fget v 31 1 == 1⟩ ∧ t.rd (ARRAY_CUT_COLS.G0 w) = fget v 0 7
      ∧ t.rd (ARRAY_CUT_COLS.G1 w) = fget v 16 7 ∧ t.rd (ARRAY_CUT_COLS.EN w) = fget v 31 1
      ∧ t.rd ARRAY_STATUS.CUT_EMPTY = (if fget v 31 1 = 1 ∧ cutEmpty rows.y0 rows.y1 rows.g0 rows.g1 = true then 1 else s.rd ARRAY_STATUS.CUT_EMPTY)
      ∧ { t.array with cuts := s.array.cuts, held := s.array.held, litBar := s.array.litBar, cutSpi := s.array.cutSpi } = s.array
      ∧ Frame s t [.array] [ARRAY_CUT_COLS.G0 w, ARRAY_CUT_COLS.G1 w, ARRAY_CUT_COLS.EN w, ARRAY_STATUS.CUT_EMPTY])
    ∧ (fget v 31 1 = 1 → s.safety = 1 ∨ s.safety = 2 → s.rd (ARRAY_CUT_COLS.EN w) = 0 → src = .spi ∨ s.cutTie w = none → ∃ t, exec (.cutColsWrite src w v) s = .next t
      ∧ t.rd (ARRAY_CUT_COLS.EN w) = 0 ∧ (t.array.cuts.getD w ⟨rows, true⟩).en = false
      ∧ t.rd SYS_STATUS.LOCK_VIOLATION = 1 ∧ t.rd SYS_LOCK_CNT.REJECTED = min 65535 (s.rd SYS_LOCK_CNT.REJECTED + 1)
      ∧ (s.cmd.rejFifo.length < 16 → t.cmd.rejFifo = s.cmd.rejFifo ++ [rejRecord (0x3104 + 8 * w) src 6])
      ∧ Frame s t [.array, .engine] [ARRAY_CUT_COLS.G0 w, ARRAY_CUT_COLS.G1 w, SYS_STATUS.LOCK_VIOLATION, SYS_STATUS.REJ_OVF, SYS_LOCK_CNT.REJECTED])

/-- A write that clears a layer's EN ends its active enable at once, in a composition from the place each compositor has
reached; clearing a RUN bit ends that engine's work at once; a SCALE written between pass and tick saturates at the
governor's result; CELLAR_CTRL is not written during a store. An admitted MEM_INMAP that names seven different inputs
takes effect; any other leaves the map in force and sets MAP_REJECT. A requested operating point replaces any earlier
request: a raise starts at once, a lowering waits for the tick with OP_DEFER, and during a step both wait. The step's end
shows its point, and the requests it meets complete OK: of that point, or of the automatic one where the step went to it.
That the requests waiting complete with the point in force at the step's end, the automatic one among them, is the model's
choice (log entries 81 and 92). -/
def Obligations.DirectWrites : Prop :=
  (∀ (src : Source) (v : Word) (s : State), Open s →
     (∀ n, n < 8 → fget v 0 1 = 0 → (s.actCfg n).en = true → s.layer.active.length = 8 →
       ∃ t, exec (.layerDisable src n v) s = .next t ∧ t.rd (LAYER_CTRL.EN n) = 0 ∧ t.rd (LAYER_STATUS.ACTIVE_EN n) = 0
         ∧ (t.actCfg n).en = false ∧ (∀ k, k ≠ n → t.actCfg k = s.actCfg k)
         ∧ (match s.layer.comp with
           | none => t.layer.comp = none
           | some c => ∃ p q, t.layer.comp = some { c with cut := (n, p, q) :: c.cut } ∧ (c.cp0 ≠ .composing → p = 655360)
               ∧ (c.cp1 ≠ .composing → q = 655360))
         ∧ { t.layer with active := s.layer.active, comp := s.layer.comp } = s.layer
         ∧ (Admitted s src (0x5000 + 0x100 * n) v → Frame s t [.layer] [⟨0x5000 + 0x100 * n, 0, 32⟩, LAYER_STATUS.ACTIVE_EN n])
         ∧ Frame s t [.layer, .engine] [⟨0x5000 + 0x100 * n, 0, 32⟩, LAYER_STATUS.ACTIVE_EN n, SYS_STATUS.LOCK_VIOLATION,
           SYS_STATUS.REJ_OVF, SYS_LOCK_CNT.REJECTED])
     ∧ (Admitted s src 0x4000 v → ∀ i, i = .seStop src v ∨ i = .seStart src v → ∃ t, exec i s = .next t
       ∧ t.rd PIPE_SE_CTRL.RUN = fget v 0 8 ∧ t.rd PIPE_SE_CTRL.ACTIVE = Nat.land (s.rd PIPE_SE_CTRL.ACTIVE) (fget v 0 8)
       ∧ t.cmd.unlock = none ∧ Frame s t [.engine] [⟨0x4000, 0, 32⟩])
     ∧ (∃ t, exec (.govScaleWrite src v) s = .next t
       ∧ (s.pipe.govS = none → t.rd ⟨0x4014, 3, 13⟩ = fget v 3 13)
       ∧ (∀ m, s.pipe.govS = some m → m ≤ 32768 → s.rd ⟨0x4014, 0, 3⟩ = 0 → t.rd PIPE_GOV_SCALE.SCALE = min m (fget v 0 16 / 8 * 8))
       ∧ Frame s t [] [PIPE_GOV_SCALE.SCALE])
     ∧ (s.enLocked = true → ∃ t, exec (.cellarEnWrite src v) s = .next t ∧ t.rd CELLAR_STATUS.BUSY_WRITE = 1
       ∧ Frame s t [] [CELLAR_STATUS.BUSY_WRITE])
     ∧ (s.enLocked = false → ∃ t, exec (.cellarEnWrite src v) s = .next t ∧ t.rd CELLAR_CTRL.EN = fget v 0 1
       ∧ Frame s t [] [⟨0xB000, 0, 32⟩]))
  ∧ (∀ (src : Source) (v : Word) (s : State), Open s → Admitted s src 0xA00C v →
       (inmapOk v = true → ∃ t, exec (.memInmapWrite src v) s = .next t ∧ (∀ i, i < 7 → t.rd ⟨0xA00C, 4 * i, 3⟩ = fget v (4 * i) 3)
         ∧ (∀ i, i < 7 → t.rd ⟨0xA010, 4 * i, 3⟩ = fget v (4 * i) 3) ∧ t.cmd.unlock = none
         ∧ Frame s t [.engine] [⟨0xA00C, 0, 32⟩, ⟨0xA010, 0, 32⟩])
       ∧ (inmapOk v = false → ∃ t, exec (.memInmapWrite src v) s = .next t ∧ (∀ i, i < 7 → t.rd ⟨0xA00C, 4 * i, 3⟩ = fget v (4 * i) 3)
         ∧ t.rd MEM_STATUS.MAP_REJECT = 1 ∧ t.cmd.unlock = none ∧ Frame s t [.engine] [⟨0xA00C, 0, 32⟩, MEM_STATUS.MAP_REJECT]))
  ∧ ((∀ (src : Source) (v : Word) (s : State), Open s →
       let p := fget v 0 2
       let top := min p s.opMax
       (s.power.step ≠ none ∨ p = 3 → ∃ t, exec (.opRequestWrite src v) s = .next t ∧ t.rd POWER_CTRL.OP = p
         ∧ t.power = { s.power with want := p, lower := false, autoStep := false } ∧ Frame s t [.power] [⟨0xC000, 0, 32⟩])
       ∧ (s.power.step = none → p < 3 → s.power.div < top → ∃ t, exec (.opRequestWrite src v) s = .next t ∧ t.rd POWER_CTRL.OP = p
         ∧ t.rd POWER_STATUS.OP_BUSY = 1 ∧ t.power = { s.power with want := p, lower := false, autoStep := false, step := some (top, true) }
         ∧ Frame s t [.power] [⟨0xC000, 0, 32⟩, POWER_STATUS.OP_BUSY])
       ∧ (s.power.step = none → p < 3 → top < s.power.div → ∃ t, exec (.opRequestWrite src v) s = .next t ∧ t.rd POWER_CTRL.OP = p
         ∧ t.rd POWER_STATUS.OP_DEFER = 1 ∧ t.power = { s.power with want := p, lower := true, autoStep := false }
         ∧ Frame s t [.power] [⟨0xC000, 0, 32⟩, POWER_STATUS.OP_DEFER]))
     ∧ ∀ (p : Nat) (up : Bool) (s : State), Live s → s.power.step = some (p, up) → p ≤ 2 → s.power.want = 3 ∨ s.power.want = p → p ≤ s.opMax →
       ∃ t, exec .opStepDone s = .next t ∧ t.rd POWER_STATUS.OP = p ∧ t.rd POWER_STATUS.OP_BUSY = 0
         ∧ (s.power.want = p ∨ s.power.autoStep = true →
           t.power = { s.power with step := none, autoStep := false, volt := p, div := p, wantHandles := [] }
           ∧ ∀ h ∈ s.power.wantHandles, Ends s t h 0x00)
         ∧ (s.power.want = 3 → s.power.autoStep = false → t.power = { s.power with step := none, volt := p, div := p })
         ∧ Frame s t (.power :: answerParts) (POWER_STATUS.OP :: POWER_STATUS.OP_BUSY :: answerFlds))

/-- Clearing a lane's enable takes it to OFF at once, out of lock with cause 2 where it was in DATA or IDLE; setting it
moves it to SEARCH. A loss of lock detected in the core cycle of the disable is one event with it, whose notice names
cause 2 (R200; which commands share a core cycle is the model's choice, log entry 22). Clearing RL_EN stops the return
lane and keeps all but TAP_REQ blocks; setting it starts it with 64 commas. BURST asks for more. -/
def Obligations.LinkControl : Prop :=
  ∀ (src : Source) (v : Word) (s : State), Open s →
    (∀ n, n < 4 → Admitted s src 0x8000 v → fget v 0 4 + 2 ^ n = s.rd LINK_CTRL.LANE_EN → bitN (s.rd LINK_CTRL.LANE_EN) n = true →
      fget v 4 1 = s.rd LINK_CTRL.RL_EN → (s.rd LINK_CTRL.RL_EN = 0 → s.daelo.rl.running = false) → (s.linkSt (n / 2)).step = none →
      (s.linkSt (n / 2)).waiting = none → s.lane n ≠ 0 → ∃ t, exec (.laneDisable src v) s = .next t ∧ t.lane n = 0 ∧ (∀ m, m < 4 → m ≠ n → t.lane m = s.lane m)
        ∧ t.rd LINK_CTRL.LANE_EN = fget v 0 4 ∧ t.cmd.unlock = none ∧ (t.laneSt n).training = none
        ∧ (s.lane n = 4 ∨ s.lane n = 5 → t.rd (LINK_CV.LOCK n) = min 65535 (s.rd (LINK_CV.LOCK n) + 1) ∧ t.rd LINK_STATUS.LANE_LOSS = 1
          ∧ t.daelo.rl.loss = s.daelo.rl.loss ++ [leBytes 1 1 ++ leBytes 1 n ++ leBytes 1 2 ++ leBytes 1 (t.link (n / 2)) ++ leBytes 4 s.tickCount])
        ∧ (s.lane n ≠ 4 → s.lane n ≠ 5 → t.rd (LINK_CV.LOCK n) = s.rd (LINK_CV.LOCK n) ∧ t.rd LINK_STATUS.LANE_LOSS = s.rd LINK_STATUS.LANE_LOSS
          ∧ ((s.laneSt n).lost ≠ some s.cycle → t.daelo.rl.loss = s.daelo.rl.loss)
          ∧ ((s.laneSt n).lost = some s.cycle → ∀ pre p post, s.daelo.rl.loss = pre ++ p :: post → p.take 2 = leBytes 1 1 ++ leBytes 1 n →
            (∀ q ∈ post, q.take 2 ≠ leBytes 1 1 ++ leBytes 1 n) → t.daelo.rl.loss = pre ++ p.set 2 2 :: post))
        ∧ Frame s t (.engine :: lossParts) (⟨0x8000, 0, 32⟩ :: lossFlds n))
    ∧ (∀ n, n < 4 → Admitted s src 0x8000 v → s.rd LINK_CTRL.LANE_EN + 2 ^ n = fget v 0 4 → bitN (s.rd LINK_CTRL.LANE_EN) n = false →
      fget v 4 1 = s.rd LINK_CTRL.RL_EN → (s.rd LINK_CTRL.RL_EN = 0 → s.daelo.rl.running = false) → s.lane n = 0 →
      ∃ t, exec (.laneEnable src v) s = .next t ∧ t.lane n = 1 ∧ t.rd LINK_CTRL.LANE_EN = fget v 0 4 ∧ t.cmd.unlock = none
        ∧ Frame s t [.engine, .lanes] ([⟨0x8000, 0, 32⟩, LINK_LANE_STATE.STATE n] ++ if (s.laneSt n).eiWait.isSome then [LINK_DISC.DISCARD (n / 2)] else []))
    ∧ (Admitted s src 0x8000 v → fget v 0 4 = s.rd LINK_CTRL.LANE_EN → fget v 4 1 = 0 → s.daelo.rl.running = true →
      ∃ t, exec (.rlDisable src v) s = .next t ∧ t.rd LINK_CTRL.RL_EN = 0 ∧ t.daelo.rl.running = false ∧ t.daelo.rl.loss = s.daelo.rl.loss
        ∧ t.daelo.rl.tick = s.daelo.rl.tick ∧ t.daelo.rl.train = s.daelo.rl.train.filter (· != .tapReq) ∧ s.daelo.rl.ctl <+: t.daelo.rl.ctl
        ∧ Frame s t [.engine, .returns] [⟨0x8000, 0, 32⟩])
    ∧ (Admitted s src 0x8000 v → fget v 0 4 = s.rd LINK_CTRL.LANE_EN → fget v 4 1 = 1 → s.rd LINK_CTRL.RL_EN = 0 →
      s.daelo.rl.running = false → s.daelo.rxOn = true →
      ∃ t, exec (.rlEnable src v) s = .next t ∧ t.rd LINK_CTRL.RL_EN = 1 ∧ t.daelo.rl.running = true ∧ t.daelo.rl.commas = 64
        ∧ t.daelo.rl.count = 0 ∧ t.daelo.rl.rd = false
        ∧ { t.daelo.rl with running := false, commas := s.daelo.rl.commas, count := s.daelo.rl.count, ctl := s.daelo.rl.ctl, rd := s.daelo.rl.rd } = s.daelo.rl
        ∧ Frame s t [.engine, .returns] [⟨0x8000, 0, 32⟩])
    ∧ (fget v 8 1 = 1 → ∃ t, exec (.rlBurstRequest src v) s = .next t ∧ t.rd LINK_RL_CFG.BURST = 1 ∧ Frame s t [] [⟨0x8010, 0, 32⟩])

/-! ## The frame -/

/-- TICK_COUNT is cleared by every reset, increments at each tick and wraps from 0xFFFFFFFF to 0, and does not advance in
sleep, where there are no ticks. -/
def Obligations.TickCount : Prop :=
  (∀ (i : Instr) (s : State), s.resets i = true → ∃ t, exec i s = .next t ∧ t.rd TICK_COUNT.COUNT = 0)
  ∧ (∀ s : State, s.ticking = true → ∃ t, exec .tick s = .next t ∧ t.rd TICK_COUNT.COUNT = (s.rd TICK_COUNT.COUNT + 1) % 2 ^ 32)
  ∧ ∀ s : State, s.sleeping = true → ∃ t, exec .tick s = .next t ∧ t.rd TICK_COUNT.COUNT = s.rd TICK_COUNT.COUNT ∧ Frame s t [] []

/-- A tick begins a frame and a core cycle (log entry 22). From the device's own source the frame is 1 / FRAME_HZ long
under the combination sampled for it, in units of 40 ns with the remainder carried, and stamped with the time base. The
composed frame goes on display if it was on time, and the frame on display repeats otherwise; a composition that is not
over is abandoned (log entry 80), and a dark slot that reaches the tick ends with it (log entry 83). From FSYNC the
tracker gives the length: free in SEARCH, the stretched frame up to a predicted edge or twice T_F (log entry 21), then the
measured period corrected by e / 4, and in HOLDOVER the last one. SRC = 2 is refused without the role of a follower, who
takes its period by SYNC, or a hold frame, which repeats the displayed one. A leader sends its GSYNC pulse 40 to 80 ns
after. No parity error waits to be detected. -/
def Obligations.TickBeginsFrame : Prop :=
  (∀ s : State, s.ticking = true → s.rd TICK_CTRL.SRC = 0 → Sound s →
    let hz := s.rd TICK_RATE.FRAME_HZ
    let n := nsfOf (s.rd TICK_RATE.SUBFRAMES)
    let old := (s.tick.hz, s.tick.nsf)
    ∃ t, exec .tick s = .next t ∧ t.rd TICK_STATUS.TICK_EV = 1 ∧ t.tick.tickAt = some s.now ∧ t.tick.tstamp = s.tick.tb
      ∧ t.tick.slot = none ∧ t.tick.dark = false ∧ t.tick.src = 0
      ∧ (t.tick.hz, t.tick.nsf) = (if s.tick.taken then s.tick.rateNext.getD old else if rateLegal hz n then (hz, n) else old)
      ∧ (s.tick.taken = false → rateLegal hz n = false → t.rd TICK_STATUS.RATE_REJECT = 1)
      ∧ (let f := 25000000 + (if t.tick.hz = s.tick.hz then s.tick.frac else 0)
         t.tick.frameLen = 40 * (f / t.tick.hz) ∧ t.tick.frac = f % t.tick.hz)
      ∧ (s.layer.composed = true → s.tick.overrun = false → t.rd LAYER_COMP_STATUS.DISPLAY_BUF = s.backBuf
        ∧ t.rd TICK_STATUS.REPEAT = 0 ∧ t.pipe.noFrame = false)
      ∧ (s.layer.composed = false ∨ s.tick.overrun = true → t.rd LAYER_COMP_STATUS.DISPLAY_BUF = s.rd LAYER_COMP_STATUS.DISPLAY_BUF
        ∧ t.rd TICK_STATUS.REPEAT = s.rd TICK_STATUS.REPEAT ∧ t.pipe.noFrame = s.pipe.noFrame)
      ∧ t.layer.composed = false ∧ t.layer.comp = (if s.layer.composed = true ∧ s.tick.overrun = false then s.layer.comp else none)
      ∧ (s.safety = 0 → t.pipe.scale = s.rd PIPE_GOV_SCALE.SCALE / 8 * 8)
      ∧ (s.tick.taken = true → ∀ d, s.pipe.next = some d → t.pipe.disp = d)
      ∧ t.safe.guardDisp = s.safe.guardNext ∧ t.daelo.pastDeadline = false ∧ t.tick.taken = false ∧ t.tick.passRunning = false
      ∧ t.cycle = s.cycle + 1
      ∧ t.daelo.rl.tick = some t.tickPayload
      ∧ (∀ p ∈ [Part.now, .lanes, .links, .cellar, .therm, .driven], p.same s t)
      ∧ ∀ g : Fld, g.addr / 4096 = 0 ∨ g.addr / 4096 = 8 ∨ (g.addr / 4096 = 0xB ∧ s.test.scan = none) → t.rd g = s.rd g)
  ∧ (∀ s : State, s.ticking = true → s.rd TICK_CTRL.SRC = 1 → Sound s →
    let f := s.tick.fs
    let free (t : State) : Prop :=
      let n := 25000000 + (if t.tick.hz = s.tick.hz then s.tick.frac else 0)
      t.tick.frameLen = 40 * (n / t.tick.hz) ∧ t.tick.frac = n % t.tick.hz
    ∃ t, exec .tick s = .next t ∧ t.rd TICK_STATUS.TICK_EV = 1 ∧ t.tick.tickAt = some s.now ∧ t.tick.src = 1
      ∧ (f.st = 0 → t.tick.fs.st = 1 ∧ t.rd TICK_STATUS.FSYNC_STATE = 1 ∧ free t)
      ∧ (f.st = 1 → f.stretch = 0 → t.tick.fs = f ∧ free t)
      ∧ (∀ edge, f.st = 1 → f.stretch = 1 → f.lastEdge = some edge → edge ≤ s.now → 0 < f.interval → 0 < t.tick.hz →
        let len := t.tick.frameLen
        t.tick.fs = { f with stretch := 2 } ∧ rdiv 1000000000 t.tick.hz ≤ len
          ∧ (len = rdiv 2000000000 t.tick.hz ∨ ((s.now + len - edge) % f.interval = 0 ∧ len < rdiv 1000000000 t.tick.hz + f.interval)))
      ∧ (f.st = 1 → f.stretch = 2 → t.tick.fs.st = 2 ∧ t.rd TICK_STATUS.FSYNC_STATE = 2 ∧ t.tick.fs.stretch = 0)
      ∧ (f.st = 2 ∨ (f.st = 1 ∧ f.stretch = 2) → f.fresh = true →
        t.tick.frameLen = correctedPeriod t.tick.nsf f.interval f.err 4 100 ∧ t.tick.fs.fresh = false)
      ∧ (f.st = 1 → f.stretch = 2 → f.fresh = false → t.tick.frameLen = periodClamp t.tick.nsf f.interval)
      ∧ (f.st = 3 ∨ (f.st = 2 ∧ f.fresh = false) → t.tick.fs = f ∧ t.tick.frameLen = periodClamp t.tick.nsf s.tick.frameLen))
  ∧ (∀ s : State, s.ticking = true → s.rd TICK_CTRL.SRC = 2 → Sound s →
    (s.roleAtTick ≠ 2 → ∃ t, exec .tick s = .next t ∧ t.tick.src = 0 ∧ t.rd TICK_STATUS.RATE_REJECT = 1 ∧ t.rd TICK_CTRL.SRC = 2
      ∧ t.tick.tickAt = some s.now
      ∧ let n := 25000000 + (if t.tick.hz = s.tick.hz then s.tick.frac else 0)
        t.tick.frameLen = 40 * (n / t.tick.hz) ∧ t.tick.frac = n % t.tick.hz)
    ∧ (s.roleAtTick = 2 → ∃ t, exec .tick s = .next t ∧ t.tick.src = 2 ∧ t.tick.tickAt = some s.now ∧ t.group.err = none
      ∧ (∀ e, s.group.err = some e → s.rd GROUP_STATUS.SYNC = 1 → t.tick.frameLen = correctedPeriod t.tick.nsf s.group.interval e 4 1000)
      ∧ (∀ e, s.group.err = some e → s.rd GROUP_STATUS.SYNC = 2 → t.tick.frameLen = correctedPeriod t.tick.nsf s.group.interval e 1 100)
      ∧ (∀ e, s.group.err = some e → s.rd GROUP_STATUS.SYNC = 3 →
        t.tick.frameLen = holdClamp t.tick.nsf (s.group.interval - e) ∧ t.tick.hold = true ∧ t.rd TICK_STATUS.REPEAT = 1
          ∧ t.rd LAYER_COMP_STATUS.DISPLAY_BUF = s.rd LAYER_COMP_STATUS.DISPLAY_BUF ∧ t.layer.composed = false
          ∧ t.rd TICK_STATUS.COMP_OVERRUN = s.rd TICK_STATUS.COMP_OVERRUN ∧ t.rd TICK_OVERRUN_CNT.COUNT = s.rd TICK_OVERRUN_CNT.COUNT
          ∧ t.rd GROUP_CNT.HOLDS = min (2 ^ GROUP_CNT.HOLDS.w - 1) (s.rd GROUP_CNT.HOLDS + 1))
      ∧ (s.group.err = none → 1 ≤ s.rd GROUP_STATUS.SYNC → s.rd GROUP_STATUS.SYNC ≤ 3 →
        t.tick.frameLen = periodClamp t.tick.nsf s.group.interval)
      ∧ (s.group.err = none → s.rd GROUP_STATUS.SYNC = 0 ∨ s.rd GROUP_STATUS.SYNC = 4 →
        let n := 25000000 + (if t.tick.hz = s.tick.hz then s.tick.frac else 0)
        t.tick.frameLen = 40 * (n / t.tick.hz) ∧ t.tick.frac = n % t.tick.hz)))
  ∧ ∀ s : State, s.ticking = true → Sound s → s.cmd.tickCmds = [] → s.leads = true → ∃ t a b, exec .tick s = .next t
      ∧ t.group.pulse = some (a, a + 1000) ∧ s.now + 40 ≤ a ∧ a ≤ s.now + 80 ∧ t.group.got = List.replicate 4 false
      ∧ t.tick.outTick = some (b, b + 1000 * t.tick.outPulse) ∧ s.now + 40 ≤ b ∧ b ≤ s.now + 80

/-- The prediction pass of a frame starts once, in ACTIVE after boot (log entry 83), with a reconciled guard: before the
guard deadline it waits for it. A composition that is not over is then abandoned and counted, and the frame on display
repeats (log entry 80). In NORMAL the pass takes the settings and the budget at the throttle's tau, in LIMP and DARK none
(log entry 58); its end writes the governor's scale, says whether it limits, and gives the LED supply its target, in force
with the previous frame's until the hand-over. The end of a pass that does not run, as of one that an entry to LIMP or
DARK has given up, has no effect. -/
def Obligations.PredictionPasses : Prop :=
  (∀ s : State, Acts s → s.powerState = 0 → s.boot.stage = 11 → s.tick.taken = false → s.daelo.pastDeadline = true →
    ∃ t, exec .predictionPassStart s = .next t
      ∧ (s.layer.composed = true → t.layer = s.layer ∧ t.tick.overrun = s.tick.overrun ∧ t.rd TICK_OVERRUN_CNT.COUNT = s.rd TICK_OVERRUN_CNT.COUNT)
      ∧ (s.layer.composed = false → t.layer.comp = none ∧ t.tick.overrun = true
        ∧ (s.pipe.noFrame = false → t.rd TICK_STATUS.COMP_OVERRUN = 1 ∧ t.rd TICK_STATUS.REPEAT = 1
          ∧ t.rd TICK_OVERRUN_CNT.COUNT = min 65535 (s.rd TICK_OVERRUN_CNT.COUNT + 1)))
      ∧ (s.safety = 0 → t.tick.passRunning = true ∧ t.tick.passDone = false ∧ t.tick.taken = true
        ∧ t.rd PIPE_GOV_CTRL.EFF_BUDGET = rdiv (clampN 100 12000 (s.rd PIPE_GOV_CTRL.BUDGET) * s.rd THERM_THROTTLE.TAU) 32768 % 2 ^ 14
        ∧ ∃ d, t.pipe.next = some d ∧ d.budget = t.rd PIPE_GOV_CTRL.EFF_BUDGET ∧ d.split = s.split)
      ∧ (s.safety ≠ 0 → t.tick.passRunning = s.tick.passRunning ∧ t.tick.taken = false)
      ∧ (∀ p ∈ [Part.now, .array, .lanes, .links, .safe, .cellar, .power, .therm, .cal, .group, .sat, .boot, .receivers, .driven],
          p.same s t))
  ∧ (∀ s : State, Acts s → s.powerState = 0 → s.boot.stage = 11 → s.tick.taken = false → s.daelo.pastDeadline = false →
    (∃ t, exec .predictionPassStart s = .next t ∧ t.tick = { s.tick with passWait := true } ∧ Frame s t [.tick] [])
    ∧ ∀ x, s.tick.passWait = true → s.safety = 0 → s.daelo.links.length = 2 → copyPlane (s.linkSt 0).filling = some x →
      copyPlane (s.linkSt 1).filling = some x → ∃ t, exec .guardDeadline s = .next t ∧ t.safe.guardNext = planeMin x x
        ∧ t.tick.passWait = false ∧ t.tick.passRunning = true ∧ t.tick.taken = true)
  ∧ (∀ (d : DispSet) (s : State), Acts s → s.pipe.next = some d → s.tick.passRunning = true → s.power.tgtNow < 2 ^ 13 → s.power.tgtNext < 2 ^ 13 →
    let r := chooseScale (trialOk d s.pipe.nextTerms s.oldTerms (s.rd PIPE_GOV_CTRL.EFF_BUDGET))
    ∃ t, exec .predictionPassDone s = .next t ∧ t.pipe.govS = some r.1 ∧ t.rd PIPE_GOV_SCALE.SCALE = r.1 % 2 ^ 16 ∧ t.pipe.unmet = !r.2
      ∧ t.tick = { s.tick with passRunning := false, passDone := true }
      ∧ (r.1 < 32768 → t.rd PIPE_STATUS.GOV_LIMIT = 1) ∧ (r.2 = false → t.rd PIPE_STATUS.GOV_UNMET = 1)
      ∧ t.power.tgtNow = (if s.power.handed then s.power.tgtNow else s.power.tgtNext) ∧ t.power.handed = false
      ∧ 2600 ≤ t.power.tgtNext ∧ t.power.tgtNext ≤ 4600 ∧ t.rd POWER_VLED_STATUS.TARGET = max t.power.tgtNow t.power.tgtNext
      ∧ Frame s t [.tick, .pipe, .power] [PIPE_GOV_SCALE.SCALE, PIPE_GOV_STATUS.PEAK, PIPE_GOV_STATUS.PEAK1, PIPE_STATUS.GOV_LIMIT,
          PIPE_STATUS.GOV_UNMET, POWER_VLED_STATUS.TARGET])
  ∧ (∀ s : State, Acts s → s.tick.passRunning = false → ∃ t, exec .predictionPassDone s = .next t ∧ Frame s t [] [])
  ∧ ∀ s : State, Live s → s.power.tgtNext < 2 ^ 13 → ∃ t, exec .vledTargetHandover s = .next t
      ∧ t.power = { s.power with tgtNow := s.power.tgtNext, handed := true } ∧ t.rd POWER_VLED_STATUS.TARGET = s.power.tgtNext
      ∧ Frame s t [.power] [POWER_VLED_STATUS.TARGET]

/-- The decision point copies the active layers and judges them, and composition begins; where it comes late, or none may
run, it has no effect. A compositor that ends has written its half of the back buffer, and used its line buffers and
working area in bank 26; with the second the frame is composed, the buffers it held are free and COMPOSING reads 0. That
none begins outside ACTIVE, before boot is complete or during another is the model's reading (log entry 69), and that a
half is read and written as of its end the model's choice (log entries 29 and 66). -/
def Obligations.Compositions : Prop :=
  (∀ s : State, Acts s → s.boot.stage = 11 → s.powerState = 0 → s.tick.overrun = false → s.layer.composed = false → s.layer.comp = none →
    ∃ t c, exec .decisionPoint s = .next t ∧ t.layer.comp = some c ∧ c.cfg = s.layer.active ∧ c.bgWarm = s.layer.bgWarm ∧ c.bgCool = s.layer.bgCool
      ∧ c.mix = s.layer.mix ∧ c.coef = s.layer.coef ∧ c.cp0 = .composing ∧ c.cp1 = .composing ∧ c.cut = [] ∧ c.judge.length = 8
      ∧ (∀ n, n < 8 → (s.actCfg n).en = false → c.judge.getD n .hidden = .hidden)
      ∧ (∀ n, n < 8 → (s.actCfg n).en = true → s.cfgErr n = false → (s.actCfg n).kind = 2 → s.beamValid (s.actCfg n).beam = true →
          c.judge.getD n .hidden = .beam (s.actCfg n).beam)
      ∧ t.rd LAYER_COMP_STATUS.COMPOSING = 1 ∧ t.pipe = { s.pipe with compFresh := s.safety == 0 }
      ∧ (∀ p ∈ [Part.now, .tick, .array, .cask, .lanes, .links, .safe, .mem, .cellar, .power, .therm, .cal, .test, .group, .sat, .boot,
          .engine, .receivers, .driven], p.same s t)
      ∧ ∀ g : Fld, g.addr / 4096 ≠ 5 → g.addr / 4096 ≠ 6 → t.rd g = s.rd g)
  ∧ (∀ s : State, Acts s → s.tick.overrun = true ∨ s.layer.composed = true ∨ s.layer.comp ≠ none ∨ s.powerState ≠ 0 ∨ s.boot.stage ≠ 11 →
    ∃ t, exec .decisionPoint s = .next t ∧ Frame s t [] [])
  ∧ ∀ (c : Composition) (cp : Nat) (s : State), Acts s → s.layer.comp = some c → cp ≤ 1 → c.run cp = .composing → s.cask.heldSyms = [] →
    ∃ t, exec (.compositionDone cp) s = .next t ∧ t.sramBytes (bufBase s.backBuf + 0x280000 * cp) 2621440 = s.halfBytes c cp s.free
      ∧ (∀ a, scratch a = false → a < bufBase s.backBuf + 0x280000 * cp ∨ bufBase s.backBuf + 0x280000 * (cp + 1) ≤ a →
          t.sramByte a = s.sramByte a)
      ∧ (c.run (1 - cp) = .composing → t.layer = { s.layer with comp := some (c.setRun cp .finished) } ∧ Frame s t (.mem :: .arb :: .layer :: s.scanParts) s.scanShown)
      ∧ (c.run (1 - cp) ≠ .composing → t.layer.comp = none ∧ t.layer.composed = (c.run (1 - cp) == .finished)
        ∧ t.rd LAYER_COMP_STATUS.COMPOSING = 0
        ∧ Frame s t (.mem :: .arb :: .layer :: s.scanParts) (s.scanShown ++ LAYER_COMP_STATUS.COMPOSING :: (List.range 16).map fun i => bufFld (i / 2) (i % 2)))

/-- Slots follow each other through the frame, and each starts the engines in RUN unless the fill drives the whole face. A
write window, in a slot of its bank (log entries 83 and 84), parks and arms the bank, and the one of sub-frame 0 loads the
bank's references, which IREF_EFF then shows (log entry 51); its end unparks it, releases what was held dark or open until
then, and notes what is off as its lit interval begins: the windows' areas, the segments still held dark, the killed rows.
A segment released while a window was open stays dark until the end of the next one. In the dark slot every current
reference is 0; a slot that its frame's end has ended does not end again (log entry 83). -/
def Obligations.SlotsAndWindows : Prop :=
  (∀ s : State, Acts s →
    (∀ j, j = (match s.tick.slot with | none => 0 | some i => i + 1) → s.tick.tickAt ≠ none → j < 8 * s.tick.nsf → j < 64 →
      ∃ t, exec .slotStart s = .next t ∧ t.tick = { s.tick with slot := some j } ∧ t.rd TICK_PHASE.SUBFRAME = j / 8 ∧ t.rd TICK_PHASE.SLOT = j
        ∧ t.rd PIPE_SE_CTRL.ACTIVE = (if s.wholeFill = true ∨ s.boot.stage ≠ 11 then 0 else s.rd PIPE_SE_CTRL.RUN)
        ∧ t.cal = (if j % 8 = 0 then { s.cal with headroom := false, kept := 0 } else s.cal)
        ∧ Frame s t [.tick, .cal] [TICK_PHASE.SUBFRAME, TICK_PHASE.SLOT, PIPE_SE_CTRL.ACTIVE])
    ∧ (∀ b, b ≤ 7 → s.slotOf b = true → s.powerState = 0 → ∃ t, exec (.writeWindowOpen b) s = .next t
      ∧ (∀ k, k ∈ t.array.parked ↔ k = b ∨ k ∈ s.array.parked) ∧ (∀ k, k ∈ t.array.armed ↔ k = b ∨ k ∈ s.array.armed)
      ∧ { t.array with parked := s.array.parked, armed := s.array.armed } = s.array ∧ t.power = { s.power with headroom := false }
      ∧ (∀ c, c ≤ 1 → t.rd (if c = 0 then ARRAY_IREF_EFF.WARM b else ARRAY_IREF_EFF.COOL b) =
          if s.subframe = 0 then s.pipe.disp.eff s.pipe.scale b c % 2 ^ 12 else s.rd (if c = 0 then ARRAY_IREF_EFF.WARM b else ARRAY_IREF_EFF.COOL b))
      ∧ Frame s t [.array, .power] [ARRAY_IREF_EFF.WARM b, ARRAY_IREF_EFF.COOL b])
    ∧ (∀ b, s.slotOf b = false ∨ s.powerState ≠ 0 → ∃ t, exec (.writeWindowOpen b) s = .next t ∧ Frame s t [] [])
    ∧ (∀ b, b ≤ 7 → b ∈ s.array.parked → s.powerState = 0 → ∃ t, exec (.writeWindowEnd b) s = .next t
      ∧ t.array.parked = s.array.parked.filter (· != b) ∧ t.array.armed = s.array.armed.filter (· != b)
      ∧ t.array.reopen = s.array.reopen.filter (fun y => y % 8 != b)
      ∧ t.array.held = (s.array.held.filter fun h => h.1 != b || h.2.2).map (fun h => if h.1 == b then (h.1, h.2.1, false) else h)
      ∧ (∀ k r, k ≠ b → ((k, r) ∈ t.array.litBar ↔ (k, r) ∈ s.array.litBar))
      ∧ (∀ r, (b, r) ∈ t.array.litBar ↔ (∃ c ∈ s.array.cuts, c.acts = true ∧ c.area = r) ∨ (b, r, true) ∈ s.array.held)
      ∧ (∀ y, y ∈ t.array.litRows ↔ (y % 8 = b ∧ s.isKilled y = true) ∨ (y % 8 ≠ b ∧ y ∈ s.array.litRows))
      ∧ { t.array with parked := s.array.parked, armed := s.array.armed, held := s.array.held, reopen := s.array.reopen,
                       litBar := s.array.litBar, litRows := s.array.litRows } = s.array
      ∧ (b ≠ 7 ∨ s.subframe ≠ 0 → Frame s t [.array] [])
      ∧ Frame s t [.array, .test] (⟨0xF008, 0, 16⟩ :: MON_STATUS.SIG_MISS :: (List.range 16).flatMap fun k => [MON_SIG_VALUE.VALUE k,
          MON_SIG_CNT.MISS k, MON_SIG_CNT.COMPARED k]))
    ∧ (∀ b, b ∉ s.array.parked ∨ s.powerState ≠ 0 → ∃ t, exec (.writeWindowEnd b) s = .next t ∧ Frame s t [] []))
  ∧ ∀ s : State, Live s →
    (s.tick.darkLen ≠ 0 → s.tick.darkOff * 1000 < s.tick.frameLen → ∃ t, exec .darkSlotStart s = .next t ∧ t.tick.dark = true
      ∧ t.pins.forceZero = true ∧ (∀ b c, t.dacOut b c = 0) ∧ { t.tick with dark := s.tick.dark, outDark := s.tick.outDark } = s.tick
      ∧ Frame s t [.tick] [])
    ∧ (s.tick.darkLen = 0 ∨ s.tick.frameLen ≤ s.tick.darkOff * 1000 → ∃ t, exec .darkSlotStart s = .next t ∧ Frame s t [] [])
    ∧ (s.tick.dark = true → ∃ t, exec .darkSlotEnd s = .next t ∧ t.tick = { s.tick with dark := false } ∧ t.cal = { s.cal with darkEnd := some s.now }
      ∧ Frame s t [.tick, .cal] [])
    ∧ (s.tick.dark = false → ∃ t, exec .darkSlotEnd s = .next t ∧ Frame s t [] [])

/-- A row slot of ACTIVE, in an open window of its bank, writes the codes of its row: the engine's up to the strip's
pointer, the fill's after it, counted for each strip that is filled. With no latch that could set, the candidates of the
row are dropped, and no other row's code or candidate changes. A latch read as set makes or counts a candidate; at its
last confirming read, or beyond 512 candidates, the fault is counted and listed once, and a SHORT is judged by the kill
policy: the row is killed, or STUCK_UNKILLED is set and with POLICY 2 at MAX rows the device enters DARK. ROW_KILL kills a
row of the face, opening its anode switch, and releases a killed one; PERSIST enters it in the persist list or takes it
out. A 17th kill or entry is NOT_NOW, releasing a row that is not killed BAD_PARAM. Of a kill and a release of a row in
one core cycle (log entry 22) the kill stands, the row keeps its places in the table and the list, and the release
completes BAD_PARAM in either order. The clauses are of slots with one latch; in which order several are read is the
model's choice (log entry 24). -/
def Obligations.Rows : Prop :=
  (∀ (y : Nat) (opens : List (Nat × Bool)) (progress : List Nat) (s : State), Acts s → y ≤ 639 → s.powerState = 0 → s.slotOf (y % 8) = true →
     y % 8 ∈ s.array.armed → SMap.Wf (fun _ => (0 : BitVec 11)) s.array.codes → (∀ e ∈ opens, s.openable y e = false) →
     ∃ t, exec (.rowSlot y [] opens progress) s = .next t
       ∧ (∀ x c, x < 2048 → c < 2 → t.code x y c = s.rowCode progress x y c s.subframe)
       ∧ (∀ x y' c, x < 2048 → c < 2 → y' ≠ y → t.code x y' c = s.code x y' c)
       ∧ t.array.cands = s.array.cands.filter (fun c => c.em.y != y) ∧ t.array.faults = s.array.faults ∧ t.array.cuts = s.array.cuts
       ∧ (∀ i, i < 8 → t.rd (PIPE_FILL_CNT.ROWS i) = (if s.wholeFill = false ∧ s.pointer i (progress.getD i 0) < 256 then
           min (2 ^ 32 - 1) (s.rd (PIPE_FILL_CNT.ROWS i) + 1) else s.rd (PIPE_FILL_CNT.ROWS i)))
       ∧ (s.subframe ≠ 0 → t.test = s.test)
       ∧ Frame s t [.array, .test, .arb] (PIPE_STATUS.FILL :: (List.range 8).map PIPE_FILL_CNT.ROWS))
  ∧ (∀ y shorts opens progress (s : State), Acts s → s.slotOf (y % 8) = false ∨ y % 8 ∉ s.array.armed →
     ∃ t, exec (.rowSlot y shorts opens progress) s = .next t ∧ Frame s t [] [])
  ∧ (∀ (x y : Nat) (cool short : Bool) (progress : List Nat) (s : State), Acts s → y ≤ 639 → s.powerState = 0 → s.slotOf (y % 8) = true →
     y % 8 ∈ s.array.armed → (short = false → s.openable y (x, cool) = true) →
     let e : Emitter := ⟨x, y, cool⟩
     let it (c : Cand) : Bool := c.em == e && c.short == short
     let known := s.array.cands.find? it
     let others := s.array.cands.filter fun c => c.em.y != y
     let max := clampN 1 16 (s.rd ARRAY_ROWKILL_CFG.MAX)
     let cnt := if short then ARRAY_FAULT_CNT.SHORT else ARRAY_FAULT_CNT.OPEN
     let listed := s.array.faults.any fun f => f.em == e && f.short == short
     let counts := match known with | some c => c.reads + 1 < s.confirmCount | none => 1 < s.confirmCount ∧ others.length < 512
     let row := Instr.rowSlot y (if short then [(x, cool)] else []) (if short then [] else [(x, cool)]) progress
     (counts → ∃ t, exec row s = .next t ∧ t.array.faults = s.array.faults ∧ t.array.killed = s.array.killed
       ∧ (∀ c, c ∈ t.array.cands ↔ c ∈ others ∨ c = ⟨e, short, (match known with | some k => k.reads | none => 0) + 1⟩)
       ∧ Frame s t [.array, .test, .arb] (PIPE_STATUS.FILL :: (List.range 8).map PIPE_FILL_CNT.ROWS))
     ∧ (¬counts → ∃ t, exec row s = .next t ∧ t.rd cnt = min 65535 (s.rd cnt + 1) ∧ t.rd ARRAY_STATUS.FAULT_NEW = 1
       ∧ t.array.faults = (if listed = true ∨ 1024 ≤ s.array.faults.length then s.array.faults
           else s.array.faults ++ [⟨e, short, BitVec.ofNat 32 s.tickCount⟩])
       ∧ (∀ c, c ∈ t.array.cands ↔ c ∈ others)
       ∧ (short = false ∨ s.isKilled y = true → t.array.killed = s.array.killed
         ∧ Frame s t [.array, .test, .arb] (cnt :: ARRAY_STATUS.FAULT_NEW :: ARRAY_STATUS.FAULT_OVF :: PIPE_STATUS.FILL :: (List.range 8).map PIPE_FILL_CNT.ROWS))
       ∧ (short = true → s.isKilled y = false → s.rd ARRAY_ROWKILL_CFG.POLICY ≠ 0 → s.array.killed.length < max →
         t.array.killed = s.array.killed ++ [(y, false)] ∧ t.rowOpen y = true ∧ t.rd ARRAY_STATUS.ROWKILL_EV = 1
         ∧ Frame s t [.array, .test, .arb] (cnt :: ARRAY_STATUS.ROWKILL_EV :: ARRAY_STATUS.FAULT_NEW :: ARRAY_STATUS.FAULT_OVF :: PIPE_STATUS.FILL ::
             (List.range 8).map PIPE_FILL_CNT.ROWS))
       ∧ (short = true → s.isKilled y = false → s.rd ARRAY_ROWKILL_CFG.POLICY = 0 ∨ (s.rd ARRAY_ROWKILL_CFG.POLICY = 1 ∧ max ≤ s.array.killed.length) →
         t.array.killed = s.array.killed ∧ t.rd ARRAY_STATUS.STUCK_UNKILLED = 1
         ∧ Frame s t [.array, .test, .arb] (cnt :: ARRAY_STATUS.STUCK_UNKILLED :: ARRAY_STATUS.FAULT_NEW :: ARRAY_STATUS.FAULT_OVF :: PIPE_STATUS.FILL ::
             (List.range 8).map PIPE_FILL_CNT.ROWS))
       ∧ (short = true → s.isKilled y = false → 2 ≤ s.rd ARRAY_ROWKILL_CFG.POLICY → max ≤ s.array.killed.length → s.safety = 0 → s.safe.release = [] →
         s.releaseNow = none → t.array.killed = s.array.killed ∧ t.rd ARRAY_STATUS.STUCK_UNKILLED = 1 ∧ t.rd SAFE_STATUS.STATE = 2
         ∧ t.rd SAFE_CAUSE.LATCHED = Nat.lor (s.rd SAFE_CAUSE.LATCHED) (2 ^ 13) ∧ t.pins.forceZero = true)))
  ∧ (∀ (x : Ctx) (y : Nat) (persist : Bool) (s : State), Open s → y ≤ 639 →
       (s.isKilled y = false → s.releasedNow y = none → s.array.killed.length < 16 → s.array.persist.length < 16 →
         ∃ t, exec (.rowKill x y 0 persist) s = .next t ∧ Answered s t x 0x00 [] ∧ t.isKilled y = true ∧ t.rowOpen y = true
           ∧ t.array.killed = s.array.killed ++ [(y, true)]
           ∧ (if persist then y ∈ t.array.persist else t.array.persist = s.array.persist) ∧ t.rd ARRAY_STATUS.ROWKILL_EV = 1
           ∧ { t.array with killed := s.array.killed, reopen := s.array.reopen, persist := s.array.persist, kills := s.array.kills } = s.array
           ∧ Frame s t (.array :: answerParts) (ARRAY_STATUS.ROWKILL_EV :: answerFlds))
       ∧ (s.isKilled y = true → s.releasedNow y = none → persist = false ∨ y ∈ s.array.persist ∨ s.array.persist.length < 16 →
         ∃ t, exec (.rowKill x y 0 persist) s = .next t ∧ Answered s t x 0x00 []
           ∧ t.array.persist = (if persist = true ∧ y ∉ s.array.persist then s.array.persist ++ [y] else s.array.persist)
           ∧ { t.array with persist := s.array.persist, kills := s.array.kills } = s.array ∧ Frame s t (.array :: answerParts) answerFlds)
       ∧ (∀ r, s.releasedNow y = some r →
         let list := match r.persist with | some l => putBack l.contains y s.array.persist | none => s.array.persist
         persist = false ∨ y ∈ list ∨ list.length < 16 → ∃ t, exec (.rowKill x y 0 persist) s = .next t ∧ Answered s t x 0x00 []
           ∧ t.isKilled y = true ∧ t.array.killed = putBack (fun k => r.before.contains k.1) (y, r.host) s.array.killed
           ∧ t.array.reopen = s.array.reopen.filter (· != y) ∧ t.array.persist = (if persist = true ∧ y ∉ list then list ++ [y] else list)
           ∧ (∀ e, r.h ≠ x.handle → s.handle r.h = some e → ∃ f, t.handle r.h = some f ∧ f.status = 0x13)
           ∧ { t.array with killed := s.array.killed, reopen := s.array.reopen, persist := s.array.persist, kills := s.array.kills, releases := s.array.releases } = s.array
           ∧ Frame s t (.array :: answerParts) answerFlds)
       ∧ (s.isKilled y = true → (y, s.cycle) ∉ s.array.kills → ∃ t, exec (.rowKill x y 1 persist) s = .next t ∧ Answered s t x 0x00 [] ∧ t.isKilled y = false
           ∧ t.array.killed = s.array.killed.filter (fun k => k.1 != y)
           ∧ t.rowOpen y = true ∧ (if persist then y ∉ t.array.persist else t.array.persist = s.array.persist)
           ∧ { t.array with killed := s.array.killed, reopen := s.array.reopen, persist := s.array.persist, kills := s.array.kills, releases := s.array.releases } = s.array
           ∧ Frame s t (.array :: answerParts) answerFlds)
       ∧ (s.releasedNow y = none → (s.isKilled y = false ∧ 16 ≤ s.array.killed.length) ∨ (persist = true ∧ y ∉ s.array.persist ∧ 16 ≤ s.array.persist.length) →
         ∃ t, exec (.rowKill x y 0 persist) s = .next t ∧ Answered s t x 0x17 [] ∧ Frame s t answerParts answerFlds)
       ∧ (s.isKilled y = false ∨ (y, s.cycle) ∈ s.array.kills → ∃ t, exec (.rowKill x y 1 persist) s = .next t ∧ Answered s t x 0x13 [] ∧ Frame s t answerParts answerFlds))
  ∧ ∀ (x : Ctx) (y op : Nat) (persist : Bool) (s : State), Open s → 639 < y ∨ 1 < op →
      ∃ t, exec (.rowKill x y op persist) s = .next t ∧ Answered s t x 0x13 [] ∧ Frame s t answerParts answerFlds

/-- An FSYNC edge that is not valid only restarts the count of consecutive valid ones, and after FSYNC_LOST not even that.
A valid one is measured; in LOCKED it moves to SEARCH beyond 1 ms and else judges the lock, in SEARCH the second begins
acquisition, in HOLDOVER one within a tenth of the frame returns to LOCKED, and after FSYNC_LOST the second goes to
SEARCH. A missed window moves LOCKED to HOLDOVER, and the third sets FSYNC_LOST. What an ignored edge does to the counts,
the window of a tenth of the frame and the two edges after FSYNC_LOST are the model's choice (log entry 21), and so is
which tick an edge is measured against (log entry 79). -/
def Obligations.FsyncTracks : Prop :=
  ∀ s : State, Live s → s.tick.src = 1 →
    let f := s.tick.fs
    let e : Int := (s.now : Int) - s.nearTick
    let fsFlds := [TICK_STATUS.FSYNC_STATE, TICK_STATUS.FSYNC_LOCK, TICK_FSYNC_ERR.ERR]
    (s.fsValid = false → ∃ t, exec .fsyncEdge s = .next t ∧ t.tick = { s.tick with fs := { f with valid := if f.st = 3 ∧ f.misses = 3 then f.valid else 0, lastEdge := some s.now } }
      ∧ Frame s t [.tick] [])
    ∧ (s.fsValid = true → ∃ t, exec .fsyncEdge s = .next t ∧ t.rd TICK_FSYNC_ERR.ERR = codeI 32 e ∧ t.tick.fs.lastEdge = some s.now
      ∧ t.tick.fs.interval = s.now - f.lastEdge.getD s.now ∧ t.tick.fs.err = e
      ∧ (f.st = 2 → 1000000 < e.natAbs → t.tick.fs.st = 1 ∧ t.rd TICK_STATUS.FSYNC_STATE = 1 ∧ t.rd TICK_STATUS.FSYNC_LOCK = 0)
      ∧ (f.st = 2 → e.natAbs ≤ 1000000 → t.tick.fs.st = 2
        ∧ (20000 < e.natAbs → t.rd TICK_STATUS.FSYNC_LOCK = 0 ∧ t.tick.fs.lockCnt = 0)
        ∧ (e.natAbs ≤ 5000 → t.tick.fs.lockCnt = f.lockCnt + 1 ∧ (4 ≤ f.lockCnt + 1 → t.rd TICK_STATUS.FSYNC_LOCK = 1)))
      ∧ (f.st = 1 → t.tick.fs.st = 1 ∧ t.tick.fs.valid = f.valid + 1 ∧ (1 ≤ f.valid → f.stretch = 0 → t.tick.fs.stretch = 1))
      ∧ (f.st = 3 → f.misses < 3 → e.natAbs * 10 ≤ s.tick.frameLen → t.tick.fs.st = 2 ∧ t.rd TICK_STATUS.FSYNC_STATE = 2)
      ∧ (f.st = 3 → f.misses = 3 → 1 ≤ f.valid → t.tick.fs.st = 1 ∧ t.rd TICK_STATUS.FSYNC_STATE = 1)
      ∧ { t.tick with fs := f } = s.tick ∧ Frame s t [.tick] fsFlds)
    ∧ (f.st = 2 → ∃ t, exec .fsyncWindowMiss s = .next t ∧ t.tick.fs.st = 3 ∧ t.tick.fs.misses = 1 ∧ t.rd TICK_STATUS.FSYNC_STATE = 3
      ∧ t.rd TICK_STATUS.FSYNC_LOCK = 0 ∧ Frame s t [.tick] fsFlds)
    ∧ (f.st = 3 → ∃ t, exec .fsyncWindowMiss s = .next t ∧ t.tick.fs.st = 3 ∧ t.tick.fs.misses = min 3 (f.misses + 1)
      ∧ (f.misses = 2 → t.rd TICK_STATUS.FSYNC_LOST = 1) ∧ Frame s t [.tick] [TICK_STATUS.FSYNC_LOST])

/-! ## Safety events -/

/-- Before SF runs, which it does from the end of boot stage 3 (log entry 85), an edge of a safe input changes only its
level. While it runs, channels that come to disagree start a disagreement and keep the agreed state; channels that come to
agree adopt it at that moment: a request of SB enters LIMP, one of DK DARK with every reference at 0, and one that ended
after more than half the discrepancy time counts as a near miss. While the SAFE_PATH test runs, the cause of a request
waits for its end, within 2 ms (R421), at a time that is free (log entry 49). A disagreement that has lasted T_D is
latched and enters LIMP, a second report of it has no effect. A near miss leaves the count after its ten seconds, and
FAULT_N read high while asserted is reported. The entries are those with no release in the same core cycle, which would
lose (log entry 22). -/
def Obligations.SafeInputs : Prop :=
  (∀ (dk b level : Bool) (s : State),
     let ch := (if dk then 2 else 0) + (if b then 1 else 0)
     let p := s.pair dk
     let q := if b then { p with b := level } else { p with a := level }
     let near := match p.since with | some t0 => !p.atStart && s.discTime dk < 2 * (s.now - t0) | none => false
     let cnt := if dk then SAFE_IN_NEAR.DK else SAFE_IN_NEAR.SB
     let shown := [⟨0x902C, 0, 32⟩, cnt, SAFE_STATUS.NEAR_MISS, SAFE_STATUS.IN_DEGRADED]
     s.testing = false →
     (s.safe.running = false → ∃ t, exec (.safeInputEdge ch level) s = .next t ∧ t.pair dk = q ∧ t.pair (!dk) = s.pair (!dk) ∧ Frame s t [.safe] [])
     ∧ (s.safe.running = true → q.a = q.b → ∃ t, exec (.safeInputEdge ch level) s = .next t ∧ (t.pair dk).agreed = p.agreed
       ∧ (t.pair dk).since = some (p.since.getD s.now) ∧ t.rd (if dk then SAFE_IN_STATUS.DK_DISAGREE else SAFE_IN_STATUS.SB_DISAGREE) = 1
       ∧ t.pair (!dk) = s.pair (!dk) ∧ Frame s t [.safe] [⟨0x902C, 0, 32⟩])
     ∧ (s.safe.running = true → q.a = true → q.b = false → ∃ t, exec (.safeInputEdge ch level) s = .next t ∧ (t.pair dk).agreed = some false
       ∧ (t.pair dk).since = none ∧ t.rd (if dk then SAFE_IN_STATUS.DK_REQ else SAFE_IN_STATUS.SB_REQ) = 0
       ∧ t.rd cnt = (if near then min (2 ^ cnt.w - 1) (s.rd cnt + 1) else s.rd cnt) ∧ (near = true → t.rd SAFE_STATUS.NEAR_MISS = 1)
       ∧ t.pair (!dk) = s.pair (!dk) ∧ Frame s t [.safe] shown)
     ∧ (s.safe.running = true → q.a = false → q.b = true → s.safety = 0 → s.safe.release = [] → p.agreed ≠ some true → s.on PIPE_FILL_STATUS.BEAM_VALID = true →
       s.releaseNow = none → s.safe.path = none →
       ∃ t, exec (.safeInputEdge ch level) s = .next t ∧ (t.pair dk).agreed = some true ∧ (t.pair dk).since = none
         ∧ t.rd (if dk then SAFE_IN_STATUS.DK_REQ else SAFE_IN_STATUS.SB_REQ) = 1
         ∧ Enters s t (if dk then 2 else 1) (if dk then 1 else 2) shown
         ∧ (dk = true → t.pins.forceZero = true ∧ t.pins.phLow = true ∧ ∀ k c, t.dacOut k c = 0) ∧ (dk = false → t.limpClamp = true))
     ∧ (∀ e m, s.safe.running = true → q.a = false → q.b = true → p.agreed ≠ some true → s.safe.path = some (e, m) →
       ∃ t, exec (.safeInputEdge ch level) s = .next t ∧ (t.pair dk).agreed = some true
         ∧ t.rd (if dk then SAFE_IN_STATUS.DK_REQ else SAFE_IN_STATUS.SB_REQ) = 1
         ∧ t.safe.path = some (e, Nat.lor m (if dk then 1 else 2)) ∧ (dk = true → t.pins.forceZero = true) ∧ Frame s t [.safe] shown))
  ∧ (∀ (dk b level : Bool) (s : State), s.testing = true →
       let u := s.testStep
       let p := u.pair dk
       let q := if b then { p with b := level } else { p with a := level }
       u.underTest [10] = true → u.safe.running = true → u.safe.path = none → q.a = false → q.b = true → p.agreed ≠ some true →
       ∃ t e, exec (.safeInputEdge ((if dk then 2 else 0) + (if b then 1 else 0)) level) s = .next t ∧ (t.pair dk).agreed = some true
         ∧ t.rd (if dk then SAFE_IN_STATUS.DK_REQ else SAFE_IN_STATUS.SB_REQ) = 1
         ∧ t.safe.path = some (e, if dk then 1 else 2) ∧ s.now ≤ e ∧ e ≤ s.now + 2000000 ∧ t.safety = u.safety ∧ (dk = true → t.pins.forceZero = true))
  ∧ (∀ (dk : Bool) (s : State), Live s →
       ((s.pair dk).since ≠ none → (s.pair dk).faulted = false → s.safety = 0 → s.safe.release = [] → s.releaseNow = none → s.on PIPE_FILL_STATUS.BEAM_VALID = true →
         ∃ t, exec (.safeInputFault dk) s = .next t ∧ t.pair dk = { s.pair dk with faulted := true } ∧ t.pair (!dk) = s.pair (!dk)
           ∧ Enters s t 1 (if dk then 4 else 8) [])
       ∧ ((s.pair dk).since = none ∨ (s.pair dk).faulted = true → ∃ t, exec (.safeInputFault dk) s = .next t ∧ Frame s t [] [])
       ∧ (∃ t, exec (.nearMissWindowExpiry dk) s = .next t ∧ t.pair dk = { s.pair dk with near := (s.pair dk).near.drop 1 }
         ∧ t.pair (!dk) = s.pair (!dk) ∧ Frame s t [.safe] [])
       ∧ (∃ t, exec .faultnMismatch s = .next t ∧ t.rd SAFE_STATUS.FAULTN_MISMATCH = (if s.faultN then 1 else s.rd SAFE_STATUS.FAULTN_MISMATCH)
         ∧ Frame s t [] [SAFE_STATUS.FAULTN_MISMATCH]))

/-- The supervisor watchdog enters LIMP, and DARK where no limp beam can be shown; the safety-core watchdog enters DARK
with the references at 0 and PH0 to PH3 low. Neither leaves a safe state that holds. The first is armed when boot
completes, the second in boot stage 6; before, they do nothing. A parity error of a covered register, upset now or before,
is counted once, with its address where none stands, and PARITY_ERR; one of a safety-class register enters LIMP as well. A
register that is not upset, an uncovered one and one already reported have no effect. -/
def Obligations.Watchdogs : Prop :=
  (∀ s : State, Acts s → s.safe.release = [] → s.releaseNow = none →
     (s.safety = 0 → s.boot.stage = 11 → s.on PIPE_FILL_STATUS.BEAM_VALID = true → ∃ t, exec .scWdog s = .next t ∧ t.limpClamp = true ∧ Enters s t 1 128 [])
     ∧ (s.safety = 0 → s.boot.stage = 11 → s.on PIPE_FILL_STATUS.BEAM_VALID = false → s.boot.limpJudged = true →
       ∃ t, exec .scWdog s = .next t ∧ t.pins.forceZero = true ∧ Enters s t 2 (128 + 16384) [])
     ∧ (6 ≤ s.boot.stage → s.safety = 0 → ∃ t, exec .sfWdog s = .next t ∧ t.pins.forceZero = true ∧ t.pins.phLow = true ∧ (∀ b c, t.dacOut b c = 0) ∧ Enters s t 2 256 [])
     ∧ (s.safety = 2 → ∀ i m, (i = .scWdog ∧ s.boot.stage = 11 ∧ m = 128) ∨ (i = .sfWdog ∧ 6 ≤ s.boot.stage ∧ m = 256) → ∃ t, exec i s = .next t
       ∧ t.rd SAFE_CAUSE.LATCHED = Nat.lor (s.rd SAFE_CAUSE.LATCHED) m ∧ Frame s t [] [SAFE_CAUSE.LATCHED])
     ∧ (s.boot.stage ≠ 11 → ∃ t, exec .scWdog s = .next t ∧ Frame s t [] [])
     ∧ (s.boot.stage < 6 → ∃ t, exec .sfWdog s = .next t ∧ Frame s t [] []))
  ∧ (∀ (a : Nat) (bad : Bool) (s : State), Acts s →
       let flds := [SYS_PARITY_CNT.COUNT, SYS_PARITY_ADDR.ADDR, SYS_PARITY_ADDR.SAFETY, SYS_STATUS.PARITY_ERR]
       let found (t : State) := t.rd SYS_PARITY_CNT.COUNT = min 65535 (s.rd SYS_PARITY_CNT.COUNT + 1) ∧ t.rd SYS_STATUS.PARITY_ERR = 1
         ∧ (a ≠ SYS_PARITY_CNT.COUNT.addr → a ∈ t.since.upset ∧ a ∈ t.since.reported)
         ∧ (s.rd SYS_STATUS.PARITY_ERR = 0 → t.rd SYS_PARITY_ADDR.ADDR = a ∧ t.on SYS_PARITY_ADDR.SAFETY = safetyClass a)
         ∧ (s.rd SYS_STATUS.PARITY_ERR = 1 → t.rd SYS_PARITY_ADDR.ADDR = s.rd SYS_PARITY_ADDR.ADDR)
       let wrong := a ∈ s.since.upset ∨ (bad = true ∧ parityCovered a = true)
       (wrong → a ∉ s.since.reported → a < 2 ^ 17 → safetyClass a = false → ∃ t, exec (.scrubCheck a bad) s = .next t ∧ found t
         ∧ (a ≠ SYS_PARITY_CNT.COUNT.addr → a ≠ SYS_PARITY_ADDR.ADDR.addr → a ≠ SYS_STATUS.PARITY_ERR.addr → t.reg a = s.reg a) ∧ t.safety = s.safety ∧ Frame s t [] flds)
       ∧ (wrong → a ∉ s.since.reported → a < 2 ^ 17 → safetyClass a = true → s.safety = 0 → s.safe.release = [] → s.releaseNow = none →
         s.on PIPE_FILL_STATUS.BEAM_VALID = true → ∃ t, exec (.scrubCheck a bad) s = .next t ∧ found t ∧ Enters s t 1 2048 flds)
       ∧ (¬ wrong ∨ a ∈ s.since.reported → ∃ t, exec (.scrubCheck a bad) s = .next t ∧ Frame s t [] []))

/-- At the effective deadline the copies are judged. With both complete, a cell differs beyond TOL, DIFF counts the cells
that differ, a frame with one is a discrepancy frame, and every cell takes the minimum. With one complete that one is the
guard, and with none the guard of the previous frame is held. A run within its limit changes no state; one that goes
beyond it, of discrepancies, of missing copies or of held frames, enters LIMP with its cause. Which frames set SINGLE_EV
and HOLD_EV, and when DIFF is written, is the model's choice (log entry 78). SF judges a record that is being loaded: one
whose CRC-32C matches and whose scale exists waits for a tick to be installed, which ends a deferral of R233 (log entry
53); any other is refused and the held beam stays. A change of ramp table, N_W or SPLIT recomputes the tables of the held
beam, and nothing else. -/
def Obligations.GuardAndLimpBeam : Prop :=
  (∀ (s : State), Live s → s.daelo.pastDeadline = false → s.tick.passWait = false → s.daelo.links.length = 2 →
     let a := copyPlane (s.linkSt 0).filling
     let b := copyPlane (s.linkSt 1).filling
     let runs (t : State) (d n h : Nat) := t.rd SAFE_GUARD_STAT.DISC_RUN = d ∧ t.rd SAFE_GUARD_STAT.SINGLE_RUN = n ∧ t.rd SAFE_GUARD_STAT.HOLD_RUN = h
     let flds := [SAFE_STATUS.GUARD_ACTIVE, SAFE_GUARD_DIFF.CELLS, SAFE_GUARD_STAT.LAST, SAFE_GUARD_STAT.DISC_RUN, SAFE_GUARD_STAT.SINGLE_RUN,
       SAFE_GUARD_STAT.HOLD_RUN, SAFE_STATUS.DISC_EV, SAFE_STATUS.SINGLE_EV, SAFE_STATUS.HOLD_EV, SAFE_GUARD_CNT.DISC, SAFE_GUARD_CNT.SINGLE]
     let done (t : State) := t.daelo.pastDeadline = true ∧ (∀ k, k < 2 → (t.linkSt k).copy = (s.linkSt k).filling ∧ (t.linkSt k).filling = [])
       ∧ t.safety = s.safety ∧ Frame s t [.safe, .links, .receivers, .test] flds
     let enters := s.safety = 0 ∧ s.safe.release = [] ∧ s.releaseNow = none ∧ s.on PIPE_FILL_STATUS.BEAM_VALID = true
     let limp (t : State) (mask : Nat) := t.daelo.pastDeadline = true ∧ t.rd SAFE_STATUS.STATE = 1 ∧ t.pins.fault = true ∧ t.pipe.fillAll = true
       ∧ t.rd SAFE_CAUSE.LATCHED = Nat.lor (s.rd SAFE_CAUSE.LATCHED) mask
     (∀ x y, a = some x → b = some y → planeDiff (s.rd SAFE_GUARD_LIM.TOL) x y = 0 → ∃ t, exec .guardDeadline s = .next t ∧ done t
       ∧ t.safe.guardNext = planeMin x y ∧ t.rd SAFE_GUARD_DIFF.CELLS = 0 ∧ t.rd SAFE_GUARD_STAT.LAST = 1 ∧ runs t 0 0 0 ∧ t.rd SAFE_STATUS.GUARD_ACTIVE = 1)
     ∧ (∀ x y, a = some x → b = some y → 0 < planeDiff (s.rd SAFE_GUARD_LIM.TOL) x y → s.rd SAFE_GUARD_STAT.DISC_RUN < s.discLimit →
       ∃ t, exec .guardDeadline s = .next t ∧ done t ∧ t.safe.guardNext = planeMin x y ∧ t.rd SAFE_GUARD_STAT.LAST = 2 ∧ t.rd SAFE_STATUS.DISC_EV = 1
         ∧ t.rd SAFE_GUARD_DIFF.CELLS = planeDiff (s.rd SAFE_GUARD_LIM.TOL) x y % 2 ^ SAFE_GUARD_DIFF.CELLS.w
         ∧ runs t (s.rd SAFE_GUARD_STAT.DISC_RUN + 1) 0 0)
     ∧ (∀ x k, (a = some x ∧ b = none ∧ k = 3) ∨ (a = none ∧ b = some x ∧ k = 4) → s.rd SAFE_GUARD_STAT.SINGLE_RUN < s.singleLimit →
       ∃ t, exec .guardDeadline s = .next t ∧ done t ∧ t.safe.guardNext = x ∧ t.rd SAFE_GUARD_STAT.LAST = k ∧ t.rd SAFE_STATUS.SINGLE_EV = 1
         ∧ runs t (s.rd SAFE_GUARD_STAT.DISC_RUN) (s.rd SAFE_GUARD_STAT.SINGLE_RUN + 1) 0)
     ∧ (a = none → b = none → s.on SAFE_STATUS.GUARD_ACTIVE = true → s.rd SAFE_GUARD_STAT.SINGLE_RUN < s.singleLimit → s.rd SAFE_GUARD_STAT.HOLD_RUN < s.holdLimit →
       ∃ t, exec .guardDeadline s = .next t ∧ done t ∧ t.safe.guardNext = s.safe.guardNext ∧ t.rd SAFE_GUARD_STAT.LAST = 5 ∧ t.rd SAFE_STATUS.HOLD_EV = 1
         ∧ runs t (s.rd SAFE_GUARD_STAT.DISC_RUN) (s.rd SAFE_GUARD_STAT.SINGLE_RUN + 1) (s.rd SAFE_GUARD_STAT.HOLD_RUN + 1))
     ∧ (a = none → b = none → s.on SAFE_STATUS.GUARD_ACTIVE = false → ∃ t, exec .guardDeadline s = .next t ∧ done t ∧ t.safe.guardNext = [])
     ∧ (∀ x y, a = some x → b = some y → 0 < planeDiff (s.rd SAFE_GUARD_LIM.TOL) x y → s.discLimit ≤ s.rd SAFE_GUARD_STAT.DISC_RUN → enters →
       ∃ t, exec .guardDeadline s = .next t ∧ limp t 16 ∧ t.safe.guardNext = planeMin x y ∧ t.rd SAFE_GUARD_STAT.LAST = 2 ∧ t.rd SAFE_STATUS.DISC_EV = 1
         ∧ runs t (min 15 (s.rd SAFE_GUARD_STAT.DISC_RUN + 1)) 0 0)
     ∧ (∀ x k, (a = some x ∧ b = none ∧ k = 3) ∨ (a = none ∧ b = some x ∧ k = 4) → s.singleLimit ≤ s.rd SAFE_GUARD_STAT.SINGLE_RUN → enters →
       ∃ t, exec .guardDeadline s = .next t ∧ limp t 32 ∧ t.safe.guardNext = x ∧ t.rd SAFE_GUARD_STAT.LAST = k ∧ t.rd SAFE_STATUS.SINGLE_EV = 1
         ∧ runs t (s.rd SAFE_GUARD_STAT.DISC_RUN) (min 255 (s.rd SAFE_GUARD_STAT.SINGLE_RUN + 1)) 0)
     ∧ (a = none → b = none → s.on SAFE_STATUS.GUARD_ACTIVE = true →
       s.singleLimit ≤ s.rd SAFE_GUARD_STAT.SINGLE_RUN ∨ s.holdLimit ≤ s.rd SAFE_GUARD_STAT.HOLD_RUN → enters →
       ∃ t, exec .guardDeadline s = .next t ∧ limp t ((if s.singleLimit ≤ s.rd SAFE_GUARD_STAT.SINGLE_RUN then 32 else 0)
           + if s.holdLimit ≤ s.rd SAFE_GUARD_STAT.HOLD_RUN then 64 else 0)
         ∧ t.safe.guardNext = s.safe.guardNext ∧ t.rd SAFE_GUARD_STAT.LAST = 5 ∧ t.rd SAFE_STATUS.HOLD_EV = 1
         ∧ runs t (s.rd SAFE_GUARD_STAT.DISC_RUN) (min 255 (s.rd SAFE_GUARD_STAT.SINGLE_RUN + 1)) (min 15 (s.rd SAFE_GUARD_STAT.HOLD_RUN + 1))))
  ∧ (∀ s : State, Live s →
       let ecc := [CELLAR_ECC_CNT.CORR, CELLAR_ECC_CNT.FAIL, CELLAR_STATUS.ECC_CORR, CELLAR_STATUS.ECC_FAIL, CELLAR_ECC_ADDR.ADDR]
       (∀ r, s.safe.limpLoading = true → s.limpRead.1 = some r → crc32c r = s.rd SAFE_LIMP_CRC.CRC → (s.limpScale (limpTables r s.pipe.disp)).isSome = true →
         ∃ t, exec .limpRecordAccept s = .next t ∧ t.safe = { s.safe with limpLoading := false, limpNext := some r } ∧ Frame s t [.safe] ecc)
       ∧ (s.safe.limpLoading = true → s.on PIPE_FILL_STATUS.BEAM_VALID = true →
         (s.limpRead.1 = none ∨ ∃ r, s.limpRead.1 = some r ∧ (crc32c r ≠ s.rd SAFE_LIMP_CRC.CRC ∨ s.limpScale (limpTables r s.pipe.disp) = none)) →
         ∃ t, exec .limpRecordAccept s = .next t ∧ t.safe = { s.safe with limpLoading := false } ∧ t.boot = { s.boot with limpJudged := true } ∧ Frame s t [.safe, .boot] ecc)
       ∧ (∀ r m, s.safe.limp = some r → s.safe.limpBasis ≠ ⟨s.pipe.disp.ramp, s.pipe.disp.nW, s.pipe.disp.split⟩ →
         s.limpScale (limpTables r s.pipe.disp) = some m → ∃ t, exec .limpTableRecompute s = .next t ∧ t.pipe = { s.pipe with limpW := limpTables r s.pipe.disp }
           ∧ t.rd PIPE_FILL_STATUS.LIMP_SCALE = m % 2 ^ 16 ∧ t.safe = { s.safe with limpBasis := ⟨s.pipe.disp.ramp, s.pipe.disp.nW, s.pipe.disp.split⟩ }
           ∧ Frame s t [.pipe, .safe] [PIPE_FILL_STATUS.LIMP_SCALE])
       ∧ (s.safe.limp = none → ∃ t, exec .limpTableRecompute s = .next t ∧ Frame s t [] []))

/-! ## The link -/

/-- What a block in sequence does on a single-lane link: an IDLE block nothing more; a GUARD segment with the tag of its
frame joins the filling copy, another is counted; a VIDEO block of a stored layer fills its buffer, with its bytes in the
plane's place of the layer store, Y or T, until an EOF of every plane makes it READY, or EMPTY where the fill is damaged;
for a buffer in use it is dropped, and the first row of R132 that it meets, by the model's choice the only one (log entry
30), discards it; an entry of a CUT list in NORMAL sets or clears its window, also where the SPI port has updated it in
the same core cycle (log entry 22); a first packet fragment begins a packet, discarding one in assembly, the later ones
join it, the last hands it to the command engine, and one that is malformed, stray or too long is counted. A block beyond
the expected SEQ loses those before it, damages the fills and discards the packet in assembly; one behind it is discarded.
On an UP link the first block of a pair waits for its partner. -/
def Obligations.BlocksInSequence : Prop :=
  (∀ (n seq : Nat) (p : List Byte) (s : State), InSeq s n seq →
     let k := n / 2
     let q := pad60 p
     (∃ t, exec (.idleBlock n seq p) s = .next t ∧ Took s t n seq ∧ Frame s t [.lanes, .links] [])
     ∧ (u16 q 1 < 1463 → u8 q 0 = (s.tickCount + if s.daelo.pastDeadline then 2 else 1) % 256 →
       ∃ t, exec (.guardBlock n seq p) s = .next t ∧ Took s t n seq
         ∧ (t.linkSt k).filling = (u16 q 1, q.drop 4) :: (s.linkSt k).filling.filter (fun e => e.1 != u16 q 1) ∧ Frame s t [.lanes, .links] [])
     ∧ (u16 q 1 < 1463 → u8 q 0 ≠ (s.tickCount + if s.daelo.pastDeadline then 2 else 1) % 256 →
       let late := s.daelo.pastDeadline && u8 q 0 == (s.tickCount + 1) % 256
       let cnt := if late then LINK_GRD.LATE k else LINK_GRD.TAG k
       ∃ t, exec (.guardBlock n seq p) s = .next t ∧ Took s t n seq ∧ (t.linkSt k).filling = (s.linkSt k).filling
         ∧ t.rd cnt = min 65535 (s.rd cnt + 1) ∧ t.rd LINK_STATUS.GUARD_DISCARD = 1 ∧ Frame s t [.lanes, .links] [cnt, LINK_STATUS.GUARD_DISCARD])
     ∧ (let m := u8 q 0 % 8
        let b := u8 q 0 / 32 % 2
        let plane := u8 q 0 / 8 % 4
        let eof := u8 q 0 / 64 % 2 == 1
        let sof := u8 q 0 / 128 % 2 == 1
        let c := s.actCfg m
        let r := s.bufRec m b
        let goes := s.buf m b == bufFilling && !sof
        let damaged := if sof then false else if goes then r.damaged else true
        let eofY := (goes && r.eofPrimary) || (eof && plane == 0)
        let eofT := (goes && r.eofT) || (eof && plane == 1)
        let full := eof && eofY && (c.kind != 0 || eofT)
        let at' := layerStore + c.base b + (if plane = 0 then u16 q 1 * c.yPitch else c.tOff + u16 q 1 * c.tPitch) + u16 q 3
        let fault := videoFault c m k plane (u16 q 1) (u16 q 3) (u8 q 5)
        s.layer.bufs.length = 16 →
        (c.stored = true → fault = none → s.buf m b ≠ bufInUse → at' + u8 q 5 ≤ layerStore + 0x600000 →
          ∃ t, exec (.videoBlock n seq p) s = .next t ∧ Took s t n seq
            ∧ t.buf m b = (if full = true then (if damaged = true then bufEmpty else bufReady) else bufFilling)
            ∧ (full = true → damaged = true → t.rd (LAYER_STATUS.DAMAGED m) = 1)
            ∧ (full = false → (t.bufRec m b).damaged = damaged ∧ (t.bufRec m b).eofPrimary = eofY ∧ (t.bufRec m b).eofT = eofT)
            ∧ t.sramBytes at' (u8 q 5) = (q.drop 6).take (u8 q 5) ∧ (∀ a, a < at' ∨ at' + u8 q 5 ≤ a → t.sramByte a = s.sramByte a)
            ∧ Frame s t ([.lanes, .links, .layer, .mem, .arb] ++ s.scanParts) (bufFld m b :: s.scanShown ++ if full && damaged then [LAYER_STATUS.DAMAGED m] else []))
        ∧ (c.stored = true → fault = none → s.buf m b = bufInUse → ∃ t, exec (.videoBlock n seq p) s = .next t ∧ Took s t n seq
            ∧ t.rd (LAYER_STATUS.LOCKED_DROP m) = 1 ∧ t.buf m b = bufInUse ∧ (t.bufRec m b).dropOnRelease = true
            ∧ Frame s t [.lanes, .links, .layer] [LAYER_STATUS.LOCKED_DROP m])
        ∧ (∀ f, c.stored = true → fault = some f → ∃ t, exec (.videoBlock n seq p) s = .next t ∧ Took s t n seq ∧ t.rd f = 1
            ∧ (s.buf m b = bufFilling → (t.bufRec m b).damaged = true) ∧ (s.buf m b ≠ bufFilling → t.layer = s.layer)
            ∧ Frame s t [.lanes, .links, .layer] [f])
        ∧ (c.stored = false → ∃ t, exec (.videoBlock n seq p) s = .next t ∧ Took s t n seq ∧ t.rd (LAYER_STATUS.BAD_BLOCK m) = 1
            ∧ Frame s t [.lanes, .links] [LAYER_STATUS.BAD_BLOCK m]))
     ∧ (let w := u8 q 2 % 16
        let y0 := u16 q 3 % 1024
        let y1 := u16 q 5 % 1024
        let g0 := u8 q 7 % 128
        let g1 := u8 q 8 % 128
        let cut (z : Cut) (fs : List Fld) := ∃ t, exec (.controlBlock n seq p) s = .next t ∧ Took s t n seq ∧ t.array.cuts = s.array.cuts.set w z
         ∧ t.rd (ARRAY_CUT_COLS.EN w) = (if z.en then 1 else 0) ∧ Frame s t [.lanes, .links, .array] fs
        let regs := [ARRAY_CUT_ROWS.Y0 w, ARRAY_CUT_ROWS.Y1 w, ARRAY_CUT_COLS.G0 w, ARRAY_CUT_COLS.G1 w, ARRAY_CUT_COLS.EN w]
        u8 q 0 = 2 → u8 q 1 = 1 →
        (u8 q 2 / 128 % 2 = 1 → cutEmpty y0 y1 g0 g1 = false → s.safety = 0 → s.cutTie w = none → cut ⟨⟨min y0 639, min y1 639, g0, g1⟩, true⟩ regs)
        ∧ (∀ e, u8 q 2 / 128 % 2 = 1 → cutEmpty y0 y1 g0 g1 = false → s.safety = 0 → s.cutTie w = some e →
          cut (e.ops.foldl (fun u o => o.apply u) ((CutOp.set ⟨y0, y1, g0, g1⟩).apply e.base)).cut regs)
        ∧ (u8 q 2 / 128 % 2 = 0 → s.array.cuts.length = 16 → s.cutTie w = none → cut { s.array.cuts.getD w ⟨⟨0, 0, 0, 0⟩, false⟩ with en := false } regs)
        ∧ (u8 q 2 / 128 % 2 = 1 → cutEmpty y0 y1 g0 g1 = true → ∃ t, exec (.controlBlock n seq p) s = .next t ∧ Took s t n seq ∧ t.array = s.array
          ∧ t.rd (LINK_PKT.CUT_BAD k) = min 65535 (s.rd (LINK_PKT.CUT_BAD k) + 1) ∧ t.rd LINK_STATUS.CUT_BAD = 1
          ∧ s.daelo.rl.ctl ++ [.notice (leBytes 1 5 ++ leBytes 1 k ++ leBytes 1 w)] <+: t.daelo.rl.ctl
          ∧ Frame s t [.lanes, .links] [LINK_PKT.CUT_BAD k, LINK_STATUS.CUT_BAD]))
     ∧ (let fl := u8 q 1
        let cnt := u8 q 2
        let data := (q.drop 3).take cnt
        let asm := (s.linkSt k).asm
        let fine := 1 ≤ cnt ∧ cnt ≤ 57
        let gone (t : State) := t.rd (LINK_PKT.PKT_DROP k) = min 65535 (s.rd (LINK_PKT.PKT_DROP k) + 1)
        let dropped (t : State) := gone t ∧ t.rd LINK_STATUS.PKT_DROP = 1
        let took (r : Option (List Byte)) (t : State) := exec (.controlBlock n seq p) s = .next t ∧ Took s t n seq ∧ (t.linkSt k).asm = r
        u8 q 0 = 1 →
        (fl = 1 → fine → asm = none → ∃ t, took (some data) t ∧ Frame s t [.lanes, .links] [])
        ∧ (∀ a, fl = 1 → fine → asm = some a → ∃ t, took (some data) t ∧ dropped t ∧ Frame s t [.lanes, .links] [LINK_PKT.PKT_DROP k, LINK_STATUS.PKT_DROP])
        ∧ (∀ a, fl = 0 → fine → asm = some a → (a ++ data).length ≤ 2088 → ∃ t, took (some (a ++ data)) t ∧ Frame s t [.lanes, .links] [])
        ∧ (∀ a, fl = 0 ∨ fl = 2 → fine → asm = some a → 2088 < (a ++ data).length →
          ∃ t, took none t ∧ dropped t ∧ Frame s t [.lanes, .links] [LINK_PKT.PKT_DROP k, LINK_STATUS.PKT_DROP])
        ∧ (fl = 0 ∨ fl = 2 → fine → asm = none → ∃ t, took none t ∧ gone t ∧ Frame s t [.lanes, .links] [LINK_PKT.PKT_DROP k])
        ∧ (¬fine ∨ 4 ≤ fl → ∃ t, took none t ∧ t.rd (LINK_DISC.DISCARD k) = min 65535 (s.rd (LINK_DISC.DISCARD k) + 1) ∧ (asm ≠ none → dropped t)
          ∧ Frame s t [.lanes, .links] (LINK_DISC.DISCARD k :: if asm.isSome then [LINK_PKT.PKT_DROP k, LINK_STATUS.PKT_DROP] else []))
        ∧ (∀ a, (fl = 2 ∧ asm = some a) ∨ (fl = 3 ∧ asm = none ∧ a = []) → fine → (a ++ data).length ≤ 2088 →
          ∃ t u, exec (.controlBlock n seq p) s = .next t ∧ Took s u n seq ∧ (u.linkSt k).asm = none ∧ Frame s u [.lanes, .links] []
            ∧ Frame (u.packetIn (if k = 0 then .linkA else .linkB) 0 (a ++ data)) t [] [])))
  ∧ ((∀ (n seq : Nat) (p : List Byte) (s : State),
       let k := n / 2
       let d := (seq % 256 + 256 - (s.linkSt k).expect) % 256
       InSeq { s with daelo := { s.daelo with links := s.daelo.links.modify k fun l => { l with adopt := true } } } n seq →
       (s.linkSt k).adopt = false →
       (1 ≤ d → d < 128 → ∃ t, exec (.idleBlock n seq p) s = .next t ∧ Took s t n seq ∧ t.rd (LINK_LOST.COUNT k) = min (2 ^ 32 - 1) (s.rd (LINK_LOST.COUNT k) + d)
         ∧ (t.linkSt k).asm = none
         ∧ ((s.linkSt k).asm ≠ none → t.rd (LINK_PKT.PKT_DROP k) = min 65535 (s.rd (LINK_PKT.PKT_DROP k) + 1) ∧ t.rd LINK_STATUS.PKT_DROP = 1)
         ∧ (∀ m b, m < 8 → b < 2 → s.layer.bufs.length = 16 → (s.actCfg m).link = k → s.buf m b = bufFilling → (t.bufRec m b).damaged = true)
         ∧ Frame s t [.lanes, .links, .layer] (LINK_LOST.COUNT k :: if (s.linkSt k).asm.isSome then [LINK_PKT.PKT_DROP k, LINK_STATUS.PKT_DROP] else []))
       ∧ (128 ≤ d → ∃ t, exec (.idleBlock n seq p) s = .next t ∧ t.daelo.links = s.daelo.links
         ∧ t.rd (LINK_DISC.DISCARD k) = min 65535 (s.rd (LINK_DISC.DISCARD k) + 1) ∧ Frame s t [.lanes] [LINK_DISC.DISCARD k]))
     ∧ ∀ (n seq : Nat) (p : List Byte) (s : State),
       let k := n / 2
       Acts s → s.daelo.rxOn = true → s.daelo.inbox = [] → n < 4 → s.daelo.links.length = 2 → s.lane n = laneData → (s.laneSt n).exits ≠ 1 → (s.linkSt k).mode = 0 →
       s.link k = linkUp → (s.linkSt k).waiting = none → (s.linkSt k).late = [] →
       (seq % 2 = n % 2 → ∃ t, exec (.idleBlock n seq p) s = .next t ∧ (t.linkSt k).waiting = some ⟨n, 0x9C, seq % 256, pad60 p⟩
         ∧ (t.linkSt k).expect = (s.linkSt k).expect ∧ Frame s t [.lanes, .links] [])
       ∧ (seq % 2 ≠ n % 2 → ∃ t, exec (.idleBlock n seq p) s = .next t ∧ t.rd (LINK_DISC.DISCARD k) = min 65535 (s.rd (LINK_DISC.DISCARD k) + 1)
         ∧ Frame s t [.lanes] [LINK_DISC.DISCARD k]))

/-- What moves a lane: a comma run from SEARCH to HUNT, a timeout back; the sixteenth valid block to DATA, or to TRAIN
where all were PATTERN blocks at an untrained rate; a PATTERN block of a host that is done to DATA once DONE has been
sent; loss of signal, invalid slots and expiries to SEARCH, counted and reported where the lane was in DATA or IDLE, with
the packet in assembly lost, and an UP link LAME where its other lane is in DATA. An EI_ENTER that waits on a lane that so
leaves DATA is refused and counted. TRAIN blocks in sequence, byte 0 of whose payload gives the subtype: one of a reserved
subtype, 0 or above 7, is discarded and counted; PATTERN is ignored; RATE_REQ is acknowledged or refused with its reason,
a RATE_GO of the acknowledged rate switches its lane's receiver at once, RESTRIPE changes the mode, EI_ENTER lets the lane
idle, from which EI_EXIT returns it, and RETRAIN sends it to TRAIN. A rate step that runs out of time fails: its lanes
return to SEARCH at the old rate. A block that waited too long for its partner is delivered alone. What the trainer
measures and how it numbers its requests, the order of the reasons of a refusal, the causes that R204 does not give, what
leaves IDLE and what becomes of a block that waits are the model's choices (log entries 73 to 76). -/
def Obligations.LanesAndTraining : Prop :=
  (∀ (n seq : Nat) (p : List Byte) (s : State), Acts s → s.daelo.rxOn = true → s.daelo.inbox = [] → n < 4 → s.daelo.lanes.length = 4 → s.daelo.links.length = 2 →
     (s.linkSt (n / 2)).waiting = none →
     let k := n / 2
     let q := pad60 p
     let ei := if (s.laneSt n).eiWait.isSome then [LINK_DISC.DISCARD k] else []
     let out (t : State) (cause : Nat) := t.lane n = laneSearch ∧ t.rd (LINK_CV.LOCK n) = min 65535 (s.rd (LINK_CV.LOCK n) + 1)
       ∧ t.rd LINK_STATUS.LANE_LOSS = 1 ∧ t.daelo.rl.loss = s.daelo.rl.loss ++ [leBytes 1 1 ++ leBytes 1 n ++ leBytes 1 cause
           ++ leBytes 1 (t.link k) ++ leBytes 4 s.tickCount]
     let up := [LINK_LANE_STATE.STATE n, linkFld k, LINK_STATUS.LAME, LINK_STATUS.MARGIN_LOW] ++ ei
     let taps := [LINK_TAPS.PRE n, LINK_TAPS.MAIN n, LINK_TAPS.POST n, LINK_TAPS.REQ_ID n]
     (s.lane n = laneSearch → ∃ t, exec (.commaRun n) s = .next t ∧ t.lane n = laneHunt ∧ (t.laneSt n).hunt = 0
       ∧ Frame s t [.lanes] (LINK_LANE_STATE.STATE n :: ei))
     ∧ (s.lane n = laneHunt → ∃ t, exec (.huntTimeout n) s = .next t ∧ t.lane n = laneSearch ∧ Frame s t [.lanes] (LINK_LANE_STATE.STATE n :: ei))
     ∧ (s.lane n = laneHunt → (s.laneSt n).hunt < 15 → u8 p 0 = 1 → ∃ t, exec (.pattern n seq p) s = .next t ∧ t.lane n = laneHunt
       ∧ (t.laneSt n).hunt = (s.laneSt n).hunt + 1 ∧ t.rd (LINK_TAPS.PRE n) = u8 q 2 % 32 ∧ t.rd (LINK_TAPS.MAIN n) = u8 q 3 % 32
       ∧ t.rd (LINK_TAPS.POST n) = u8 q 4 % 32 ∧ t.rd (LINK_TAPS.REQ_ID n) = u8 q 1 ∧ Frame s t [.lanes] taps)
     ∧ (s.lane n = laneHunt → 15 ≤ (s.laneSt n).hunt → (s.laneSt n).huntPat = true → s.on (LINK_LANE_STATE.TRAINED n) = false → u8 p 0 = 1 →
       ∃ t, exec (.pattern n seq p) s = .next t ∧ t.lane n = laneTrain ∧ (t.laneSt n).training ≠ none
         ∧ Frame s t [.lanes, .links] (taps ++ up))
     ∧ (s.lane n = laneHunt → 15 ≤ (s.laneSt n).hunt → ∃ t, exec (.idleBlock n seq p) s = .next t ∧ t.lane n = laneData
       ∧ s.daelo.rl.ctl ++ [.notice (leBytes 1 0x02 ++ leBytes 1 n ++ leBytes 1 (s.rd (LINK_LANE_STATE.RATE n)))] <+: t.daelo.rl.ctl
       ∧ Frame s t [.lanes, .links] up)
     ∧ (∀ tr, s.lane n = laneTrain → (s.laneSt n).training = some tr → tr.done = true → tr.sent = true → u8 q 5 % 2 = 1 → u8 p 0 = 1 →
       ∃ t, exec (.pattern n seq p) s = .next t
       ∧ t.lane n = laneData ∧ (t.laneSt n).training = none ∧ Frame s t [.lanes, .links] (taps ++ up))
     ∧ (∀ tr, s.lane n = laneTrain → (s.laneSt n).training = some tr → tr.done = false → tr.echoed = false → u8 q 1 ≠ tr.reqId → u8 p 0 = 1 →
       ∃ t, exec (.pattern n seq p) s = .next t ∧ t.lane n = laneTrain ∧ Frame s t [.lanes] taps)
     ∧ (∀ tr, s.lane n = laneTrain → (s.laneSt n).training = some tr → tr.done = false → 0 < tr.allErrs → tr.clean < 256 → (s.linkSt k).step = none →
       ∃ t, exec (.trainTimeout n) s = .next t ∧ t.lane n = laneSearch ∧ t.rd LINK_STATUS.RATE_FAIL = 1
         ∧ Frame s t [.lanes, .links] (LINK_STATUS.RATE_FAIL :: lossFlds n))
     ∧ (∀ tr, (s.laneSt n).training = some tr → tr.echoed = false → s.daelo.rl.running = true → ∃ t, exec (.tapReqRepeat n) s = .next t
       ∧ RlTrain.tapReq ∈ t.daelo.rl.train ∧ (∀ i ∈ s.daelo.rl.train, i ∈ t.daelo.rl.train) ∧ Frame s t [.returns] [])
     ∧ (∀ sq, s.lane n = laneData → ∃ t, exec (.lossOfSignal n sq) s = .next t ∧ out t (if sq = true then 3 else 1) ∧ (t.linkSt k).asm = none
       ∧ ((s.linkSt k).mode = 0 → s.link k = linkUp → s.lane (4 * k + 1 - n) = laneData →
         t.link k = linkLame ∧ t.rd LINK_STATUS.LAME = 1 ∧ (t.linkSt k).late = [])
       ∧ Frame s t lossParts (lossFlds n))
     ∧ (∀ sq, s.lane n = laneHunt ∨ s.lane n = laneTrain → ∃ t, exec (.lossOfSignal n sq) s = .next t ∧ t.lane n = laneSearch
       ∧ t.rd (LINK_CV.LOCK n) = s.rd (LINK_CV.LOCK n) ∧ t.daelo.rl.loss = s.daelo.rl.loss ∧ Frame s t [.lanes, .links] (lossFlds n))
     ∧ (∀ groups, let v := slotView (s.laneSt n).rd groups
       s.lane n = laneData → v.defect = true → (s.laneSt n).exits ≠ 1 → ((true :: (s.laneSt n).slots).take 16 |>.filter id).length < 4 →
       ∃ t, exec (.invalidBlock n groups) s = .next t ∧ t.lane n = laneData ∧ t.rd (LINK_CV.CV n) = min 65535 (s.rd (LINK_CV.CV n) + v.bad)
         ∧ t.rd (LINK_BLK.HDR n) = min 65535 (s.rd (LINK_BLK.HDR n) + (if v.hdr = true then 1 else 0)) ∧ (t.laneSt n).rd = v.rd ∧ (t.laneSt n).slots = (true :: (s.laneSt n).slots).take 16
         ∧ Frame s t [.lanes, .links, .layer] [LINK_CV.CV n, LINK_BLK.HDR n, LINK_BLK.CRC n, LINK_STATUS.PKT_DROP, LINK_PKT.PKT_DROP k])
     ∧ (∀ groups, s.lane n = laneData → (slotView (s.laneSt n).rd groups).defect = true → 4 ≤ ((true :: (s.laneSt n).slots).take 16 |>.filter id).length →
       ∃ t, exec (.invalidBlock n groups) s = .next t ∧ out t 0 ∧ Frame s t lossParts ([LINK_CV.CV n, LINK_BLK.HDR n, LINK_BLK.CRC n] ++ lossFlds n))
     ∧ (s.lane n = laneIdle → ∃ t, exec (.idleRetentionExpiry n) s = .next t ∧ out t 4 ∧ Frame s t lossParts (lossFlds n))
     ∧ (s.lane n = laneIdle → ∃ t c, exec (.eiExitTimeout n) s = .next t ∧ out t c ∧ Frame s t lossParts (lossFlds n)))
  ∧ ((∀ (n seq : Nat) (p : List Byte) (s : State), InSeq s n seq →
       let k := n / 2
       let r := u8 (pad60 p) 1
       let lane := [LINK_LANE_STATE.STATE n, LINK_LANE_STATE.RATE n, LINK_LANE_STATE.TRAINED n, linkFld k, LINK_STATUS.LAME]
       (∀ i, i ∈ [Instr.pattern n seq p, .rateReq n seq p, .rateGo n seq p, .restripe n seq p, .eiEnter n seq p, .eiExit n seq p, .retrain n seq p] →
         u8 p 0 = 0 ∨ 7 < u8 p 0 → ∃ t, exec i s = .next t ∧ Took s t n seq
         ∧ t.rd (LINK_DISC.DISCARD k) = min 65535 (s.rd (LINK_DISC.DISCARD k) + 1) ∧ Frame s t [.lanes, .links] [LINK_DISC.DISCARD k])
       ∧ (u8 p 0 = 1 → ∃ t, exec (.pattern n seq p) s = .next t ∧ t.daelo.links = s.daelo.links ∧ Frame s t [.lanes] [])
       ∧ (u8 p 0 = 2 → (∀ e, s.rateReason k r = some e → ∃ t, exec (.rateReq n seq p) s = .next t ∧ Took s t n seq ∧ (t.linkSt k).ack = none
         ∧ t.daelo.rl.train = s.daelo.rl.train ++ [.bytes (leBytes 1 0x13 ++ leBytes 1 k ++ leBytes 1 r ++ leBytes 1 e)]
         ∧ Frame s t [.lanes, .links, .returns] [])
         ∧ (s.rateReason k r = none → ∃ t, exec (.rateReq n seq p) s = .next t ∧ Took s t n seq ∧ (t.linkSt k).ack = some r
         ∧ t.daelo.rl.train = s.daelo.rl.train ++ [.bytes (leBytes 1 0x12 ++ leBytes 1 k ++ leBytes 1 r)] ∧ Frame s t [.lanes, .links, .returns] []))
       ∧ (u8 p 0 = 3 → (s.linkSt k).ack = some r → r < 4 → (s.linkSt k).waiting = none → ∃ t, exec (.rateGo n seq p) s = .next t ∧ t.lane n = laneSearch ∧ t.rd (LINK_LANE_STATE.RATE n) = r
         ∧ (t.linkSt k).ack = none ∧ ((s.linkSt k).step = none → (t.linkSt k).step = some (s.rd (LINK_LANE_STATE.RATE n), r))
         ∧ Frame s t [.lanes, .links] lane)
       ∧ (u8 p 0 = 3 → (s.linkSt k).ack ≠ some r → (s.linkSt k).step = none → ∃ t, exec (.rateGo n seq p) s = .next t ∧ Took s t n seq ∧ t.lane n = laneData
         ∧ Frame s t [.lanes, .links] [])
       ∧ (u8 p 0 = 4 → s.restripeBad k r = false → r < 3 → ∃ t, exec (.restripe n seq p) s = .next t ∧ (t.linkSt k).mode = r ∧ t.rd LINK_STATUS.MODE_EV = 1
         ∧ Frame s t [.lanes, .links] [linkFld k, LINK_STATUS.MODE_EV, LINK_STATUS.LAME])
       ∧ (u8 p 0 = 4 → s.restripeBad k r = true → ∃ t, exec (.restripe n seq p) s = .next t ∧ Took s t n seq ∧ (t.linkSt k).mode = (s.linkSt k).mode
         ∧ t.rd LINK_STATUS.RESTRIPE_REJ = 1 ∧ Frame s t [.lanes, .links] [LINK_STATUS.RESTRIPE_REJ])
       ∧ (u8 p 0 = 5 → ∃ t, exec (.eiEnter n seq p) s = .next t ∧ t.lane n = laneIdle ∧ t.rd (LINK_CV.LOCK n) = s.rd (LINK_CV.LOCK n)
         ∧ Frame s t [.lanes, .links] lane)
       ∧ (u8 p 0 = 7 → (s.linkSt k).waiting = none → ∃ t, exec (.retrain n seq p) s = .next t ∧ t.lane n = laneTrain ∧ (t.laneSt n).training ≠ none ∧ Frame s t [.lanes, .links] lane))
     ∧ ∀ (n seq : Nat) (p : List Byte) (s : State), Acts s → s.daelo.rxOn = true → s.daelo.inbox = [] → n < 4 → s.daelo.lanes.length = 4 → s.lane n = laneIdle → u8 p 0 = 6 →
       ∃ t, exec (.eiExit n seq p) s = .next t ∧ t.lane n = laneData ∧ (t.laneSt n).exits = 1 ∧ (t.laneSt n).training = none
         ∧ (s.on (LINK_LANE_STATE.MARGIN_LOW n) = true → t.rd LINK_STATUS.MARGIN_LOW = 1)
         ∧ Frame s t [.lanes, .links] ([LINK_LANE_STATE.STATE n, linkFld (n / 2), LINK_STATUS.LAME, LINK_STATUS.MARGIN_LOW]
           ++ (if (s.laneSt n).eiWait.isSome then [LINK_DISC.DISCARD (n / 2)] else [])))
  ∧ ((∀ (k old new : Nat) (s : State), Acts s → s.daelo.inbox = [] → k < 2 → s.daelo.lanes.length = 4 → s.daelo.links.length = 2 → (s.linkSt k).step = some (old, new) → old < 4 →
       (s.linkSt k).waiting = none → (∀ n, n / 2 = k → s.lane n = laneSearch ∨ s.lane n = laneHunt ∨ s.lane n = laneTrain) →
       ∃ t, exec (.rateStepTimeout k) s = .next t ∧ (t.linkSt k).step = none ∧ (t.linkSt k).ack = none ∧ t.rd LINK_STATUS.RATE_FAIL = 1
         ∧ (∀ n, n / 2 = k → t.lane n = laneSearch ∧ t.rd (LINK_LANE_STATE.RATE n) = old)
         ∧ s.daelo.rl.ctl ++ [.notice (leBytes 1 0x06 ++ leBytes 1 k ++ leBytes 1 new)] <+: t.daelo.rl.ctl
         ∧ Frame s t [.lanes, .links] ([LINK_STATUS.RATE_FAIL] ++ lossFlds (2 * k) ++ lossFlds (2 * k + 1) ++ [LINK_LANE_STATE.RATE (2 * k),
             LINK_LANE_STATE.RATE (2 * k + 1), LINK_LANE_STATE.TRAINED (2 * k), LINK_LANE_STATE.TRAINED (2 * k + 1)]))
     ∧ ∀ (k seq : Nat) (p : List Byte) (s : State), Acts s → s.daelo.inbox = [] → k < 2 → s.daelo.links.length = 2 → (s.linkSt k).mode = 0 →
       seq < 256 → (s.linkSt k).waiting = some ⟨2 * k + seq % 2, 0x9C, seq, p⟩ → (s.linkSt k).adopt = false → (s.linkSt k).expect = seq → (∀ m, (s.laneSt m).eiWait = none) →
       ∃ t, exec (.deskewWaitExpiry k) s = .next t
         ∧ t.daelo.links = s.daelo.links.modify k (fun l => { l with waiting := none, late := (2 * (seq / 2) + 1 - seq % 2) :: l.late, expect := (seq + 1) % 256 })
         ∧ Frame s t [.links] [])

/-- At a block boundary the running return lane sends one block with the next SEQ, as 8b/10b groups from the running
disparity; with a TAP_REQ the DONE of its lanes has been sent. The block is the TICK if one is pending, else the oldest
LANE_LOSS notice, TRAIN block, or other CONTROL item, a reply in fragments of at most 57 bytes, the first and the last
marked, else IDLE; it inserts 16 commas after every 1,024 blocks, and 64 where BURST was set. While it is stopped nothing
is sent. That it sends in SLEEP what waits there and goes on with its SEQ over a restart is the model's choice (log entry
77). -/
def Obligations.ReturnBlocks : Prop :=
  ∀ s : State, s.inReset = false → s.testing = false →
    let r := s.daelo.rl
    let sent (h : Nat) (p : List Byte) (left : List RlCtl) := ∃ t, exec .rlBlockBoundary s = .next t ∧ t.daelo.rl.out = blockBytes h r.seq p ∧ t.daelo.rl.seq = (r.seq + 1) % 256
      ∧ t.rd LINK_RL_CFG.BURST = 0 ∧ t.daelo.rl.outCommas = r.commas + (if s.rd LINK_RL_CFG.BURST = 1 then 64 else 0)
      ∧ t.daelo.rl.groups = (encodeAll r.rd (burstSymbols t.daelo.rl.outCommas h r.seq p)).1
      ∧ (∀ n, (t.laneSt n).training = if h = 0xDC ∧ u8 p 0 = 0x11 then (s.laneSt n).training.map (fun tr => { tr with sent := tr.sent || tr.done })
          else (s.laneSt n).training)
      ∧ t.daelo.rl.count = (r.count + 1) % 1024 ∧ t.daelo.rl.commas = (if r.count = 1023 then 16 else 0) ∧ t.daelo.rl.tick = none ∧ t.daelo.rl.ctl = left
      ∧ Frame s t (.returns :: (if h = 0xDC ∧ u8 p 0 = 0x11 then [.lanes] else [])) [LINK_RL_CFG.BURST]
    let free := s.sleeping = false ∨ r.tick ≠ none ∨ r.loss ≠ [] ∨ r.train ≠ [] ∨ r.ctl ≠ []
    (r.running = true → r.count < 1024 → free →
      (∀ p, r.tick = some p → sent 0xFB p r.ctl)
      ∧ (∀ p rest, r.tick = none → r.loss = p :: rest → sent 0x7C (leBytes 1 3 ++ p) r.ctl)
      ∧ (∀ p rest, r.tick = none → r.loss = [] → r.train = .bytes p :: rest → sent 0xDC p r.ctl)
      ∧ (∀ rest, r.tick = none → r.loss = [] → r.train = .tapReq :: rest → sent 0xDC s.tapPayload r.ctl)
      ∧ (∀ p rest, r.tick = none → r.loss = [] → r.train = [] → r.ctl = .notice p :: rest → sent 0x7C (leBytes 1 3 ++ p) rest)
      ∧ (∀ i bs begun rest, r.tick = none → r.loss = [] → r.train = [] → r.ctl = .reply i bs begun :: rest →
          sent 0x7C (leBytes 1 1 ++ leBytes 1 ((if begun then 0 else 1) + if bs.length ≤ 57 then 2 else 0) ++ leBytes 1 (min 57 bs.length) ++ bs.take 57)
            (if bs.length ≤ 57 then rest else .reply i (bs.drop 57) true :: rest))
      ∧ (r.tick = none → r.loss = [] → r.train = [] → r.ctl = [] → sent 0x9C [] []))
    ∧ (r.running = false → ∃ t, exec .rlBlockBoundary s = .next t ∧ Frame s t [] [])

/-! ## Power and temperature -/

/-- In an entry handshake a block that is neither refusing nor delayed is READY, the satellite chain with its frame cut at
a word's end; a REFUSE, or the timeout, ends the handshake with the mask of the blocks, NOT_NOW and nothing else; with
every block READY the command completes OK and the state is entered: IDLE parks every bank and holds PH0 to PH3 low, SLEEP
and OFF stop the ticks and set the wake sources. A LIMP cause before that ends the handshake with SAFETY_REFUSED. A wake
source that is enabled begins stage 1 and is the cause; any other changes nothing. The stages follow each other; after
stage 2 of a wake from OFF, and where bank 27 holds nothing after stage 3, a cold boot follows. After stage 4 the device
is in ACTIVE at OP0, the time base has gone on by the count, and a retained bank's loss shows where it belongs. A stage
that passes its timeout ends in a cold reset with its number. The details 0 and 1 of the cold boots, the time base taken
from snapshot and count and what a wake keeps beside R397 are the model's choice (log entry 90). -/
def Obligations.PowerStates : Prop :=
  (∀ (h : Handshake) (s : State), Live s → s.power.hs = some h →
     let ended (t : State) (m : Nat) := t.power = { s.power with hs := none } ∧ t.rd POWER_REFUSE.MASK = m
       ∧ (∀ x : Ctx, x.handle = h.handle → h.handle ≠ 0 → Answered s t x stNotNow (leBytes 4 m))
       ∧ Frame s t (.power :: .group :: answerParts) (POWER_REFUSE.MASK :: answerFlds)
     let last (b : Nat) (busy : Bool) := b ∈ blocksOf h.target ∧ b ∉ h.ready ∧ s.refuses h.handle b = false ∧ s.delays b busy = false
       ∧ ∀ c ∈ blocksOf h.target, c = b ∨ c ∈ h.ready
     (∀ b busy c, b ∈ blocksOf h.target → b ∉ h.ready → s.refuses h.handle b = false → s.delays b busy = false →
       c ∈ blocksOf h.target → c ≠ b → c ∉ h.ready → ∃ t, exec (.powerHandshakeAnswer b busy) s = .next t
         ∧ t.power = { s.power with hs := some { h with ready := b :: h.ready } } ∧ (b ≠ 18 → Frame s t [.power] [])
         ∧ (b = 18 → t.sat = { s.sat with due := false, fallback := false, sent := s.sat.sent.take s.satBegun } ∧ t.rd SAT_STATUS.SENDING = 0
           ∧ (s.on SAT_STATUS.SENDING = true → t.rd SAT_STATUS.CUT = 1) ∧ Frame s t [.power, .sat] [SAT_STATUS.SENDING, SAT_STATUS.CUT]))
     ∧ (∀ b busy, s.refuses h.handle b = false → s.delays b busy = true → ∃ t, exec (.powerHandshakeAnswer b busy) s = .next t ∧ Frame s t [] [])
     ∧ (∀ b busy, b ∈ blocksOf h.target → b ∉ h.ready → s.refuses h.handle b = true → ∃ t, exec (.powerHandshakeAnswer b busy) s = .next t ∧ ended t (2 ^ b))
     ∧ (∃ t m, exec .handshakeTimeout s = .next t ∧ ended t m ∧ ∀ b, bitN m b = true ↔ b ∈ blocksOf h.target ∧ b ∉ h.ready)
     ∧ (∀ b busy, last b busy → h.target = 1 → s.layer.comp = none → s.cask.heldSyms = [] → ∃ t, exec (.powerHandshakeAnswer b busy) s = .next t
       ∧ t.rd POWER_STATUS.STATE = 1
       ∧ t.power.hs = none ∧ t.power.want = h.op ∧ t.power.led = 0 ∧ t.pins.phLow = true ∧ t.pins.forceZero = true ∧ (∀ k, k < 8 → k ∈ t.array.parked)
       ∧ t.rd PIPE_SE_CTRL.ACTIVE = 0 ∧ Ends s t h.handle stOk ∧ t.tick.tickAt = s.tick.tickAt)
     ∧ (∀ b busy, last b busy → h.target = 2 ∨ h.target = 3 → s.layer.comp = none → s.cask.heldSyms = [] → ∃ t, exec (.powerHandshakeAnswer b busy) s = .next t
       ∧ t.rd POWER_STATUS.STATE = h.target ∧ t.sleeping = true ∧ t.power.led = 0 ∧ t.tick.tickAt = none ∧ t.safe.running = false
       ∧ t.rd POWER_WAKE.MASK = Nat.lor (h.wake % 256) 128 ∧ t.rd POWER_WAKE_MS.MS = h.wakeMs % 2 ^ 32 ∧ Ends s t h.handle stOk)
     ∧ (s.testing = false → s.safety = 0 → s.safe.release = [] → s.releaseNow = none → s.boot.stage = 11 → s.on PIPE_FILL_STATUS.BEAM_VALID = true → ∃ t, exec .scWdog s = .next t
       ∧ t.power.hs = none ∧ Ends s t h.handle stRefused ∧ Enters s t 1 128 []))
  ∧ (∀ (kept : Nat) (snap : BitVec 64) (s : State), s.power.asleep = some (kept, snap) →
       let cold (t : State) (cause detail : Nat) := t.boot.stage = 0 ∧ t.rd SYS_BOOT_CAUSE.CAUSE = cause ∧ t.rd SYS_BOOT_CAUSE.DETAIL = detail
         ∧ t.rd SYS_BOOT_CAUSE.COLD = 1
       (∀ src, s.power.wakeStage = none → src ≤ 7 → bitN (s.rd POWER_WAKE.MASK) src = true → src ≠ 3 ∨ s.rd POWER_WAKE_MS.MS ≠ 0 →
         ∃ t, exec (.wakeEvent src) s = .next t ∧ t.power = { s.power with wakeStage := some 1 } ∧ t.rd POWER_WAKE.CAUSE = 2 ^ src
           ∧ Frame s t [.power] [POWER_WAKE.CAUSE])
       ∧ (∀ src, s.power.wakeStage ≠ none ∨ 7 < src ∨ bitN (s.rd POWER_WAKE.MASK) src = false ∨ (src = 3 ∧ s.rd POWER_WAKE_MS.MS = 0) →
         ∃ t, exec (.wakeEvent src) s = .next t ∧ Frame s t [] [])
       ∧ (∀ lost n k, s.power.wakeStage = some k → k = 1 ∨ (k = 2 ∧ s.powerState ≠ 3) → ∃ t, exec (.wakeStageReady lost n) s = .next t
         ∧ t.power = { s.power with wakeStage := some (k + 1) } ∧ Frame s t [.power] [])
       ∧ (∀ lost n, s.power.wakeStage = some 2 → s.powerState = 3 → ∃ t, exec (.wakeStageReady lost n) s = .next t ∧ cold t 10 0)
       ∧ (∀ lost n, s.power.wakeStage = some 3 → bitN kept 27 = false ∨ (bitN lost 27 = true ∧ bitN (s.rd MEM_RET_MASK.BANKS) 27 = true) → ∃ t, exec (.wakeStageReady lost n) s = .next t ∧ cold t 10 1)
       ∧ (∀ lost n, s.power.wakeStage = some 3 → bitN kept 27 = true → bitN lost 27 = false → ∃ t, exec (.wakeStageReady lost n) s = .next t
         ∧ t.power = { s.power with wakeStage := some 4 } ∧ (∀ b, b < 28 → (bitN (t.rd MEM_WAKE_RETENTION_LOSS.BANKS) b = true ↔ bitN lost b = true ∧ bitN (s.rd MEM_RET_MASK.BANKS) b = true))
         ∧ Frame s t [.power, .mem] [MEM_WAKE_RETENTION_LOSS.BANKS, MEM_STATUS.RET_LOSS])
       ∧ (∀ lost n, s.power.wakeStage = some 4 → ∃ t, exec (.wakeStageReady lost n) s = .next t
         ∧ t.rd POWER_STATUS.STATE = 0 ∧ t.rd POWER_STATUS.OP = 0 ∧ t.rd POWER_STATUS.WAKE_EV = 1 ∧ t.sleeping = false ∧ t.rd SAT_STATUS.WAIT = 1
         ∧ t.tick.tb = BitVec.ofNat 64 (snap.toNat + rdiv (min n (2 ^ 32) * s.aonPeriod8) 8000) ∧ t.rd POWER_AON_CNT.COUNT = min n (2 ^ 32 - 1)
         ∧ t.rd POWER_TIME.QUALITY = (if 2 ^ 32 ≤ n then 2 else if s.power.xtal then s.rd POWER_TIME.QUALITY else max 1 (s.rd POWER_TIME.QUALITY))
         ∧ (∀ k, k < 2 → (∃ b, 16 + 3 * k ≤ b ∧ b < 19 + 3 * k ∧ b ∈ s.lostBanks kept) → t.rd (validFld k) = 0 ∧ t.rd CASK_STATUS.RET_LOSS = 1))
       ∧ ∀ k, s.power.wakeStage = some k → ∃ t, exec .wakeStageTimeout s = .next t ∧ cold t 5 (k % 2 ^ 4))

/-- The soft start, or a rise of the target, ends with LED_REG; a loss clears it unless a foldback acts or the target
rises, and an over-voltage, a low and a high input hold PH0 to PH3 low until their end, the inputs with a soft start after
it. A mean current above ILIM lowers the regulation point by 20 mV, one below 0.95 ILIM returns it by 5 mV, one step an
event (log entry 98), and phases are added for the current (log entry 39). A foldback's start, and each condition, is
reported. None changes the safety state. VNV low at a page write and its retry loses the write, whose command ends with a
status that is free among those of a failure (log entry 35); a committed store goes on. A free bank is granted to the
request that stands before all others, by input and then by port order (log entry 36). A holder that moved no beat for
HOLD_TO cycles loses its grant, and a request that waited too long is recorded once; both are reported with their place
and counted. Reloads that are done leave RELOADING. The oscillators' measurements are shown, and the crystal's state, also
in a warm reset (log entry 94). -/
def Obligations.SuppliesAndClocks : Prop :=
  (∀ s : State, Live s →
     let reg := [POWER_STATUS.LED_REG]
     let soft (p : PowerSt) : PowerSt := if p.led = 0 then p else { p with led := 1 }
     (s.testing = false → s.power.led ≠ 0 → s.power.ov = false → s.power.vbatStop = false → s.power.vbatHigh = false → s.safe.release = [] →
       ∃ t, exec .ledRegulationReached s = .next t ∧ t.power = { s.power with led := 2, rising := false } ∧ t.rd POWER_STATUS.LED_REG = 1 ∧ t.pins.phLow = false ∧ Frame s t [.power] reg)
     ∧ (s.testing = false → ∃ t, exec .ledRegLoss s = .next t ∧ t.rd POWER_STATUS.LED_REG = (if s.power.drop ≠ 0 ∨ s.power.rising = true then s.rd POWER_STATUS.LED_REG else 0) ∧ Frame s t [] reg)
     ∧ (∀ sum, let lim := clampN 1000 16000 (s.rd POWER_LED_ILIM.ILIM)
       let drop := if lim < sum then min (s.rd POWER_VLED_STATUS.TARGET) (s.power.drop + 20) else if sum * 100 < lim * 95 then s.power.drop - 5 else s.power.drop
       s.testing = false → ∃ t, exec (.ledFoldback sum) s = .next t
         ∧ t.power = { s.power with drop := drop, phases := max s.power.phases (if 2000 < sum then 4 else if 500 ≤ sum then 2 else 1) }
         ∧ t.rd POWER_STATUS.LED_ILIM = (if s.power.drop = 0 ∧ drop ≠ 0 then 1 else s.rd POWER_STATUS.LED_ILIM) ∧ Frame s t [.power] [POWER_STATUS.LED_ILIM])
     ∧ (s.testing = false → ∃ t, exec .vledOvervoltage s = .next t ∧ t.power = { s.power with ov := true } ∧ t.pins.phLow = true ∧ t.rd POWER_STATUS.VLED_OV = 1
       ∧ t.rd POWER_STATUS.LED_REG = 0 ∧ Frame s t [.power] (POWER_STATUS.VLED_OV :: reg))
     ∧ (∃ t, exec (.vbatLow 0) s = .next t ∧ t.power = { s.power with vbatLow := false } ∧ Frame s t [.power] [])
     ∧ (∃ t, exec (.vbatLow 1) s = .next t ∧ t.power = { s.power with vbatLow := true } ∧ t.rd POWER_STATUS.VBAT_LOW = 1 ∧ Frame s t [.power] [POWER_STATUS.VBAT_LOW])
     ∧ (∃ t, exec (.vbatLow 2) s = .next t ∧ t.power = { s.power with vbatLow := true, vbatStop := true } ∧ t.pins.phLow = true
       ∧ t.rd POWER_STATUS.VBAT_LOW = 1 ∧ t.rd POWER_STATUS.LED_REG = 0 ∧ Frame s t [.power] (POWER_STATUS.VBAT_LOW :: reg))
     ∧ (∃ t, exec .vbatHigh s = .next t ∧ t.power = { s.power with vbatHigh := true } ∧ t.pins.phLow = true
       ∧ t.rd POWER_STATUS.VBAT_HIGH = 1 ∧ t.rd POWER_STATUS.LED_REG = 0 ∧ Frame s t [.power] (POWER_STATUS.VBAT_HIGH :: reg))
     ∧ (∃ t, exec (.ledSupplyResume 0) s = .next t ∧ t.power = { s.power with ov := false }
       ∧ (s.power.led = 2 → s.power.vbatStop = false → s.power.vbatHigh = false → t.rd POWER_STATUS.LED_REG = 1 ∧ t.pins.phLow = false) ∧ Frame s t [.power] reg)
     ∧ (∃ t, exec (.ledSupplyResume 1) s = .next t ∧ t.power = soft { s.power with vbatStop := false } ∧ Frame s t [.power] [])
     ∧ (∃ t, exec (.ledSupplyResume 2) s = .next t ∧ t.power = soft { s.power with vbatHigh := false } ∧ Frame s t [.power] [])
     ∧ (s.power.shut = none → (∃ t, exec (.vsysLow 0) s = .next t ∧ t.power = { s.power with vsysLow := false } ∧ Frame s t [.power] [])
       ∧ (∃ t, exec (.vsysLow 1) s = .next t ∧ t.power = { s.power with vsysLow := true } ∧ t.rd POWER_STATUS.VSYS_LOW = 1
         ∧ Frame s t [.power] [POWER_STATUS.VSYS_LOW])
       ∧ (s.cellar.run = none → s.safe.sealing = [] → s.cellar.digestWrite = [] → s.safe.log = [] → ∃ t, exec (.vsysLow 2) s = .next t ∧ Frame s t [] [])
       ∧ ∀ r, s.cellar.run = some r → s.cellar.waiting = [] → s.safe.sealing = [] → s.cellar.digestWrite = [] → s.safe.log = [] →
         (r.committed = true → ∃ t, exec (.vsysLow 2) s = .next t ∧ t.cellar.run = some r ∧ t.rd CELLAR_STATUS.BUSY = s.rd CELLAR_STATUS.BUSY)
         ∧ (r.committed = false → r.handle ≠ 0 → ∃ t st, exec (.vsysLow 2) s = .next t ∧ t.cellar.run = none ∧ t.rd CELLAR_STATUS.BUSY = 0
           ∧ st ∈ failStatuses ∧ Ends s t r.handle st)))
  ∧ ((∀ (a : ArbSt) (c : ArbCfg) (b : Nat) (x : Xact), a.grantOf b = none → x ∈ a.requests b → (∀ y ∈ a.requests b, y = x ∨ a.before c b x y = true) →
       (a.arbitrate c b).grantOf b = some ⟨x.req, x.port, c.input x.req, if c.limit (c.input x.req) = 0 then none else some (c.limit (c.input x.req)), 0⟩)
     ∧ ∀ s : State,
       (Live s → ∀ bank req port, bank < 28 → req < 8 → port < 8 →
         (∀ g, s.arb.grantOf bank = some g → g.req = req → g.port = port → max 16 (s.rd MEM_CTRL.HOLD_TO) ≤ g.still →
           ∃ t, exec (.holdTimeout bank req port) s = .next t ∧ t.rd MEM_STATUS.STUCK = 1 ∧ t.rd MEM_STUCK_INFO.BANK = bank ∧ t.rd MEM_STUCK_INFO.REQ = req
           ∧ t.rd MEM_STUCK_INFO.PORT = port ∧ t.rd MEM_STUCK_INFO.COUNT = min 65535 (s.rd MEM_STUCK_INFO.COUNT + 1)
           ∧ t.arb.grantOf bank = none ∧ t.arb.xacts = s.arb.xacts
           ∧ Frame s t [.arb] [MEM_STATUS.STUCK, MEM_STUCK_INFO.BANK, MEM_STUCK_INFO.REQ, MEM_STUCK_INFO.PORT, MEM_STUCK_INFO.COUNT])
         ∧ ((∀ g, s.arb.grantOf bank = some g → g.req ≠ req ∨ g.port ≠ port ∨ g.still < max 16 (s.rd MEM_CTRL.HOLD_TO)) →
           ∃ t, exec (.holdTimeout bank req port) s = .next t ∧ Frame s t [] [])
         ∧ ((∃ x ∈ s.arb.xacts, x.req = req ∧ x.port = port ∧ x.bank = bank ∧ x.starved = false ∧ 256 * max 1 (s.rd MEM_CTRL.STARVE) < x.waited) →
           ∃ t, exec (.starve bank req port) s = .next t ∧ t.rd MEM_STATUS.STARVE = 1 ∧ t.rd MEM_STARVE_INFO.BANK = bank ∧ t.rd MEM_STARVE_INFO.REQ = req
           ∧ t.rd MEM_STARVE_INFO.PORT = port ∧ t.rd MEM_STARVE_INFO.COUNT = min 65535 (s.rd MEM_STARVE_INFO.COUNT + 1)
           ∧ (∀ x ∈ t.arb.xacts, x.req = req → x.port = port → x.starved = true)
           ∧ Frame s t [.arb] [MEM_STATUS.STARVE, MEM_STARVE_INFO.BANK, MEM_STARVE_INFO.REQ, MEM_STARVE_INFO.PORT, MEM_STARVE_INFO.COUNT])
         ∧ ((∀ x ∈ s.arb.xacts, x.req = req → x.port = port → x.bank = bank → x.starved = true ∨ x.waited ≤ 256 * max 1 (s.rd MEM_CTRL.STARVE)) →
           ∃ t, exec (.starve bank req port) s = .next t ∧ Frame s t [] []))
       ∧ (Live s → ((∃ b ∈ s.mem.reload, b ≠ 25) → ∃ t, exec .trimReloadDone s = .next t ∧ t.mem.reload = s.mem.reload.filter (· == 25)
           ∧ t.on MEM_STATUS.RELOADING = s.mem.reload.contains 25 ∧ (2 ≤ s.rd SYS_BOOT_LOAD.TRIM → t.pipe.trimValid = false)
           ∧ { t.pipe with trimValid := s.pipe.trimValid } = s.pipe)
         ∧ (25 ∈ s.mem.reload → ∃ t, exec .symbolLibraryReloadDone s = .next t ∧ t.mem.reload = s.mem.reload.filter (· != 25)
           ∧ t.on MEM_STATUS.RELOADING = s.mem.reload.any (· != 25)))
       ∧ (Live s → ∀ dev : Int, ∃ t, exec (.sfclkMeasurement dev) s = .next t ∧ t.rd POWER_SFCLK.DEV = codeI POWER_SFCLK.DEV.w dev
         ∧ t.power = { s.power with sfDev := decide (200 < dev.natAbs) }
         ∧ t.rd POWER_STATUS.SFCLK_DEV = (if 200 < dev.natAbs then 1 else s.rd POWER_STATUS.SFCLK_DEV) ∧ Frame s t [.power] [POWER_SFCLK.DEV, POWER_STATUS.SFCLK_DEV])
       ∧ (∃ t, exec .xtal32Loss s = .next t ∧ t.power = { s.power with xtal := false } ∧ t.rd POWER_TIME.XTAL32 = 0 ∧ Frame s t [.power] [POWER_TIME.XTAL32])
       ∧ (s.refRuns = true → ∃ t, exec .xtal32Qualified s = .next t ∧ t.power = { s.power with xtal := true } ∧ t.rd POWER_TIME.XTAL32 = 1 ∧ Frame s t [.power] [POWER_TIME.XTAL32])
       ∧ (s.refRuns = true → ∀ n, ∃ t, exec (.rcOscillatorMeasurement n) s = .next t ∧ t.power = { s.power with rcCycles := n } ∧ Frame s t [.power] []))

/-- A headroom signal, more than 64 OPEN latches that can have set in one row slot of an open window, raises TRIM by 25
mV, at most once per write window and to no more than 500 mV; one that finds 500 mV sets HEADROOM_MAX; one in a foldback
is ignored (R379). It discards the calibration's instants of the sub-frame but those of the dark slot (R413). Each 10 s
without one lower TRIM by 5 mV, down to 0; that they are counted from the last signal or fall, and the event has no effect
before, is the model's choice (log entry 99). -/
def Obligations.Headroom : Prop :=
  ∀ s : State, Live s →
    let trim := min 500 (s.rd POWER_VLED_TRIM.TRIM)
    (∀ y shorts opens progress, s.testing = false → shorts = [] ∨ s.rd ARRAY_ROWKILL_CFG.POLICY < 2 → y ≤ 639 → s.slotOf (y % 8) = true → y % 8 ∈ s.array.armed → s.powerState = 0 → 64 < (opens.filter (s.openable y)).length →
      ∃ t, exec (.rowSlot y shorts opens progress) s = .next t
      ∧ t.cal.headroom = true ∧ t.cal.kept = 0 ∧ t.cal.run.map (·.points) = s.cal.run.map (fun r => r.points.take (r.points.length - s.cal.kept))
      ∧ (s.power.drop = 0 → t.power.headroom = true ∧ t.power.lastHeadroom = s.now)
      ∧ (s.power.drop = 0 → trim < 500 → t.rd POWER_STATUS.HEADROOM_MAX = s.rd POWER_STATUS.HEADROOM_MAX
        ∧ t.rd POWER_VLED_TRIM.TRIM = (if s.power.headroom = true then s.rd POWER_VLED_TRIM.TRIM else min 500 (trim + 25)))
      ∧ (s.power.drop = 0 → trim = 500 → t.rd POWER_VLED_TRIM.TRIM = s.rd POWER_VLED_TRIM.TRIM ∧ t.rd POWER_STATUS.HEADROOM_MAX = 1)
      ∧ (s.power.drop ≠ 0 → t.rd POWER_VLED_TRIM.TRIM = s.rd POWER_VLED_TRIM.TRIM ∧ t.rd POWER_STATUS.HEADROOM_MAX = s.rd POWER_STATUS.HEADROOM_MAX
        ∧ t.power = s.power))
    ∧ (∀ b, s.testing = false → s.slotOf b = true → s.powerState = 0 → ∃ t, exec (.writeWindowOpen b) s = .next t ∧ t.power = { s.power with headroom := false }
      ∧ b ∈ t.array.armed ∧ b ∈ t.array.parked)
    ∧ (s.power.lastHeadroom + 10000000000 ≤ s.now → ∃ t, exec .headroomTrimDecay s = .next t ∧ t.rd POWER_VLED_TRIM.TRIM = trim - 5
      ∧ t.power = { s.power with lastHeadroom := s.now } ∧ Frame s t [.power] [POWER_VLED_TRIM.TRIM])
    ∧ (s.now < s.power.lastHeadroom + 10000000000 → ∃ t, exec .headroomTrimDecay s = .next t ∧ Frame s t [] [])

/-- A round in which no sensor is failed shows every conversion, moves tau by the step of R402, and moves the warnings
with their hysteresis. A second conversion in a row at or above SHUT of an array sensor enters DARK with PH0 to PH3 low;
the end of the hold second restores tau. -/
def Obligations.Temperatures : Prop :=
  ∀ s : State, Live s →
    (∀ v : List Int, s.testing = false → v.length = 24 → (∀ x ∈ v, -960 ≤ x ∧ x ≤ 3200) → s.therm.failed = [] → s.therm.hold = none →
      (∀ i, i < 24 → lowReading (v.map some) [] i = false ∨ s.therm.low.getD i 0 < 19) →
      let raw := v.map some
      let arr := maxTemp 0 (v.take 16)
      let log := maxTemp 0 (v.drop 16)
      let lim := s.thresholds false
      let limL := s.thresholds true
      let tau := tauStep s.therm.tau (s.tauMin v 0) (s.tauMin v 80)
      let flds := [THERM_REGION.ARRAY, THERM_REGION.LOGIC, THERM_MAX.VALUE, THERM_MAX.INDEX, THERM_FAIL.MASK, THERM_THROTTLE.TAU, THERM_THROTTLE.HOLD,
        THERM_THROTTLE.PAIR_CAP, THERM_THROTTLE.OP_CAP, POWER_STATUS.OP_CAP, THERM_STATUS.THROTTLE_ARRAY, THERM_STATUS.THROTTLE_LOGIC,
        THERM_STATUS.WARN_ARRAY, THERM_STATUS.WARN_LOGIC] ++ (List.range 24).flatMap fun i => [THERM_T.VALUE i, THERM_T.SUBST i, THERM_T.FAILED i]
      let shown (t : State) := t.therm.vals = v ∧ t.therm.failed = [] ∧ t.therm.tau = tau ∧ t.rd THERM_THROTTLE.TAU = tau % 2 ^ 16
        ∧ (∀ i, i < 24 → t.rd (THERM_T.VALUE i) = codeI 16 (v.getD i 0) ∧ t.rd (THERM_T.SUBST i) = 0 ∧ t.rd (THERM_T.FAILED i) = 0)
        ∧ t.rd THERM_REGION.ARRAY = codeI 16 arr ∧ t.rd THERM_REGION.LOGIC = codeI 16 log ∧ t.rd THERM_MAX.VALUE = codeI 16 (max arr log)
        ∧ t.therm.warnA = (decide (lim.1 ≤ arr) || (s.therm.warnA && decide (lim.1 - 80 ≤ arr)))
        ∧ t.therm.thrL = (decide (limL.2.1 ≤ log) || (s.therm.thrL && decide (limL.2.1 - 80 ≤ log)))
        ∧ t.on THERM_THROTTLE.OP_CAP = t.therm.thrL ∧ (t.therm.warnA = true → s.therm.warnA = false → t.rd THERM_STATUS.WARN_ARRAY = 1)
      ((∀ i, i < 24 → (s.judgeShut raw v).getD i 0 < 2) → ∃ t, exec (.sensorConversion raw) s = .next t ∧ shown t
        ∧ ((s.on THERM_THROTTLE.OP_CAP = true → t.therm.thrL = true) → Frame s t [.therm] flds))
      ∧ (∀ i, i < 16 → 1 ≤ s.therm.high.getD i 0 → lim.2.2 ≤ v.getD i 0 → (∀ j, 16 ≤ j → j < 24 → (s.judgeShut raw v).getD j 0 < 2) → s.safety = 0 →
        s.safe.release = [] → s.releaseNow = none → s.power.shut = none → ∃ t, exec (.sensorConversion raw) s = .next t ∧ shown t
          ∧ t.rd THERM_STATUS.SHUT_ARRAY = 1 ∧ t.rd SAFE_STATUS.STATE = 2 ∧ t.rd SAFE_CAUSE.LATCHED = Nat.lor (s.rd SAFE_CAUSE.LATCHED) 512
          ∧ t.pins.phLow = true ∧ t.pins.forceZero = true
          ∧ ((s.on THERM_THROTTLE.OP_CAP = true → t.therm.thrL = true) → Frame s t (.therm :: s.scanParts ++ safeParts) (s.scanShown ++ THERM_STATUS.SHUT_ARRAY :: flds ++ safeFlds))))
    ∧ (∃ t, exec .throttleHoldExpiry s = .next t ∧ t.therm = { s.therm with hold := none } ∧ t.rd THERM_THROTTLE.HOLD = 0
      ∧ t.rd THERM_THROTTLE.TAU = (if s.on THERM_THROTTLE.PAIR_CAP = true then min 16384 s.therm.tau else s.therm.tau) % 2 ^ 16
      ∧ t.on THERM_THROTTLE.OP_CAP = s.therm.thrL ∧ t.on POWER_STATUS.OP_CAP = s.therm.thrL)
    ∧ ∀ k ohms, k < 2 → s.therm.ntc.length = 2 → s.therm.ntcFail.length = 2 → bitN (s.rd THERM_CTRL.NTC_EN) k = true → s.therm.ntcFail.getD k false = false →
      let fld := if k = 0 then THERM_NTC_T.NTC0 else THERM_NTC_T.NTC1
      (ohms < 50 ∨ 2000000 < ohms → ∃ t, exec (.ntcMeasurement k ohms) s = .next t ∧ t.therm = { s.therm with ntcFail := s.therm.ntcFail.set k true }
        ∧ t.rd THERM_STATUS.NTC_FAIL = 1 ∧ t.rd THERM_FAIL.MASK = Nat.lor (s.rd THERM_FAIL.MASK) (2 ^ (24 + k)) ∧ Frame s t [.therm] [THERM_STATUS.NTC_FAIL, THERM_FAIL.MASK])
      ∧ (50 ≤ ohms → ohms ≤ 2000000 → ∃ t, exec (.ntcMeasurement k ohms) s = .next t ∧ t.rd fld = codeI 16 (t.therm.ntc.getD k 0)
        ∧ (ohms = nomRes (s.rd (THERM_NTC_CFG.NOM_RES k)) → s.rd (THERM_NTC_CFG.BETA k) ≠ 0 → t.therm.ntc.getD k 0 = 400)
        ∧ t.therm.ntcFail = s.therm.ntcFail ∧ t.therm.tau = s.therm.tau
        ∧ (16 * (s.rd (THERM_NTC_CFG.WARN k) : Int) ≤ t.therm.ntc.getD k 0 → s.therm.ntcWarn.getD k false = false → t.rd THERM_STATUS.WARN_NTC = 1)
        ∧ Frame s t [.therm] [fld, THERM_STATUS.WARN_NTC])

/-! ## Groups and satellites -/

/-- An edge that is a valid interval after the last measures the phase at 40 ns, whose error the next frame answers:
within 20 us a quarter of it, within 1 ms all of it is worked off by the period, beyond that by a hold frame, each under
its clamps. The first edge is only a reference, an invalid one changes nothing but the exchange, and a member that is not
a follower ignores edges. The third missed edge loses the leader; two valid edges find one again. Which edges are
references, the rounding of the error and its joint judgement in a hold frame are the model's choice (log entry 61). -/
def Obligations.GroupFollowing : Prop :=
  ∀ s : State, Live s →
    let e := phaseErr s.nearTick s.now
    let v := if s.tick.hold = true ∧ some s.nearTick = s.tick.tickAt then
      e + ((s.tick.frameLen : Int) - ((s.now - s.group.lastEdge.getD s.now : Nat) : Int)) else e
    let d := s.now - s.group.lastEdge.getD s.now
    let sync := s.rd GROUP_STATUS.SYNC
    let new := List.replicate 4 false
    let lost (t : State) := t.rd GROUP_STATUS.SYNC = 4 ∧ t.rd GROUP_STATUS.LEADER_LOST = 1 ∧ t.rd GROUP_STATUS.SEEN = 0
      ∧ t.group = { s.group with lastEdge := none, valid := 0, missedEdges := 0, err := none }
      ∧ Frame s t [.group] [GROUP_STATUS.SYNC, GROUP_STATUS.LEADER_LOST, GROUP_STATUS.SEEN]
    (s.role = 2 → s.group.conflict = false → sync ≠ 4 → s.edgeValid = true → ∃ t, exec .gsyncEdge s = .next t
      ∧ t.rd GROUP_PHASE.E = codeI 32 e ∧ t.group.lastEdge = some s.now ∧ t.group.interval = d ∧ t.group.got = new ∧ t.group.missedEdges = 0
      ∧ (s.tick.src ≠ 2 → t.rd GROUP_STATUS.SYNC = sync ∧ t.group.err = s.group.err)
      ∧ (s.tick.src = 2 → t.group.err = some v)
      ∧ (s.tick.src = 2 → v.natAbs ≤ 20000 → t.rd GROUP_STATUS.SYNC = 1 ∧ t.followFrame.tick.frameLen = correctedPeriod s.tick.nsf d v 4 1000)
      ∧ (s.tick.src = 2 → 20000 < v.natAbs → v.natAbs ≤ 1000000 → t.rd GROUP_STATUS.SYNC = 2
        ∧ t.followFrame.tick.frameLen = correctedPeriod s.tick.nsf d v 1 100)
      ∧ (s.tick.src = 2 → 1000000 < v.natAbs → t.rd GROUP_STATUS.SYNC = 3 ∧ t.followFrame.tick.hold = true
        ∧ t.followFrame.tick.frameLen = holdClamp s.tick.nsf ((d : Int) - v))
      ∧ Frame s t [.group] [GROUP_PHASE.E, GROUP_STATUS.SYNC])
    ∧ (s.role = 2 → s.group.conflict = false → sync ≠ 4 → s.edgeValid = false → ∃ t, exec .gsyncEdge s = .next t
      ∧ t.group = { s.group with got := new, lastEdge := if s.group.interval = 0 then some s.now else s.group.lastEdge } ∧ Frame s t [.group] [])
    ∧ (s.role = 2 → s.group.conflict = false → sync = 4 → s.edgeValid = false → ∃ t, exec .gsyncEdge s = .next t
      ∧ t.group = { s.group with got := new, valid := 0, lastEdge := some s.now } ∧ Frame s t [.group] [])
    ∧ (s.role = 2 → s.group.conflict = false → sync = 4 → s.edgeValid = true → s.group.valid = 0 → ∃ t, exec .gsyncEdge s = .next t
      ∧ t.group = { s.group with got := new, valid := 1, interval := d, lastEdge := some s.now } ∧ Frame s t [.group] [])
    ∧ (s.role = 2 → s.group.conflict = false → sync = 4 → s.edgeValid = true → 1 ≤ s.group.valid → ∃ t, exec .gsyncEdge s = .next t
      ∧ t.rd GROUP_STATUS.SYNC ≠ 4 ∧ t.rd GROUP_PHASE.E = codeI 32 e ∧ t.group.lastEdge = some s.now ∧ Frame s t [.group] [GROUP_PHASE.E, GROUP_STATUS.SYNC])
    ∧ (s.role ≠ 2 ∨ s.group.conflict = true → ∃ t, exec .gsyncEdge s = .next t ∧ Frame s t [] [])
    ∧ (s.role = 2 → s.group.interval ≠ 0 → sync ≠ 4 → s.group.missedEdges < 2 → ∃ t, exec .gsyncEdgeMissed s = .next t
      ∧ t.group = { s.group with missedEdges := s.group.missedEdges + 1 } ∧ Frame s t [.group] [])
    ∧ (s.role = 2 → s.group.interval ≠ 0 → sync ≠ 4 → 2 ≤ s.group.missedEdges → ∃ t, exec .gsyncEdgeMissed s = .next t ∧ lost t)
    ∧ (s.role ≠ 2 ∨ s.group.interval = 0 ∨ sync = 4 → ∃ t, exec .gsyncEdgeMissed s = .next t ∧ Frame s t [] [])

/-- In an exchange a member sends its state word in its own slot, between a start bit and its CRC and a stop bit; in a
collision it stops at a bit that it sent as 1. Another member's word is kept for its slot, a slot without a good word
counted; a leader's word read by a leader is a role conflict, which the next GROUP_CONFIG ends, and a departing leader's
word loses the leader. Without exchanges nothing happens. At the end of an exchange the members seen are shown, and a
member is missing after three exchanges without its word. A seal that has differed in two received words is a dissent; it
enters LIMP where DISSENT_ACTION says so, and so does, with FOLLOW, a member in a safe state that raises its own cause.
That a device in a collision stores no own word, when SEEN names the own member, and that only members heard dissent is
the model's choice (log entry 62). -/
def Obligations.GroupExchange : Prop :=
  ((∀ w : BitVec 64, slotWord (slotLevels w) = some w ∧ (slotLevels w).length = 82)
   ∧ ∀ s : State, Live s → s.exchanging = true → s.group.got.length = 4 → s.member < 4 →
     (∃ t k, exec (.groupSlotSend true) s = .next t ∧ t.pins.gdat = (slotLevels s.stateWord).take (k + 1) ∧ (slotLevels s.stateWord).getD k false = true
       ∧ t.rd GROUP_STATUS.COLLISION = 1 ∧ Frame s t [.driven] [GROUP_STATUS.COLLISION])
     ∧ (∃ t, exec (.groupSlotSend false) s = .next t ∧ t.pins.gdat = slotLevels s.stateWord ∧ t.wordOf s.member = s.stateWord.toNat
       ∧ t.group.got.getD s.member false = true ∧ t.group.departing = (s.group.departing || s.departs)
       ∧ Frame s t [.driven, .group] [GROUP_WORD_LO.WORD s.member, GROUP_WORD_HI.WORD s.member])
     ∧ ∀ m, m < 4 → m < s.members → m ≠ s.member →
       (∀ levels, slotWord levels = none → ∃ t, exec (.groupSlotWord m levels) s = .next t
         ∧ t.rd GROUP_CNT.MISSED = min (2 ^ GROUP_CNT.MISSED.w - 1) (s.rd GROUP_CNT.MISSED + 1) ∧ Frame s t [] [GROUP_CNT.MISSED])
       ∧ ∀ w : BitVec 64, ∃ t, exec (.groupSlotWord m (slotLevels w)) s = .next t ∧ t.wordOf m = w.toNat ∧ t.group.got.getD m false = true
         ∧ (bitN w.toNat 37 = false → Frame s t [.group] [GROUP_WORD_LO.WORD m, GROUP_WORD_HI.WORD m])
         ∧ (s.leads = true → bitN w.toNat 37 = true → t.rd GROUP_STATUS.ROLE_CONFLICT = 1 ∧ t.rd GROUP_STATUS.SYNC = 4 ∧ t.leads = false)
         ∧ (s.role = 2 → bitN w.toNat 37 = true → bitN w.toNat 38 = true → t.rd GROUP_STATUS.SYNC = 4 ∧ t.rd GROUP_STATUS.LEADER_LOST = 1))
  ∧ (∀ s : State, Live s → s.exchanging = true → s.group.got.length = 4 →
       let flds := [GROUP_STATUS.SEEN, GROUP_STATUS.SEAL_DISSENT, GROUP_STATUS.COMPAT_DISSENT, GROUP_STATUS.FW_DIFF, GROUP_STATUS.MEMBER_MISSING]
       let twice (m : Nat) := m ∈ s.others ∧ s.heard m = true ∧ s.sealDiffers m = true ∧ 1 ≤ s.group.sealDiff.getD m 0
       let twiceC (m : Nat) := m ∈ s.others ∧ s.heard m = true ∧ s.compatDiffers m = true ∧ 1 ≤ s.group.compatDiff.getD m 0
       let pulls (m : Nat) := m ∈ s.others ∧ s.heard m = true ∧ bitN (s.wordOf m) 36 = true ∧ (bits (s.wordOf m) 34 2 = 1 ∨ bits (s.wordOf m) 34 2 = 2)
       let limp := (s.rd GROUP_SAFE_CFG.DISSENT_ACTION = 1 ∧ ∃ m, twice m ∨ twiceC m)
         ∨ (s.rd GROUP_SAFE_CFG.DISSENT_ACTION = 2 ∧ s.role = 2 ∧ ∃ m, (twice m ∨ twiceC m) ∧ bitN (s.wordOf m) 37 = true)
       let pull := s.on GROUP_SAFE_CFG.FOLLOW = true ∧ ∃ m, pulls m
       let shown (t : State) := (∀ m, m < 4 → (bitN (t.rd GROUP_STATUS.SEEN) m = true ↔ s.group.got.getD m false = true))
         ∧ ((∃ m, twice m) → t.rd GROUP_STATUS.SEAL_DISSENT = 1) ∧ ((∃ m, twiceC m) → t.rd GROUP_STATUS.COMPAT_DISSENT = 1)
         ∧ ((∃ m ∈ s.others, m < 4 ∧ s.group.got.getD m false = false ∧ s.group.depart.getD m false = false ∧ 2 ≤ s.group.misses.getD m 0) → t.rd GROUP_STATUS.MEMBER_MISSING = 1)
       (s.rd GROUP_SAFE_CFG.DISSENT_ACTION ≤ 2 → s.members ≤ 4 → ¬ limp → ¬ pull → ∃ t, exec .groupExchangeEnd s = .next t ∧ shown t ∧ t.safety = s.safety ∧ t.group.groupPresent = false
         ∧ Frame s t [.group] flds)
       ∧ (s.rd GROUP_SAFE_CFG.DISSENT_ACTION ≤ 2 → s.members ≤ 4 → limp ∨ pull → s.safety = 0 → s.safe.release = [] → s.releaseNow = none → s.on PIPE_FILL_STATUS.BEAM_VALID = true → ∃ t, exec .groupExchangeEnd s = .next t ∧ shown t
         ∧ Enters s t 1 32768 (GROUP_STATUS.PULLED :: flds) ∧ (pull → t.rd GROUP_STATUS.PULLED = 1) ∧ t.group.groupPresent = true))
  ∧ ∀ (h role member count : Nat) (s : State), role ≤ 2 →
      let t := s.latchCmd h (.groupConfig role member count)
      t.group.conflict = false ∧ t.role = role ∧ (role = 1 → t.leads = true)
        ∧ (role ≠ 2 ∨ s.group.conflict = true → t.rd GROUP_STATUS.SYNC = 0 ∧ t.group.lastEdge = none ∧ t.group.err = none)

/-- A satellite frame that is due sends the image's words, compensated and blanked as configured, and shows its length;
one that is not due sends nothing. Its end clears SENDING. A frame that has been cut does not end again. That TSRC_FB is
set only where a compensation uses the mean and nothing blanks is the model's choice (log entry 63). -/
def Obligations.SatelliteFrames : Prop :=
  ∀ s : State, Live s →
    let bad := s.on SAT_CFG.TCOMP && !s.satBlank && s.tsrcBad
    (s.sat.due = true → ∃ t, exec .satFrameStart s = .next t
      ∧ t.sat = { s.sat with due := false, start := some s.now, timing := s.rd SAT_CFG.TIMING, fallback := bad, sent := t.sat.sent } ∧ t.sat.sent.length = s.rd SAT_CFG.LEN
      ∧ (∀ k, k < s.rd SAT_CFG.LEN → let w := SMap.get noWord s.sat.image k
        t.sat.sent.getD k 0 = s.satWord w ∧ (s.satBlank = true → t.sat.sent.getD k 0 = 0)
        ∧ (s.satBlank = false → s.on SAT_CFG.TCOMP = false → t.sat.sent.getD k 0 = w))
      ∧ t.rd SAT_STATUS.SENDING = 1 ∧ t.rd SAT_FRAME.US = ((48 * s.rd SAT_CFG.LEN * satBit (s.rd SAT_CFG.TIMING) + 80000) / 1000) % 2 ^ SAT_FRAME.US.w
      ∧ (bad = true → t.rd SAT_STATUS.TSRC_FB = 1) ∧ Frame s t [.sat] [SAT_STATUS.SENDING, SAT_FRAME.US, SAT_STATUS.TSRC_FB])
    ∧ (s.sat.due = false → ∃ t, exec .satFrameStart s = .next t ∧ Frame s t [] [])
    ∧ (s.on SAT_STATUS.SENDING = true → ∃ t, exec .satFrameEnd s = .next t ∧ t.rd SAT_STATUS.SENDING = 0 ∧ t.sat = { s.sat with start := none }
      ∧ Frame s t [.sat] [SAT_STATUS.SENDING])
    ∧ (s.on SAT_STATUS.SENDING = false → ∃ t, exec .satFrameEnd s = .next t ∧ Frame s t [] [])

/-! ## Resets and boot -/

/-- R259: every reset empties the reply store, the replies held for fetching, the handle table, the queues and the
completion queue; the next packet's sequence number repeats none. -/
def Obligations.EveryReset : Prop :=
  ∀ (i : Instr) (s : State), s.resets i = true → ∃ t, exec i s = .next t ∧ t.cmd.last = [] ∧ t.cmd.kept = [] ∧ t.cmd.handles = []
    ∧ t.cmd.queues = List.replicate 5 [] ∧ t.cmd.cq = [] ∧ t.cmd.fences = [] ∧ t.cmd.tickCmds = []

/-- Each cold reset records its cause (of those in one core cycle the lowest, log entry 22, also of one that what stood
before the reset could raise), asserts FAULT_N, clears the safety causes, the killed rows, the cut windows, the tick, the
unlock and the cask beams, leaves every register without always-on or boot-cause fields at its Reset entry, keeps the
always-on ones unless VAON was lost, and, where no cellar write was in progress, keeps every byte of the cellar. A loss of
VAON, of cause POWER_ON with detail 0, counts once in a reset (log entry 89); VCORE is not monitored during a step. A warm
reset whose bank 27 is intact begins at stage 3, at OP1 and with ticks at 0, and keeps the always-on registers, the
cellar, the firmware and the SRAM of the banks it retains that are not lost, all of which MEM_RET_MASK names. Without bank
27 the reset is cold, with cause 6 (log entry 87). -/
def Obligations.Resets : Prop :=
  (∀ s : State, Canonical s → s.boot.causeAt.map (·.1) ≠ some s.cycle →
     let cold (t : State) (cause detail : Nat) := t.boot.stage = 0 ∧ t.rd SYS_BOOT_CAUSE.CAUSE = cause ∧ t.rd SYS_BOOT_CAUSE.DETAIL = detail % 16
       ∧ t.rd SYS_BOOT_CAUSE.COLD = 1 ∧ t.pins.fault = true ∧ t.pins.forceZero = true ∧ t.pins.phLow = true ∧ t.rd SAFE_CAUSE.LATCHED = 0 ∧ t.array.killed = []
       ∧ (∀ c ∈ t.array.cuts, c.en = false) ∧ t.tickCount = 0 ∧ t.tick.tickAt = none ∧ t.cmd.unlock = none ∧ (∀ k, k < 2 → t.rd (validFld k) = 0) ∧ t.pipe.trimValid = false
       ∧ t.pending = s.pending
     let kept (t : State) := (∀ a fs, regFields a = some fs → pMask fs = 0 → a ≠ SYS_BOOT_CAUSE.CAUSE.addr → t.reg a = regReset a)
       ∧ t.rd TICK_EPOCH.EPOCH = s.rd TICK_EPOCH.EPOCH ∧ t.rd SYS_BOOT_COUNT.BOOTS = s.rd SYS_BOOT_COUNT.BOOTS
       ∧ t.rd SYS_BOOT_COUNT.ATTEMPTS = s.rd SYS_BOOT_COUNT.ATTEMPTS ∧ t.rd POWER_WAKE.CAUSE = s.rd POWER_WAKE.CAUSE ∧ t.tick.tb = s.tick.tb
     let lost (t : State) := t.rd TICK_EPOCH.EPOCH = min (2 ^ TICK_EPOCH.EPOCH.w - 1) (s.rd TICK_EPOCH.EPOCH + 1) ∧ t.rd POWER_TIME.QUALITY = 2 ∧ t.tick.tb = 0
       ∧ t.rd SYS_BOOT_COUNT.BOOTS = 0 ∧ t.rd POWER_WAKE.CAUSE = 0 ∧ t.rd SYS_BOOT_CAUSE.VAON_LOST = 1 ∧ t.power.xtal = false
     let cellar (t : State) := s.cellar.run = none → s.safe.sealing = [] → s.cellar.digestWrite = [] → s.safe.log = [] → ∀ a, t.cellarByte a = s.cellarByte a
     (∀ n e, n = false ∨ e = true → ∃ t, exec (.resetPin n e) s = .next t ∧ cold t 1 0 ∧ kept t ∧ cellar t ∧ t.boot.resetN = n ∧ t.boot.testEn = e)
     ∧ (∃ t, exec (.resetPin true false) s = .next t ∧ t.boot = { s.boot with resetN := true, testEn := false } ∧ Frame s t [.boot] [])
     ∧ (∃ t, exec .brownOut s = .next t ∧ cold t 2 0 ∧ kept t ∧ cellar t)
     ∧ (∀ r, r ≠ 0 ∨ s.power.step = none → ∃ t, exec (.railFault r) s = .next t ∧ cold t 3 r ∧ kept t ∧ cellar t)
     ∧ (s.power.step ≠ none → ∃ t, exec (.railFault 0) s = .next t ∧ Frame s t [] [])
     ∧ (s.inReset = false → s.sleeping = false → ∃ t, exec .clockLoss s = .next t ∧ cold t 4 0 ∧ kept t ∧ cellar t)
     ∧ (s.inReset = true ∨ s.sleeping = true → ∃ t, exec .clockLoss s = .next t ∧ Frame s t [] [])
     ∧ (∃ t, exec .jtagReset s = .next t ∧ cold t 9 0 ∧ kept t ∧ cellar t)
     ∧ (∃ t u, exec .jtagReset s = .next t ∧ exec .brownOut t = .next u ∧ u.rd SYS_BOOT_CAUSE.CAUSE = 2)
     ∧ (∃ t u, exec .brownOut s = .next t ∧ exec .jtagReset t = .next u ∧ u.rd SYS_BOOT_CAUSE.CAUSE = 2)
     ∧ (∀ d n, s.boot.window = some (true, d) → ∃ t, exec (.resetDeviceStart n) s = .next t ∧ cold t 7 d ∧ kept t ∧ cellar t)
     ∧ (s.boot.window = none → ∀ n, ∃ t, exec (.resetDeviceStart n) s = .next t ∧ Frame s t [] [])
     ∧ (3 ≤ s.boot.stage → s.boot.stage ≤ 10 → s.boot.held = false → ∃ t, exec .bootTimeout s = .next t ∧ cold t 8 s.boot.stage ∧ kept t ∧ cellar t)
     ∧ (s.boot.stage < 3 ∨ 10 < s.boot.stage ∨ s.boot.held = true → ∃ t, exec .bootTimeout s = .next t ∧ Frame s t [] [])
     ∧ (∃ t, exec (.powerOn false) s = .next t ∧ cold t 0 0 ∧ kept t ∧ cellar t)
     ∧ (s.inReset = true → s.boot.vaonLost = true → ∀ i, i = .powerOn true ∨ i = .vaonLoss → ∃ t, exec i s = .next t ∧ cold t 0 0 ∧ cellar t
       ∧ t.rd TICK_EPOCH.EPOCH = s.rd TICK_EPOCH.EPOCH ∧ t.tick.tb = s.tick.tb ∧ t.rd SYS_BOOT_CAUSE.VAON_LOST = 1 ∧ t.boot.vaonLost = true)
     ∧ (s.inReset = false ∨ s.boot.vaonLost = false → ∃ t, exec (.powerOn true) s = .next t ∧ cold t 0 0 ∧ lost t ∧ cellar t)
     ∧ (s.inReset = false ∨ s.boot.vaonLost = false → ∃ t, exec .vaonLoss s = .next t ∧ cold t 0 0 ∧ lost t ∧ cellar t))
  ∧ (∀ (c d : Nat) (s : State), s.boot.causeAt = some (s.cycle, c, d) →
       let stands (i : Instr) (cause detail : Nat) := ∃ t, exec i s = .next t ∧ t.rd SYS_BOOT_CAUSE.COLD = 1
         ∧ t.rd SYS_BOOT_CAUSE.CAUSE = (if c ≤ cause then c else cause) % 16 ∧ t.rd SYS_BOOT_CAUSE.DETAIL = (if c ≤ cause then d else detail) % 16
         ∧ t.inReset = true
       (∀ n e, n = false ∨ e = true → stands (.resetPin n e) 1 0) ∧ stands .brownOut 2 0 ∧ stands .jtagReset 9 0 ∧ stands (.powerOn false) 0 0
       ∧ (∀ r, r ≠ 0 ∨ s.power.step = none → stands (.railFault r) 3 r)
       ∧ (s.inReset = true → s.boot.before.clock = true → stands .clockLoss 4 0)
       ∧ (s.inReset = true → 3 ≤ s.boot.before.stage → s.boot.before.stage ≤ 10 → stands .bootTimeout 8 s.boot.before.stage)
       ∧ (∀ n cold w, s.inReset = true → s.boot.window = none → s.boot.before.window = some (cold, w) →
         stands (.resetDeviceStart n) (if cold then 7 else 6) w))
  ∧ (∀ (lost d : Nat) (s : State), Canonical s → s.boot.window = some (false, d) → s.boot.causeAt.map (·.1) ≠ some s.cycle →
       (bitN lost 27 = false → ∃ t, exec (.resetDeviceStart lost) s = .next t
         ∧ t.boot.stage = 3 ∧ t.rd SYS_BOOT_CAUSE.CAUSE = 6 ∧ t.rd SYS_BOOT_CAUSE.DETAIL = 0 ∧ t.rd SYS_BOOT_CAUSE.COLD = 0 ∧ t.rd POWER_STATUS.OP = 1 ∧ t.power.div = 1
         ∧ t.tickCount = 0 ∧ t.tick.tickAt = none ∧ t.pins.fault = true ∧ t.pins.phLow = true ∧ t.rd SAFE_CAUSE.LATCHED = 0 ∧ t.array.killed = [] ∧ (∀ c ∈ t.array.cuts, c.en = false)
         ∧ t.cmd.unlock = none ∧ (∀ k, k < 2 → t.rd (validFld k) = 0) ∧ t.boot.fw = s.boot.fw ∧ t.boot.slot = s.boot.slot ∧ t.tick.tb = s.tick.tb
         ∧ t.rd TICK_EPOCH.EPOCH = s.rd TICK_EPOCH.EPOCH ∧ t.rd SYS_BOOT_COUNT.BOOTS = s.rd SYS_BOOT_COUNT.BOOTS ∧ (s.cellar.run = none → ∀ a, t.cellarByte a = s.cellarByte a)
         ∧ (∀ b, b ∈ warmBanks → s.symLoading = false ∨ b ≠ 25 → bitN lost b = false → b ∈ t.boot.kept ∧ ∀ a, a / 1048576 = b → t.sramByte a = s.sramByte a)
         ∧ ∀ b ∈ warmBanks, bitN (t.rd MEM_RET_MASK.BANKS) b = true)
       ∧ (bitN lost 27 = true → ∃ t, exec (.resetDeviceStart lost) s = .next t ∧ t.boot.stage = 0 ∧ t.rd SYS_BOOT_CAUSE.CAUSE = 6 ∧ t.rd SYS_BOOT_CAUSE.COLD = 1))

/-- Stage 1 is released out of a cold reset with RESET_N high, and the time base goes on by the count; else nothing
happens. Without a failure each stage leads to the next, at its end with its own effect: OP1 at the end of stage 2 and the
safe inputs at that of stage 3 (log entry 85), the attempt count as stage 6 begins, also with a kept image (log entry 87),
and at completion the receivers, the boot count and the running device. Without firmware, or with a failure of the safety
core's RAM, boot is held, with both packet paths open; SF runs all the same (log entry 85), and failures found before are
recorded. -/
def Obligations.Boot : Prop :=
  ∀ s : State,
    (∀ n, s.boot.stage = 0 → s.boot.cold = true → s.boot.resetN = true → s.boot.testEn = false → s.boot.vaonLost = false →
      ∃ t, exec (.stage1Release n) s = .next t ∧ t.boot = { s.boot with stage := 1, start := s.now, causeAt := none } ∧ t.rd SYS_BOOT_CAUSE.COLD = 1
        ∧ t.rd SYS_BOOT_HOLD.COUNT = min n (2 ^ 32 - 1) ∧ t.on SYS_BOOT_CAUSE.HOLD_RC = !s.power.xtal
        ∧ t.tick.tb = BitVec.ofNat 64 (s.tick.tb.toNat + rdiv (min n (2 ^ 32) * s.aonPeriod8) 8000)
        ∧ t.rd POWER_TIME.QUALITY = (if 2 ^ 32 ≤ n then 2 else if s.power.xtal = true then s.rd POWER_TIME.QUALITY else max 1 (s.rd POWER_TIME.QUALITY))
        ∧ Frame s t [.boot, .tick, .mem] [SYS_BOOT_CAUSE.COLD, SYS_BOOT_HOLD.COUNT, SYS_BOOT_CAUSE.HOLD_RC, POWER_TIME.QUALITY, POWER_TIME.LAST_SRC, POWER_AON_CNT.COUNT])
    ∧ (∀ n, s.boot.stage = 0 → s.boot.cold = true → s.boot.resetN = true → s.boot.testEn = false → s.boot.vaonLost = true →
      ∃ t, exec (.stage1Release n) s = .next t ∧ t.boot = { s.boot with stage := 1, start := s.now, causeAt := none } ∧ t.rd SYS_BOOT_HOLD.COUNT = 0
        ∧ t.rd SYS_BOOT_CAUSE.HOLD_RC = 1 ∧ t.rd SYS_BOOT_CAUSE.VAON_LOST = 1 ∧ t.rd POWER_TIME.QUALITY = 2 ∧ t.tick.tb = s.tick.tb)
    ∧ (∀ n, s.boot.stage ≠ 0 ∨ s.boot.cold = false ∨ s.boot.resetN = false ∨ s.boot.testEn = true → ∃ t, exec (.stage1Release n) s = .next t ∧ Frame s t [] [])
    ∧ (∀ k, s.boot.stage = k → 1 ≤ k → k ≤ 10 → s.boot.held = false → s.boot.fails = [] →
      (k = 6 → s.fwKept = true ∨ ∃ j, j < 2 ∧ s.imgGood j = true) → ∃ t, exec (.bootStageDone []) s = .next t
        ∧ t.boot.stage = k + 1 ∧ t.rd SYS_BOOT_CAUSE.STAGE = k ∧ t.boot.held = false
        ∧ (k = 2 → t.rd POWER_STATUS.OP = 1 ∧ t.power.div = 1) ∧ (k = 3 → t.safe.running = true)
        ∧ (k = 5 → t.rd SYS_BOOT_COUNT.ATTEMPTS = min 3 (s.rd SYS_BOOT_COUNT.ATTEMPTS + 1)) ∧ (k = 6 → t.boot.fw.isSome = true)
        ∧ (k = 9 → ∃ r, t.cellar.bootRec = some r ∧ r.st = 1 ∧ r.fail = 0 ∧ r.plan = formPlan s.boot.quick ∧ r.duration = formTime s.boot.quick)
        ∧ (k = 10 → t.rd SYS_BOOT_COUNT.BOOTS = min (2 ^ SYS_BOOT_COUNT.BOOTS.w - 1) (s.rd SYS_BOOT_COUNT.BOOTS + 1) ∧ t.rd SYS_BOOT_COUNT.ATTEMPTS = 0 ∧ t.daelo.rxOn = true
          ∧ t.rd SYS_BOOT_TIME.US = min (2 ^ 32 - 1) (rdiv (s.now - s.boot.start) 1000) ∧ t.rd SYS_BOOT_BIST.FAIL = 0))
    ∧ (s.boot.stage = 6 → s.boot.held = false → s.fwKept = false → (∀ j, j < 2 → s.imgGood j = false) → ∃ t, exec (.bootStageDone []) s = .next t
      ∧ t.boot.stage = 6 ∧ t.boot.held = true ∧ t.rd SYS_BOOT_CAUSE.HELD = 1 ∧ t.pins.phLow = true ∧ t.pins.fault = true ∧ t.engineOn = true
      ∧ t.daelo.rxOn = true ∧ (s.rd LINK_CTRL.RL_EN = 1 → t.daelo.rl.running = true) ∧ (s.boot.fails ≠ [] → t.cellar.bootRec.isSome = true))
    ∧ (∀ d, s.boot.stage = 3 → s.boot.held = false → ∃ t, exec (.bootStageDone [(1, d)]) s = .next t
      ∧ t.boot.stage = 3 ∧ t.boot.held = true ∧ t.safe.running = true ∧ t.rd SYS_BOOT_CAUSE.HELD = 1 ∧ t.rd BIST_STATUS.BOOT_FAIL = 1
      ∧ bitN (t.rd SYS_BOOT_BIST.FAIL) 1 = true)
    ∧ (∀ fails, s.boot.stage = 0 ∨ 10 < s.boot.stage ∨ s.boot.held = true → ∃ t, exec (.bootStageDone fails) s = .next t ∧ Frame s t [] [])
end

