-- ==== Sys2Proof/Laws/Map.lean ====
section
/-!
SUPPORT. What the sparse maps and the SRAM do: a read after a write, and that every operation keeps the canonical form.
-/
namespace Sys2Proof.Machine

variable {α : Type}

/-! ## Reading -/

theorem SMap.get_append_absent (d : Nat → α) (a b : SMap α) (k : Nat) (h : ∀ e ∈ a, e.1 ≠ k) :
    SMap.get d (a ++ b) k = SMap.get d b k := by
  induction a with
  | nil => rfl
  | cons e r ih =>
    obtain ⟨j, v⟩ := e
    have hj : j ≠ k := h (j, v) (by simp)
    simp only [List.cons_append, SMap.get, if_neg hj]
    exact ih fun e he => h e (by simp [he])

theorem SMap.get_absent (d : Nat → α) (a : SMap α) (k : Nat) (h : ∀ e ∈ a, e.1 ≠ k) : SMap.get d a k = d k := by
  have := SMap.get_append_absent d a [] k h
  simpa [SMap.get] using this

theorem SMap.get_filter (d : Nat → α) (m : SMap α) (k : Nat) (p : Nat × α → Bool) (hp : ∀ e ∈ m, e.1 = k → p e = true) :
    SMap.get d (m.filter p) k = SMap.get d m k := by
  induction m with
  | nil => rfl
  | cons e r ih =>
    obtain ⟨j, v⟩ := e
    have hr := ih fun e he => hp e (by simp [he])
    by_cases hj : j = k
    · subst hj
      have : p (j, v) = true := hp (j, v) (by simp) rfl
      simp [this, SMap.get]
    · by_cases h : p (j, v) = true
      · simp [h, SMap.get, hj, hr]
      · simp [h, SMap.get, hj, hr]

/-- A read of the written key gives the value written. -/
theorem SMap.get_put_same [DecidableEq α] (d : Nat → α) (m : SMap α) (k : Nat) (v : α) : SMap.get d (SMap.put d m k v) k = v := by
  unfold SMap.put
  have h1 : ∀ e ∈ m.filter (fun e => decide (e.1 < k)), e.1 ≠ k := by
    intro e he; simp at he; omega
  have h2 : ∀ e ∈ m.filter (fun e => decide (k < e.1)), e.1 ≠ k := by
    intro e he; simp at he; omega
  rw [List.append_assoc, SMap.get_append_absent d _ _ k h1]
  by_cases hv : v = d k
  · simp only [hv, if_true, List.nil_append]; rw [SMap.get_absent d _ k h2]
  · simp [hv, SMap.get]

theorem SMap.get_append_right_absent (d : Nat → α) (a b : SMap α) (k : Nat) (h : ∀ e ∈ b, e.1 ≠ k) :
    SMap.get d (a ++ b) k = SMap.get d a k := by
  induction a with
  | nil => simpa [SMap.get] using SMap.get_absent d b k h
  | cons e r ih =>
    obtain ⟨j, v⟩ := e
    simp only [List.cons_append, SMap.get, ih]

/-- A read of another key is not changed. -/
theorem SMap.get_put_ne [DecidableEq α] (d : Nat → α) (m : SMap α) (j k : Nat) (v : α) (h : j ≠ k) :
    SMap.get d (SMap.put d m k v) j = SMap.get d m j := by
  unfold SMap.put
  have hm : ∀ e ∈ (if v = d k then ([] : SMap α) else [(k, v)]), e.1 ≠ j := by
    intro e he
    by_cases hv : v = d k <;> simp [hv] at he
    subst he; exact h.symm
  rcases Nat.lt_or_gt_of_ne h with hlt | hgt
  · rw [SMap.get_append_right_absent, SMap.get_append_right_absent d _ _ j hm, SMap.get_filter]
    · intro e _ he; simp; omega
    · intro e he; simp at he; omega
  · rw [List.append_assoc, SMap.get_append_absent, SMap.get_append_absent d _ _ j hm, SMap.get_filter]
    · intro e _ he; simp; omega
    · intro e he; simp at he; omega

/-! ## The canonical form -/

/-- Writing keeps the canonical form. -/
theorem SMap.put_wf [DecidableEq α] (d : Nat → α) (m : SMap α) (k : Nat) (v : α) (h : SMap.Wf d m) : SMap.Wf d (SMap.put d m k v) := by
  obtain ⟨hp, hd⟩ := h
  unfold SMap.put
  refine ⟨?_, ?_⟩
  · rw [List.append_assoc, List.pairwise_append, List.pairwise_append]
    refine ⟨hp.filter _, ⟨?_, hp.filter _, ?_⟩, ?_⟩
    · by_cases hv : v = d k <;> simp [hv]
    · intro a ha b hb
      by_cases hv : v = d k
      · simp [hv] at ha
      · simp [hv] at ha; simp at hb; subst ha; exact hb.2
    · intro a ha b hb
      simp at ha
      rcases List.mem_append.mp hb with hb | hb
      · by_cases hv : v = d k
        · simp [hv] at hb
        · simp [hv] at hb; subst hb; exact ha.2
      · simp at hb; omega
  · intro e he
    rcases List.mem_append.mp he with he | he
    · rcases List.mem_append.mp he with he | he
      · simp at he; exact hd e he.1
      · by_cases hv : v = d k
        · simp [hv] at he
        · simp [hv] at he; subst he; exact hv
    · simp at he; exact hd e he.1

theorem SMap.putAll_wf [DecidableEq α] (d : Nat → α) (m : SMap α) (k : Nat) (vs : List α) (h : SMap.Wf d m) :
    SMap.Wf d (SMap.putAll d m k vs) := by
  induction vs generalizing m k with
  | nil => exact h
  | cons v r ih => exact ih _ _ (SMap.put_wf d m k v h)

theorem SMap.nil_wf (d : Nat → α) : SMap.Wf d ([] : SMap α) := ⟨List.Pairwise.nil, by simp⟩

/-! ## SRAM -/

theorem cellsAt_mem (a : Nat) (bs : List Byte) (c : Host.Cell) (h : c ∈ cellsAt a bs) : a ≤ c.1 ∧ c.1 < a + bs.length := by
  induction bs generalizing a with
  | nil => simp [cellsAt] at h
  | cons b r ih =>
    simp [cellsAt] at h
    rcases h with rfl | h
    · simp
    · have := ih _ h; simp only [List.length_cons]; omega

theorem cellsAt_sorted (a : Nat) (bs : List Byte) : (cellsAt a bs).Pairwise fun x y => x.1 < y.1 := by
  induction bs generalizing a with
  | nil => exact List.Pairwise.nil
  | cons b r ih =>
    refine List.pairwise_cons.mpr ⟨fun c hc => ?_, ih (a + 1)⟩
    have := cellsAt_mem (a + 1) r c hc
    simp only; omega

/-- Writing SRAM keeps the canonical form. -/
theorem sramPutAll_wf (m : List Host.Cell) (a : Nat) (bs : List Byte) (h : SramWf m) : SramWf (sramPutAll m a bs) := by
  unfold sramPutAll SramWf
  rw [List.append_assoc, List.pairwise_append, List.pairwise_append]
  refine ⟨h.filter _, ⟨cellsAt_sorted a bs, h.filter _, ?_⟩, ?_⟩
  · intro x hx y hy
    have := cellsAt_mem a bs x hx
    simp at hy; omega
  · intro x hx y hy
    simp at hx
    rcases List.mem_append.mp hy with hy | hy
    · have := cellsAt_mem a bs y hy; omega
    · simp at hy; omega

/-- Losing a bank keeps the canonical form. -/
theorem loseBank_wf (s : State) (b : Nat) (h : SramWf s.mem.sram) : SramWf (s.loseBank b).mem.sram := h.filter _

theorem sramWrite_wf (s : State) (a : Nat) (bs : List Byte) (h : SramWf s.mem.sram) : SramWf (s.sramWrite a bs).mem.sram :=
  sramPutAll_wf _ a bs h

theorem reset_sram_wf : SramWf State.reset.mem.sram := List.Pairwise.nil

end Sys2Proof.Machine
end

