-- ==== Sys2Proof/Laws/State.lean ====
section
/-!
SUPPORT. One lemma per field and update of the register map: every register operation leaves every other part of the
state as it is.
-/
namespace Sys2Proof.Machine


/-! ## `State.setReg` -/

@[simp] theorem State.setReg_now (s : State) (a : Nat) (v : Word) : (s.setReg a v).now = s.now := rfl
@[simp] theorem State.setReg_cycle (s : State) (a : Nat) (v : Word) : (s.setReg a v).cycle = s.cycle := rfl
@[simp] theorem State.setReg_free (s : State) (a : Nat) (v : Word) : (s.setReg a v).free = s.free := rfl
@[simp] theorem State.setReg_tick (s : State) (a : Nat) (v : Word) : (s.setReg a v).tick = s.tick := rfl
@[simp] theorem State.setReg_array (s : State) (a : Nat) (v : Word) : (s.setReg a v).array = s.array := rfl
@[simp] theorem State.setReg_pipe (s : State) (a : Nat) (v : Word) : (s.setReg a v).pipe = s.pipe := rfl
@[simp] theorem State.setReg_layer (s : State) (a : Nat) (v : Word) : (s.setReg a v).layer = s.layer := rfl
@[simp] theorem State.setReg_cask (s : State) (a : Nat) (v : Word) : (s.setReg a v).cask = s.cask := rfl
@[simp] theorem State.setReg_daelo (s : State) (a : Nat) (v : Word) : (s.setReg a v).daelo = s.daelo := rfl
@[simp] theorem State.setReg_safe (s : State) (a : Nat) (v : Word) : (s.setReg a v).safe = s.safe := rfl
@[simp] theorem State.setReg_cmd (s : State) (a : Nat) (v : Word) : (s.setReg a v).cmd = s.cmd := rfl
@[simp] theorem State.setReg_mem (s : State) (a : Nat) (v : Word) : (s.setReg a v).mem = s.mem := rfl
@[simp] theorem State.setReg_cellar (s : State) (a : Nat) (v : Word) : (s.setReg a v).cellar = s.cellar := rfl
@[simp] theorem State.setReg_power (s : State) (a : Nat) (v : Word) : (s.setReg a v).power = s.power := rfl
@[simp] theorem State.setReg_therm (s : State) (a : Nat) (v : Word) : (s.setReg a v).therm = s.therm := rfl
@[simp] theorem State.setReg_cal (s : State) (a : Nat) (v : Word) : (s.setReg a v).cal = s.cal := rfl
@[simp] theorem State.setReg_test (s : State) (a : Nat) (v : Word) : (s.setReg a v).test = s.test := rfl
@[simp] theorem State.setReg_group (s : State) (a : Nat) (v : Word) : (s.setReg a v).group = s.group := rfl
@[simp] theorem State.setReg_sat (s : State) (a : Nat) (v : Word) : (s.setReg a v).sat = s.sat := rfl
@[simp] theorem State.setReg_boot (s : State) (a : Nat) (v : Word) : (s.setReg a v).boot = s.boot := rfl
@[simp] theorem State.setReg_arb (s : State) (a : Nat) (v : Word) : (s.setReg a v).arb = s.arb := rfl
@[simp] theorem State.setReg_pins (s : State) (a : Nat) (v : Word) : (s.setReg a v).pins = s.pins := rfl
@[simp] theorem State.setReg_pending (s : State) (a : Nat) (v : Word) : (s.setReg a v).pending = s.pending := rfl

/-! ## `State.wr` -/

@[simp] theorem State.wr_now (s : State) (f : Fld) (x : Nat) : (s.wr f x).now = s.now := rfl
@[simp] theorem State.wr_cycle (s : State) (f : Fld) (x : Nat) : (s.wr f x).cycle = s.cycle := rfl
@[simp] theorem State.wr_free (s : State) (f : Fld) (x : Nat) : (s.wr f x).free = s.free := rfl
@[simp] theorem State.wr_tick (s : State) (f : Fld) (x : Nat) : (s.wr f x).tick = s.tick := rfl
@[simp] theorem State.wr_array (s : State) (f : Fld) (x : Nat) : (s.wr f x).array = s.array := rfl
@[simp] theorem State.wr_pipe (s : State) (f : Fld) (x : Nat) : (s.wr f x).pipe = s.pipe := rfl
@[simp] theorem State.wr_layer (s : State) (f : Fld) (x : Nat) : (s.wr f x).layer = s.layer := rfl
@[simp] theorem State.wr_cask (s : State) (f : Fld) (x : Nat) : (s.wr f x).cask = s.cask := rfl
@[simp] theorem State.wr_daelo (s : State) (f : Fld) (x : Nat) : (s.wr f x).daelo = s.daelo := rfl
@[simp] theorem State.wr_safe (s : State) (f : Fld) (x : Nat) : (s.wr f x).safe = s.safe := rfl
@[simp] theorem State.wr_cmd (s : State) (f : Fld) (x : Nat) : (s.wr f x).cmd = s.cmd := rfl
@[simp] theorem State.wr_mem (s : State) (f : Fld) (x : Nat) : (s.wr f x).mem = s.mem := rfl
@[simp] theorem State.wr_cellar (s : State) (f : Fld) (x : Nat) : (s.wr f x).cellar = s.cellar := rfl
@[simp] theorem State.wr_power (s : State) (f : Fld) (x : Nat) : (s.wr f x).power = s.power := rfl
@[simp] theorem State.wr_therm (s : State) (f : Fld) (x : Nat) : (s.wr f x).therm = s.therm := rfl
@[simp] theorem State.wr_cal (s : State) (f : Fld) (x : Nat) : (s.wr f x).cal = s.cal := rfl
@[simp] theorem State.wr_test (s : State) (f : Fld) (x : Nat) : (s.wr f x).test = s.test := rfl
@[simp] theorem State.wr_group (s : State) (f : Fld) (x : Nat) : (s.wr f x).group = s.group := rfl
@[simp] theorem State.wr_sat (s : State) (f : Fld) (x : Nat) : (s.wr f x).sat = s.sat := rfl
@[simp] theorem State.wr_boot (s : State) (f : Fld) (x : Nat) : (s.wr f x).boot = s.boot := rfl
@[simp] theorem State.wr_arb (s : State) (f : Fld) (x : Nat) : (s.wr f x).arb = s.arb := rfl
@[simp] theorem State.wr_pins (s : State) (f : Fld) (x : Nat) : (s.wr f x).pins = s.pins := rfl
@[simp] theorem State.wr_pending (s : State) (f : Fld) (x : Nat) : (s.wr f x).pending = s.pending := rfl

/-! ## `State.wrB` -/

@[simp] theorem State.wrB_now (s : State) (f : Fld) (b : Bool) : (s.wrB f b).now = s.now := rfl
@[simp] theorem State.wrB_cycle (s : State) (f : Fld) (b : Bool) : (s.wrB f b).cycle = s.cycle := rfl
@[simp] theorem State.wrB_free (s : State) (f : Fld) (b : Bool) : (s.wrB f b).free = s.free := rfl
@[simp] theorem State.wrB_tick (s : State) (f : Fld) (b : Bool) : (s.wrB f b).tick = s.tick := rfl
@[simp] theorem State.wrB_array (s : State) (f : Fld) (b : Bool) : (s.wrB f b).array = s.array := rfl
@[simp] theorem State.wrB_pipe (s : State) (f : Fld) (b : Bool) : (s.wrB f b).pipe = s.pipe := rfl
@[simp] theorem State.wrB_layer (s : State) (f : Fld) (b : Bool) : (s.wrB f b).layer = s.layer := rfl
@[simp] theorem State.wrB_cask (s : State) (f : Fld) (b : Bool) : (s.wrB f b).cask = s.cask := rfl
@[simp] theorem State.wrB_daelo (s : State) (f : Fld) (b : Bool) : (s.wrB f b).daelo = s.daelo := rfl
@[simp] theorem State.wrB_safe (s : State) (f : Fld) (b : Bool) : (s.wrB f b).safe = s.safe := rfl
@[simp] theorem State.wrB_cmd (s : State) (f : Fld) (b : Bool) : (s.wrB f b).cmd = s.cmd := rfl
@[simp] theorem State.wrB_mem (s : State) (f : Fld) (b : Bool) : (s.wrB f b).mem = s.mem := rfl
@[simp] theorem State.wrB_cellar (s : State) (f : Fld) (b : Bool) : (s.wrB f b).cellar = s.cellar := rfl
@[simp] theorem State.wrB_power (s : State) (f : Fld) (b : Bool) : (s.wrB f b).power = s.power := rfl
@[simp] theorem State.wrB_therm (s : State) (f : Fld) (b : Bool) : (s.wrB f b).therm = s.therm := rfl
@[simp] theorem State.wrB_cal (s : State) (f : Fld) (b : Bool) : (s.wrB f b).cal = s.cal := rfl
@[simp] theorem State.wrB_test (s : State) (f : Fld) (b : Bool) : (s.wrB f b).test = s.test := rfl
@[simp] theorem State.wrB_group (s : State) (f : Fld) (b : Bool) : (s.wrB f b).group = s.group := rfl
@[simp] theorem State.wrB_sat (s : State) (f : Fld) (b : Bool) : (s.wrB f b).sat = s.sat := rfl
@[simp] theorem State.wrB_boot (s : State) (f : Fld) (b : Bool) : (s.wrB f b).boot = s.boot := rfl
@[simp] theorem State.wrB_arb (s : State) (f : Fld) (b : Bool) : (s.wrB f b).arb = s.arb := rfl
@[simp] theorem State.wrB_pins (s : State) (f : Fld) (b : Bool) : (s.wrB f b).pins = s.pins := rfl
@[simp] theorem State.wrB_pending (s : State) (f : Fld) (b : Bool) : (s.wrB f b).pending = s.pending := rfl

/-! ## `State.sets` -/

@[simp] theorem State.sets_now (s : State) (f : Fld) : (s.sets f).now = s.now := rfl
@[simp] theorem State.sets_cycle (s : State) (f : Fld) : (s.sets f).cycle = s.cycle := rfl
@[simp] theorem State.sets_free (s : State) (f : Fld) : (s.sets f).free = s.free := rfl
@[simp] theorem State.sets_tick (s : State) (f : Fld) : (s.sets f).tick = s.tick := rfl
@[simp] theorem State.sets_array (s : State) (f : Fld) : (s.sets f).array = s.array := rfl
@[simp] theorem State.sets_pipe (s : State) (f : Fld) : (s.sets f).pipe = s.pipe := rfl
@[simp] theorem State.sets_layer (s : State) (f : Fld) : (s.sets f).layer = s.layer := rfl
@[simp] theorem State.sets_cask (s : State) (f : Fld) : (s.sets f).cask = s.cask := rfl
@[simp] theorem State.sets_daelo (s : State) (f : Fld) : (s.sets f).daelo = s.daelo := rfl
@[simp] theorem State.sets_safe (s : State) (f : Fld) : (s.sets f).safe = s.safe := rfl
@[simp] theorem State.sets_cmd (s : State) (f : Fld) : (s.sets f).cmd = s.cmd := rfl
@[simp] theorem State.sets_mem (s : State) (f : Fld) : (s.sets f).mem = s.mem := rfl
@[simp] theorem State.sets_cellar (s : State) (f : Fld) : (s.sets f).cellar = s.cellar := rfl
@[simp] theorem State.sets_power (s : State) (f : Fld) : (s.sets f).power = s.power := rfl
@[simp] theorem State.sets_therm (s : State) (f : Fld) : (s.sets f).therm = s.therm := rfl
@[simp] theorem State.sets_cal (s : State) (f : Fld) : (s.sets f).cal = s.cal := rfl
@[simp] theorem State.sets_test (s : State) (f : Fld) : (s.sets f).test = s.test := rfl
@[simp] theorem State.sets_group (s : State) (f : Fld) : (s.sets f).group = s.group := rfl
@[simp] theorem State.sets_sat (s : State) (f : Fld) : (s.sets f).sat = s.sat := rfl
@[simp] theorem State.sets_boot (s : State) (f : Fld) : (s.sets f).boot = s.boot := rfl
@[simp] theorem State.sets_arb (s : State) (f : Fld) : (s.sets f).arb = s.arb := rfl
@[simp] theorem State.sets_pins (s : State) (f : Fld) : (s.sets f).pins = s.pins := rfl
@[simp] theorem State.sets_pending (s : State) (f : Fld) : (s.sets f).pending = s.pending := rfl

/-! ## `State.incBy` -/

@[simp] theorem State.incBy_now (s : State) (f : Fld) (k : Nat) : (s.incBy f k).now = s.now := rfl
@[simp] theorem State.incBy_cycle (s : State) (f : Fld) (k : Nat) : (s.incBy f k).cycle = s.cycle := rfl
@[simp] theorem State.incBy_free (s : State) (f : Fld) (k : Nat) : (s.incBy f k).free = s.free := rfl
@[simp] theorem State.incBy_tick (s : State) (f : Fld) (k : Nat) : (s.incBy f k).tick = s.tick := rfl
@[simp] theorem State.incBy_array (s : State) (f : Fld) (k : Nat) : (s.incBy f k).array = s.array := rfl
@[simp] theorem State.incBy_pipe (s : State) (f : Fld) (k : Nat) : (s.incBy f k).pipe = s.pipe := rfl
@[simp] theorem State.incBy_layer (s : State) (f : Fld) (k : Nat) : (s.incBy f k).layer = s.layer := rfl
@[simp] theorem State.incBy_cask (s : State) (f : Fld) (k : Nat) : (s.incBy f k).cask = s.cask := rfl
@[simp] theorem State.incBy_daelo (s : State) (f : Fld) (k : Nat) : (s.incBy f k).daelo = s.daelo := rfl
@[simp] theorem State.incBy_safe (s : State) (f : Fld) (k : Nat) : (s.incBy f k).safe = s.safe := rfl
@[simp] theorem State.incBy_cmd (s : State) (f : Fld) (k : Nat) : (s.incBy f k).cmd = s.cmd := rfl
@[simp] theorem State.incBy_mem (s : State) (f : Fld) (k : Nat) : (s.incBy f k).mem = s.mem := rfl
@[simp] theorem State.incBy_cellar (s : State) (f : Fld) (k : Nat) : (s.incBy f k).cellar = s.cellar := rfl
@[simp] theorem State.incBy_power (s : State) (f : Fld) (k : Nat) : (s.incBy f k).power = s.power := rfl
@[simp] theorem State.incBy_therm (s : State) (f : Fld) (k : Nat) : (s.incBy f k).therm = s.therm := rfl
@[simp] theorem State.incBy_cal (s : State) (f : Fld) (k : Nat) : (s.incBy f k).cal = s.cal := rfl
@[simp] theorem State.incBy_test (s : State) (f : Fld) (k : Nat) : (s.incBy f k).test = s.test := rfl
@[simp] theorem State.incBy_group (s : State) (f : Fld) (k : Nat) : (s.incBy f k).group = s.group := rfl
@[simp] theorem State.incBy_sat (s : State) (f : Fld) (k : Nat) : (s.incBy f k).sat = s.sat := rfl
@[simp] theorem State.incBy_boot (s : State) (f : Fld) (k : Nat) : (s.incBy f k).boot = s.boot := rfl
@[simp] theorem State.incBy_arb (s : State) (f : Fld) (k : Nat) : (s.incBy f k).arb = s.arb := rfl
@[simp] theorem State.incBy_pins (s : State) (f : Fld) (k : Nat) : (s.incBy f k).pins = s.pins := rfl
@[simp] theorem State.incBy_pending (s : State) (f : Fld) (k : Nat) : (s.incBy f k).pending = s.pending := rfl

/-! ## `State.inc` -/

@[simp] theorem State.inc_now (s : State) (f : Fld) : (s.inc f).now = s.now := rfl
@[simp] theorem State.inc_cycle (s : State) (f : Fld) : (s.inc f).cycle = s.cycle := rfl
@[simp] theorem State.inc_free (s : State) (f : Fld) : (s.inc f).free = s.free := rfl
@[simp] theorem State.inc_tick (s : State) (f : Fld) : (s.inc f).tick = s.tick := rfl
@[simp] theorem State.inc_array (s : State) (f : Fld) : (s.inc f).array = s.array := rfl
@[simp] theorem State.inc_pipe (s : State) (f : Fld) : (s.inc f).pipe = s.pipe := rfl
@[simp] theorem State.inc_layer (s : State) (f : Fld) : (s.inc f).layer = s.layer := rfl
@[simp] theorem State.inc_cask (s : State) (f : Fld) : (s.inc f).cask = s.cask := rfl
@[simp] theorem State.inc_daelo (s : State) (f : Fld) : (s.inc f).daelo = s.daelo := rfl
@[simp] theorem State.inc_safe (s : State) (f : Fld) : (s.inc f).safe = s.safe := rfl
@[simp] theorem State.inc_cmd (s : State) (f : Fld) : (s.inc f).cmd = s.cmd := rfl
@[simp] theorem State.inc_mem (s : State) (f : Fld) : (s.inc f).mem = s.mem := rfl
@[simp] theorem State.inc_cellar (s : State) (f : Fld) : (s.inc f).cellar = s.cellar := rfl
@[simp] theorem State.inc_power (s : State) (f : Fld) : (s.inc f).power = s.power := rfl
@[simp] theorem State.inc_therm (s : State) (f : Fld) : (s.inc f).therm = s.therm := rfl
@[simp] theorem State.inc_cal (s : State) (f : Fld) : (s.inc f).cal = s.cal := rfl
@[simp] theorem State.inc_test (s : State) (f : Fld) : (s.inc f).test = s.test := rfl
@[simp] theorem State.inc_group (s : State) (f : Fld) : (s.inc f).group = s.group := rfl
@[simp] theorem State.inc_sat (s : State) (f : Fld) : (s.inc f).sat = s.sat := rfl
@[simp] theorem State.inc_boot (s : State) (f : Fld) : (s.inc f).boot = s.boot := rfl
@[simp] theorem State.inc_arb (s : State) (f : Fld) : (s.inc f).arb = s.arb := rfl
@[simp] theorem State.inc_pins (s : State) (f : Fld) : (s.inc f).pins = s.pins := rfl
@[simp] theorem State.inc_pending (s : State) (f : Fld) : (s.inc f).pending = s.pending := rfl

/-! ## `State.wrI` -/

@[simp] theorem State.wrI_now (s : State) (f : Fld) (v : Int) : (s.wrI f v).now = s.now := rfl
@[simp] theorem State.wrI_cycle (s : State) (f : Fld) (v : Int) : (s.wrI f v).cycle = s.cycle := rfl
@[simp] theorem State.wrI_free (s : State) (f : Fld) (v : Int) : (s.wrI f v).free = s.free := rfl
@[simp] theorem State.wrI_tick (s : State) (f : Fld) (v : Int) : (s.wrI f v).tick = s.tick := rfl
@[simp] theorem State.wrI_array (s : State) (f : Fld) (v : Int) : (s.wrI f v).array = s.array := rfl
@[simp] theorem State.wrI_pipe (s : State) (f : Fld) (v : Int) : (s.wrI f v).pipe = s.pipe := rfl
@[simp] theorem State.wrI_layer (s : State) (f : Fld) (v : Int) : (s.wrI f v).layer = s.layer := rfl
@[simp] theorem State.wrI_cask (s : State) (f : Fld) (v : Int) : (s.wrI f v).cask = s.cask := rfl
@[simp] theorem State.wrI_daelo (s : State) (f : Fld) (v : Int) : (s.wrI f v).daelo = s.daelo := rfl
@[simp] theorem State.wrI_safe (s : State) (f : Fld) (v : Int) : (s.wrI f v).safe = s.safe := rfl
@[simp] theorem State.wrI_cmd (s : State) (f : Fld) (v : Int) : (s.wrI f v).cmd = s.cmd := rfl
@[simp] theorem State.wrI_mem (s : State) (f : Fld) (v : Int) : (s.wrI f v).mem = s.mem := rfl
@[simp] theorem State.wrI_cellar (s : State) (f : Fld) (v : Int) : (s.wrI f v).cellar = s.cellar := rfl
@[simp] theorem State.wrI_power (s : State) (f : Fld) (v : Int) : (s.wrI f v).power = s.power := rfl
@[simp] theorem State.wrI_therm (s : State) (f : Fld) (v : Int) : (s.wrI f v).therm = s.therm := rfl
@[simp] theorem State.wrI_cal (s : State) (f : Fld) (v : Int) : (s.wrI f v).cal = s.cal := rfl
@[simp] theorem State.wrI_test (s : State) (f : Fld) (v : Int) : (s.wrI f v).test = s.test := rfl
@[simp] theorem State.wrI_group (s : State) (f : Fld) (v : Int) : (s.wrI f v).group = s.group := rfl
@[simp] theorem State.wrI_sat (s : State) (f : Fld) (v : Int) : (s.wrI f v).sat = s.sat := rfl
@[simp] theorem State.wrI_boot (s : State) (f : Fld) (v : Int) : (s.wrI f v).boot = s.boot := rfl
@[simp] theorem State.wrI_arb (s : State) (f : Fld) (v : Int) : (s.wrI f v).arb = s.arb := rfl
@[simp] theorem State.wrI_pins (s : State) (f : Fld) (v : Int) : (s.wrI f v).pins = s.pins := rfl
@[simp] theorem State.wrI_pending (s : State) (f : Fld) (v : Int) : (s.wrI f v).pending = s.pending := rfl

/-! ## `State.setIf` -/

@[simp] theorem State.setIf_now (s : State) (b : Bool) (f : Fld) : (s.setIf b f).now = s.now := by unfold State.setIf; split <;> rfl
@[simp] theorem State.setIf_free (s : State) (b : Bool) (f : Fld) : (s.setIf b f).free = s.free := by unfold State.setIf; split <;> rfl
@[simp] theorem State.setIf_tick (s : State) (b : Bool) (f : Fld) : (s.setIf b f).tick = s.tick := by unfold State.setIf; split <;> rfl
@[simp] theorem State.setIf_array (s : State) (b : Bool) (f : Fld) : (s.setIf b f).array = s.array := by unfold State.setIf; split <;> rfl
@[simp] theorem State.setIf_pipe (s : State) (b : Bool) (f : Fld) : (s.setIf b f).pipe = s.pipe := by unfold State.setIf; split <;> rfl
@[simp] theorem State.setIf_layer (s : State) (b : Bool) (f : Fld) : (s.setIf b f).layer = s.layer := by unfold State.setIf; split <;> rfl
@[simp] theorem State.setIf_cask (s : State) (b : Bool) (f : Fld) : (s.setIf b f).cask = s.cask := by unfold State.setIf; split <;> rfl
@[simp] theorem State.setIf_daelo (s : State) (b : Bool) (f : Fld) : (s.setIf b f).daelo = s.daelo := by unfold State.setIf; split <;> rfl
@[simp] theorem State.setIf_safe (s : State) (b : Bool) (f : Fld) : (s.setIf b f).safe = s.safe := by unfold State.setIf; split <;> rfl
@[simp] theorem State.setIf_cmd (s : State) (b : Bool) (f : Fld) : (s.setIf b f).cmd = s.cmd := by unfold State.setIf; split <;> rfl
@[simp] theorem State.setIf_mem (s : State) (b : Bool) (f : Fld) : (s.setIf b f).mem = s.mem := by unfold State.setIf; split <;> rfl
@[simp] theorem State.setIf_cellar (s : State) (b : Bool) (f : Fld) : (s.setIf b f).cellar = s.cellar := by unfold State.setIf; split <;> rfl
@[simp] theorem State.setIf_power (s : State) (b : Bool) (f : Fld) : (s.setIf b f).power = s.power := by unfold State.setIf; split <;> rfl
@[simp] theorem State.setIf_therm (s : State) (b : Bool) (f : Fld) : (s.setIf b f).therm = s.therm := by unfold State.setIf; split <;> rfl
@[simp] theorem State.setIf_cal (s : State) (b : Bool) (f : Fld) : (s.setIf b f).cal = s.cal := by unfold State.setIf; split <;> rfl
@[simp] theorem State.setIf_test (s : State) (b : Bool) (f : Fld) : (s.setIf b f).test = s.test := by unfold State.setIf; split <;> rfl
@[simp] theorem State.setIf_group (s : State) (b : Bool) (f : Fld) : (s.setIf b f).group = s.group := by unfold State.setIf; split <;> rfl
@[simp] theorem State.setIf_sat (s : State) (b : Bool) (f : Fld) : (s.setIf b f).sat = s.sat := by unfold State.setIf; split <;> rfl
@[simp] theorem State.setIf_boot (s : State) (b : Bool) (f : Fld) : (s.setIf b f).boot = s.boot := by unfold State.setIf; split <;> rfl
@[simp] theorem State.setIf_arb (s : State) (b : Bool) (f : Fld) : (s.setIf b f).arb = s.arb := by unfold State.setIf; split <;> rfl
@[simp] theorem State.setIf_pins (s : State) (b : Bool) (f : Fld) : (s.setIf b f).pins = s.pins := by unfold State.setIf; split <;> rfl
@[simp] theorem State.setIf_pending (s : State) (b : Bool) (f : Fld) : (s.setIf b f).pending = s.pending := by unfold State.setIf; split <;> rfl

end Sys2Proof.Machine
end

