-- ==== Sys2Proof/Laws/Field.lean ====
section
/-!
SUPPORT. Register words and fields: what a read gives after a write, and that the register list keeps its canonical form.
-/
namespace Sys2Proof.Machine

/-! ## Words -/

theorem fput_toNat (v : Word) (lo w x : Nat) (h : lo + w ≤ 32) :
    (fput v lo w x).toNat = v.toNat % 2 ^ lo + (x % 2 ^ w) * 2 ^ lo + v.toNat / 2 ^ (lo + w) * 2 ^ (lo + w) := by
  unfold fput
  rw [BitVec.toNat_ofNat]
  refine Nat.mod_eq_of_lt ?_
  have h3 : v.toNat < 2 ^ 32 := v.isLt
  generalize v.toNat = n at h3 ⊢
  have h1 : n % 2 ^ lo < 2 ^ lo := Nat.mod_lt _ (Nat.two_pow_pos lo)
  have h2 : x % 2 ^ w < 2 ^ w := Nat.mod_lt _ (Nat.two_pow_pos w)
  obtain ⟨k, hk⟩ : ∃ k, 32 = lo + w + k := ⟨32 - (lo + w), by omega⟩
  rw [hk, Nat.pow_add 2 (lo + w) k] at h3 ⊢
  have h4 : n / 2 ^ (lo + w) < 2 ^ k := Nat.div_lt_of_lt_mul h3
  have h5 : n % 2 ^ lo + x % 2 ^ w * 2 ^ lo < 2 ^ (lo + w) := by
    have : (x % 2 ^ w + 1) * 2 ^ lo ≤ 2 ^ w * 2 ^ lo := Nat.mul_le_mul_right _ h2
    rw [Nat.add_mul, Nat.one_mul] at this
    rw [Nat.pow_add, Nat.mul_comm (2 ^ lo) (2 ^ w)]; omega
  have h6 : (n / 2 ^ (lo + w) + 1) * 2 ^ (lo + w) ≤ 2 ^ k * 2 ^ (lo + w) := Nat.mul_le_mul_right _ h4
  rw [Nat.add_mul, Nat.one_mul] at h6
  rw [Nat.mul_comm (2 ^ (lo + w)) (2 ^ k)]
  omega

/-- A field reads the low bits of what was written to it. -/
theorem fget_fput_same (v : Word) (lo w x : Nat) (h : lo + w ≤ 32) : fget (fput v lo w x) lo w = x % 2 ^ w := by
  unfold fget
  rw [fput_toNat v lo w x h]
  have h1 : v.toNat % 2 ^ lo < 2 ^ lo := Nat.mod_lt _ (Nat.two_pow_pos lo)
  have e : v.toNat % 2 ^ lo + x % 2 ^ w * 2 ^ lo + v.toNat / 2 ^ (lo + w) * 2 ^ (lo + w)
      = v.toNat % 2 ^ lo + 2 ^ lo * (x % 2 ^ w + 2 ^ w * (v.toNat / 2 ^ (lo + w))) := by
    rw [Nat.pow_add]; simp only [Nat.mul_add, Nat.add_assoc]; ac_rfl
  rw [e, Nat.add_mul_div_left _ _ (Nat.two_pow_pos lo), Nat.div_eq_of_lt h1, Nat.zero_add, Nat.add_mul_mod_self_left, Nat.mod_mod]

/-- A field of the same word that shares no bit keeps its value. -/
theorem fget_fput_apart (v : Word) (lo w x lo' w' : Nat) (h : lo + w ≤ 32) (ha : lo + w ≤ lo' ∨ lo' + w' ≤ lo) :
    fget (fput v lo w x) lo' w' = fget v lo' w' := by
  unfold fget
  rw [fput_toNat v lo w x h]
  have h1 : v.toNat % 2 ^ lo < 2 ^ lo := Nat.mod_lt _ (Nat.two_pow_pos lo)
  have h2 : x % 2 ^ w < 2 ^ w := Nat.mod_lt _ (Nat.two_pow_pos w)
  rcases ha with ha | ha
  · obtain ⟨k, rfl⟩ : ∃ k, lo' = lo + w + k := ⟨lo' - (lo + w), by omega⟩
    congr 1
    rw [Nat.pow_add 2 (lo + w) k, ← Nat.div_div_eq_div_mul, ← Nat.div_div_eq_div_mul]
    congr 1
    have h5 : v.toNat % 2 ^ lo + x % 2 ^ w * 2 ^ lo < 2 ^ (lo + w) := by
      have : (x % 2 ^ w + 1) * 2 ^ lo ≤ 2 ^ w * 2 ^ lo := Nat.mul_le_mul_right _ h2
      rw [Nat.add_mul, Nat.one_mul] at this
      rw [Nat.pow_add, Nat.mul_comm (2 ^ lo) (2 ^ w)]; omega
    rw [Nat.add_mul_div_right _ _ (Nat.two_pow_pos _), Nat.div_eq_of_lt h5, Nat.zero_add]
  · obtain ⟨k, rfl⟩ : ∃ k, lo = lo' + w' + k := ⟨lo - (lo' + w'), by omega⟩
    have e : v.toNat % 2 ^ (lo' + w' + k) + x % 2 ^ w * 2 ^ (lo' + w' + k) + v.toNat / 2 ^ (lo' + w' + k + w) * 2 ^ (lo' + w' + k + w)
        = v.toNat % 2 ^ (lo' + w' + k) + 2 ^ lo' * (2 ^ w' * (2 ^ k * (x % 2 ^ w + 2 ^ w * (v.toNat / 2 ^ (lo' + w' + k + w))))) := by
      rw [Nat.pow_add 2 (lo' + w' + k) w, Nat.pow_add 2 (lo' + w') k, Nat.pow_add 2 lo' w']
      simp only [Nat.mul_add, Nat.add_assoc]; ac_rfl
    rw [e, Nat.add_mul_div_left _ _ (Nat.two_pow_pos lo'), Nat.add_mul_mod_self_left]
    have hd : 2 ^ (lo' + w' + k) = 2 ^ lo' * (2 ^ w' * 2 ^ k) := by rw [Nat.pow_add, Nat.pow_add, Nat.mul_assoc]
    rw [hd, Nat.mod_mul_right_div_self, Nat.mod_mul_right_mod]

/-! ## Registers -/

@[simp] theorem State.reg_setReg (s : State) (a : Nat) (v : Word) : (s.setReg a v).reg a = v := SMap.get_put_same _ _ _ _

@[simp] theorem State.reg_setReg_ne (s : State) (a b : Nat) (v : Word) (h : b ≠ a) : (s.setReg a v).reg b = s.reg b :=
  SMap.get_put_ne _ _ _ _ _ h

/-- The register of a written field. -/
@[simp] theorem State.reg_wr (s : State) (f : Fld) (x : Nat) : (s.wr f x).reg f.addr = fput (s.reg f.addr) f.lo f.w x :=
  SMap.get_put_same _ _ _ _

/-- Writing a field leaves every other register. -/
theorem State.reg_wr_ne (s : State) (f : Fld) (x a : Nat) (h : a ≠ f.addr) : (s.wr f x).reg a = s.reg a :=
  SMap.get_put_ne _ _ _ _ _ h

/-- A field reads what was written to it. -/
theorem State.rd_wr (s : State) (f : Fld) (x : Nat) (h : f.fits = true) : (s.wr f x).rd f = x % 2 ^ f.w := by
  simp only [Fld.fits, decide_eq_true_eq] at h
  simp only [State.rd, State.reg_wr, fget_fput_same _ _ _ _ h]

/-- Writing a field leaves every field apart from it. -/
theorem State.rd_wr_apart (s : State) (f g : Fld) (x : Nat) (hf : f.fits = true) (h : f.apart g = true) :
    (s.wr f x).rd g = s.rd g := by
  simp only [Fld.fits, decide_eq_true_eq] at hf
  simp only [Fld.apart, Bool.or_eq_true, bne_iff_ne, decide_eq_true_eq] at h
  simp only [State.rd]
  by_cases ha : g.addr = f.addr
  · rw [ha, State.reg_wr]
    refine fget_fput_apart _ _ _ _ _ _ hf ?_
    rcases h with (h | h) | h
    · exact absurd ha.symm h
    · exact .inl h
    · exact .inr h
  · rw [State.reg_wr_ne _ _ _ _ ha]

/-- A field's value is below its range. -/
theorem State.rd_lt (s : State) (f : Fld) : s.rd f < 2 ^ f.w := Nat.mod_lt _ (Nat.two_pow_pos _)

/-- The canonical form of the register list. -/
abbrev RegsWf (s : State) : Prop := SMap.Wf regReset s.regs

theorem setReg_regsWf (s : State) (a : Nat) (v : Word) (h : RegsWf s) : RegsWf (s.setReg a v) := SMap.put_wf _ _ _ _ h

theorem wr_regsWf (s : State) (f : Fld) (x : Nat) (h : RegsWf s) : RegsWf (s.wr f x) := SMap.put_wf _ _ _ _ h

theorem reset_regsWf : RegsWf State.reset := SMap.nil_wf _

/-- Two states with the same registers read alike. -/
theorem State.reg_congr {s t : State} (h : s.regs = t.regs) (a : Nat) : s.reg a = t.reg a := by
  simp only [State.reg, h]

theorem State.rd_congr {s t : State} (h : s.regs = t.regs) (f : Fld) : s.rd f = t.rd f := by
  simp only [State.rd, State.reg, h]

end Sys2Proof.Machine
end

