-- ==== Sys2Proof/Laws/Ends.lean ====
section
/-!
SUPPORT. What the end of a command does: `settle` moves the pins and may queue one notice, and the queue of waiting commands
stands.
-/
namespace Sys2Proof.Machine

/-! ## A notice -/

@[simp] theorem State.pushCtl_regs (s : State) (i : RlCtl) : (s.pushCtl i).regs = s.regs := rfl
@[simp] theorem State.notice_now (s : State) (c : Nat) (d : List Byte) : (s.notice c d).now = s.now := rfl
@[simp] theorem State.notice_cycle (s : State) (c : Nat) (d : List Byte) : (s.notice c d).cycle = s.cycle := rfl
@[simp] theorem State.notice_free (s : State) (c : Nat) (d : List Byte) : (s.notice c d).free = s.free := rfl
@[simp] theorem State.notice_regs (s : State) (c : Nat) (d : List Byte) : (s.notice c d).regs = s.regs := rfl
@[simp] theorem State.notice_tick (s : State) (c : Nat) (d : List Byte) : (s.notice c d).tick = s.tick := rfl
@[simp] theorem State.notice_array (s : State) (c : Nat) (d : List Byte) : (s.notice c d).array = s.array := rfl
@[simp] theorem State.notice_pipe (s : State) (c : Nat) (d : List Byte) : (s.notice c d).pipe = s.pipe := rfl
@[simp] theorem State.notice_layer (s : State) (c : Nat) (d : List Byte) : (s.notice c d).layer = s.layer := rfl
@[simp] theorem State.notice_cask (s : State) (c : Nat) (d : List Byte) : (s.notice c d).cask = s.cask := rfl
@[simp] theorem State.notice_lanes (s : State) (c : Nat) (d : List Byte) : (s.notice c d).daelo.lanes = s.daelo.lanes := rfl
@[simp] theorem State.notice_links (s : State) (c : Nat) (d : List Byte) : (s.notice c d).daelo.links = s.daelo.links := rfl
@[simp] theorem State.notice_safe (s : State) (c : Nat) (d : List Byte) : (s.notice c d).safe = s.safe := rfl
@[simp] theorem State.notice_cmd (s : State) (c : Nat) (d : List Byte) : (s.notice c d).cmd = s.cmd := rfl
@[simp] theorem State.notice_mem (s : State) (c : Nat) (d : List Byte) : (s.notice c d).mem = s.mem := rfl
@[simp] theorem State.notice_cellar (s : State) (c : Nat) (d : List Byte) : (s.notice c d).cellar = s.cellar := rfl
@[simp] theorem State.notice_power (s : State) (c : Nat) (d : List Byte) : (s.notice c d).power = s.power := rfl
@[simp] theorem State.notice_therm (s : State) (c : Nat) (d : List Byte) : (s.notice c d).therm = s.therm := rfl
@[simp] theorem State.notice_cal (s : State) (c : Nat) (d : List Byte) : (s.notice c d).cal = s.cal := rfl
@[simp] theorem State.notice_test (s : State) (c : Nat) (d : List Byte) : (s.notice c d).test = s.test := rfl
@[simp] theorem State.notice_group (s : State) (c : Nat) (d : List Byte) : (s.notice c d).group = s.group := rfl
@[simp] theorem State.notice_sat (s : State) (c : Nat) (d : List Byte) : (s.notice c d).sat = s.sat := rfl
@[simp] theorem State.notice_arb (s : State) (c : Nat) (d : List Byte) : (s.notice c d).arb = s.arb := rfl
@[simp] theorem State.notice_boot (s : State) (c : Nat) (d : List Byte) : (s.notice c d).boot = s.boot := rfl
@[simp] theorem State.notice_pins (s : State) (c : Nat) (d : List Byte) : (s.notice c d).pins = s.pins := rfl
@[simp] theorem State.notice_pending (s : State) (c : Nat) (d : List Byte) : (s.notice c d).pending = s.pending := rfl

/-! ## The end of a command -/

/-- The state in which a command from `s` ends whose own effect gives `t`. -/
def after (s t : State) : State := { settle t with pending := s.pending }

@[simp] theorem ends_eq (s t : State) : ends s t = .next (after s t) := rfl

/-- What holds of the state in which a command ends is what it answers. -/
theorem ends_next (s t : State) (P : State → Prop) (h : P (after s t)) : ∃ u, ends s t = .next u ∧ P u := ⟨_, rfl, h⟩

@[simp] theorem settle_now (s : State) : (settle s).now = s.now := by unfold settle; split <;> rfl
@[simp] theorem settle_cycle (s : State) : (settle s).cycle = s.cycle := by unfold settle; split <;> rfl
@[simp] theorem settle_free (s : State) : (settle s).free = s.free := by unfold settle; split <;> rfl
@[simp] theorem settle_regs (s : State) : (settle s).regs = s.regs := by unfold settle; split <;> rfl
@[simp] theorem settle_tick (s : State) : (settle s).tick = s.tick := by unfold settle; split <;> rfl
@[simp] theorem settle_array (s : State) : (settle s).array = s.array := by unfold settle; split <;> rfl
@[simp] theorem settle_pipe (s : State) : (settle s).pipe = s.pipe := by unfold settle; split <;> rfl
@[simp] theorem settle_layer (s : State) : (settle s).layer = s.layer := by unfold settle; split <;> rfl
@[simp] theorem settle_cask (s : State) : (settle s).cask = s.cask := by unfold settle; split <;> rfl
@[simp] theorem settle_safe (s : State) : (settle s).safe = s.safe := by unfold settle; split <;> rfl
@[simp] theorem settle_mem (s : State) : (settle s).mem = s.mem := by unfold settle; split <;> rfl
@[simp] theorem settle_cellar (s : State) : (settle s).cellar = s.cellar := by unfold settle; split <;> rfl
@[simp] theorem settle_power (s : State) : (settle s).power = s.power := by unfold settle; split <;> rfl
@[simp] theorem settle_therm (s : State) : (settle s).therm = s.therm := by unfold settle; split <;> rfl
@[simp] theorem settle_cal (s : State) : (settle s).cal = s.cal := by unfold settle; split <;> rfl
@[simp] theorem settle_test (s : State) : (settle s).test = s.test := by unfold settle; split <;> rfl
@[simp] theorem settle_group (s : State) : (settle s).group = s.group := by unfold settle; split <;> rfl
@[simp] theorem settle_sat (s : State) : (settle s).sat = s.sat := by unfold settle; split <;> rfl
@[simp] theorem settle_arb (s : State) : (settle s).arb = s.arb := by unfold settle; split <;> rfl
@[simp] theorem settle_boot (s : State) : (settle s).boot = s.boot := by unfold settle; split <;> rfl
@[simp] theorem settle_lanes (s : State) : (settle s).daelo.lanes = s.daelo.lanes := by unfold settle; split <;> rfl
@[simp] theorem settle_links (s : State) : (settle s).daelo.links = s.daelo.links := by unfold settle; split <;> rfl
@[simp] theorem settle_cmd (s : State) : (settle s).cmd = s.cmd := by unfold settle; split <;> rfl
@[simp] theorem settle_pending (s : State) : (settle s).pending = s.pending := by unfold settle; split <;> rfl
@[simp] theorem settle_sdo (s : State) : (settle s).pins.sdo = s.pins.sdo := by unfold settle; split <;> rfl
@[simp] theorem settle_gdat (s : State) : (settle s).pins.gdat = s.pins.gdat := by unfold settle; split <;> rfl

@[simp] theorem after_now (s t : State) : (after s t).now = t.now := settle_now _
@[simp] theorem after_cycle (s t : State) : (after s t).cycle = t.cycle := settle_cycle _
@[simp] theorem after_free (s t : State) : (after s t).free = t.free := settle_free _
@[simp] theorem after_regs (s t : State) : (after s t).regs = t.regs := settle_regs _
@[simp] theorem after_tick (s t : State) : (after s t).tick = t.tick := settle_tick _
@[simp] theorem after_array (s t : State) : (after s t).array = t.array := settle_array _
@[simp] theorem after_pipe (s t : State) : (after s t).pipe = t.pipe := settle_pipe _
@[simp] theorem after_layer (s t : State) : (after s t).layer = t.layer := settle_layer _
@[simp] theorem after_cask (s t : State) : (after s t).cask = t.cask := settle_cask _
@[simp] theorem after_safe (s t : State) : (after s t).safe = t.safe := settle_safe _
@[simp] theorem after_mem (s t : State) : (after s t).mem = t.mem := settle_mem _
@[simp] theorem after_cellar (s t : State) : (after s t).cellar = t.cellar := settle_cellar _
@[simp] theorem after_power (s t : State) : (after s t).power = t.power := settle_power _
@[simp] theorem after_therm (s t : State) : (after s t).therm = t.therm := settle_therm _
@[simp] theorem after_cal (s t : State) : (after s t).cal = t.cal := settle_cal _
@[simp] theorem after_test (s t : State) : (after s t).test = t.test := settle_test _
@[simp] theorem after_group (s t : State) : (after s t).group = t.group := settle_group _
@[simp] theorem after_sat (s t : State) : (after s t).sat = t.sat := settle_sat _
@[simp] theorem after_arb (s t : State) : (after s t).arb = t.arb := settle_arb _
@[simp] theorem after_boot (s t : State) : (after s t).boot = t.boot := settle_boot _
@[simp] theorem after_lanes (s t : State) : (after s t).daelo.lanes = t.daelo.lanes := settle_lanes _
@[simp] theorem after_links (s t : State) : (after s t).daelo.links = t.daelo.links := settle_links _
@[simp] theorem after_cmd (s t : State) : (after s t).cmd = t.cmd := settle_cmd _
@[simp] theorem after_pending (s t : State) : (after s t).pending = s.pending := rfl
@[simp] theorem after_sdo (s t : State) : (after s t).pins.sdo = t.pins.sdo := settle_sdo _
@[simp] theorem after_gdat (s t : State) : (after s t).pins.gdat = t.pins.gdat := settle_gdat _

@[simp] theorem after_reg (s t : State) (a : Nat) : (after s t).reg a = t.reg a := State.reg_congr (after_regs s t) a
@[simp] theorem after_rd (s t : State) (f : Fld) : (after s t).rd f = t.rd f := State.rd_congr (after_regs s t) f
@[simp] theorem after_on (s t : State) (f : Fld) : (after s t).on f = t.on f := by simp only [State.on, after_rd]
@[simp] theorem after_handle (s t : State) (h : Nat) : (after s t).handle h = t.handle h := by simp only [State.handle, after_cmd]
@[simp] theorem after_sramByte (s t : State) (a : Nat) : (after s t).sramByte a = t.sramByte a := by simp only [State.sramByte, after_mem]
/-- A cellar byte reads alike in states with the same cellar. -/
theorem State.cellarByte_congr {s t : State} (h : s.cellar = t.cellar) (a : Nat) : s.cellarByte a = t.cellarByte a := by
  unfold State.cellarByte State.recordAt State.pageWrites State.copyCovers State.servedBy
  rw [h]

/-- A byte of SRAM reads alike in states with the same SRAM. -/
theorem State.sramByte_congr {s t : State} (h : s.mem = t.mem) (a : Nat) : s.sramByte a = t.sramByte a := by
  unfold State.sramByte
  rw [h]

@[simp] theorem after_cellarByte (s t : State) (a : Nat) : (after s t).cellarByte a = t.cellarByte a :=
  State.cellarByte_congr (after_cellar s t) a

end Sys2Proof.Machine
end

