-- ==== Sys2Proof/Laws/Frame.lean ====
section
/-!
SUPPORT. Frames part by part and field by field: what each shared operation leaves alone, and the reduction of a command
that acts to its own effect.
-/
namespace Sys2Proof.Machine

/-! ## Fields -/

theorem FieldsKept.refl (s : State) (fs : List Fld) : FieldsKept s s fs := fun _ _ => rfl

theorem FieldsKept.trans {s t u : State} {fs : List Fld} (h : FieldsKept s t fs) (g : FieldsKept t u fs) : FieldsKept s u fs :=
  fun f hf => (g f hf).trans (h f hf)

theorem FieldsKept.mono {s t : State} {fs gs : List Fld} (h : FieldsKept s t fs) (hs : ∀ f ∈ fs, f ∈ gs) : FieldsKept s t gs :=
  fun g hg => h g fun f hf => hg f (hs f hf)

/-- States with the same registers. -/
theorem FieldsKept.of_eq {s t : State} (fs : List Fld) (h : t.regs = s.regs) : FieldsKept s t fs := fun g _ => State.rd_congr h g

/-- A further state with the same registers. -/
theorem FieldsKept.same {s t u : State} {fs : List Fld} (h : FieldsKept s t fs) (e : u.regs = t.regs) : FieldsKept s u fs :=
  h.trans (.of_eq _ e)

theorem FieldsKept.wr {s t : State} {fs : List Fld} (h : FieldsKept s t fs) (f : Fld) (x : Nat) (hf : f ∈ fs)
    (hw : f.fits = true) : FieldsKept s (t.wr f x) fs :=
  fun g hg => (State.rd_wr_apart t f g x hw (hg f hf)).trans (h g hg)

theorem FieldsKept.wrB {s t : State} {fs : List Fld} (h : FieldsKept s t fs) (f : Fld) (b : Bool) (hf : f ∈ fs)
    (hw : f.fits = true) : FieldsKept s (t.wrB f b) fs := h.wr _ _ hf hw

theorem FieldsKept.sets {s t : State} {fs : List Fld} (h : FieldsKept s t fs) (f : Fld) (hf : f ∈ fs) (hw : f.fits = true) :
    FieldsKept s (t.sets f) fs := h.wr _ _ hf hw

theorem FieldsKept.setIf {s t : State} {fs : List Fld} (h : FieldsKept s t fs) (b : Bool) (f : Fld) (hf : f ∈ fs)
    (hw : f.fits = true) : FieldsKept s (t.setIf b f) fs := by
  unfold State.setIf; split
  · exact h.wr _ _ hf hw
  · exact h

theorem FieldsKept.incBy {s t : State} {fs : List Fld} (h : FieldsKept s t fs) (f : Fld) (k : Nat) (hf : f ∈ fs)
    (hw : f.fits = true) : FieldsKept s (t.incBy f k) fs := h.wr _ _ hf hw

theorem FieldsKept.inc {s t : State} {fs : List Fld} (h : FieldsKept s t fs) (f : Fld) (hf : f ∈ fs) (hw : f.fits = true) :
    FieldsKept s (t.inc f) fs := h.wr _ _ hf hw

theorem FieldsKept.wrI {s t : State} {fs : List Fld} (h : FieldsKept s t fs) (f : Fld) (v : Int) (hf : f ∈ fs)
    (hw : f.fits = true) : FieldsKept s (t.wrI f v) fs := h.wr _ _ hf hw

/-- A whole word is a field of 32 bits. -/
theorem FieldsKept.setReg {s t : State} {fs : List Fld} (h : FieldsKept s t fs) (a : Nat) (v : Word) (hf : ⟨a, 0, 32⟩ ∈ fs) :
    FieldsKept s (t.setReg a v) fs := by
  intro g hg
  have hk := hg _ hf
  simp only [Fld.apart, Bool.or_eq_true, bne_iff_ne, decide_eq_true_eq, Nat.zero_add] at hk
  rw [← h g hg]
  by_cases ha : g.addr = a
  · have : g.w = 0 ∨ 32 ≤ g.lo := by
      rcases hk with (hk | hk) | hk
      · exact absurd ha.symm hk
      · exact .inr hk
      · exact .inl (by omega)
    have zero : ∀ v : Word, fget v g.lo g.w = 0 := by
      intro v
      unfold fget
      rcases this with e | e
      · rw [e]; exact Nat.mod_one _
      · have : v.toNat / 2 ^ g.lo = 0 := Nat.div_eq_of_lt (Nat.lt_of_lt_of_le v.isLt (Nat.pow_le_pow_right (by decide) e))
        rw [this]; exact Nat.zero_mod _
    simp only [State.rd, zero]
  · simp only [State.rd, State.reg_setReg_ne _ _ _ _ ha]

/-- Each step of a fold keeps the fields. -/
theorem FieldsKept.foldl {s : State} {α : Type} {fs : List Fld} (f : State → α → State)
    (hf : ∀ t a, FieldsKept s t fs → FieldsKept s (f t a) fs) (l : List α) {t : State} (h : FieldsKept s t fs) :
    FieldsKept s (l.foldl f t) fs := by
  induction l generalizing t with
  | nil => exact h
  | cons a r ih => exact ih (hf t a h)

/-- A register none of whose bits is listed reads as before. -/
theorem FieldsKept.reg {s t : State} {fs : List Fld} (h : FieldsKept s t fs) (a : Nat) (ha : ∀ f ∈ fs, f.addr ≠ a) :
    t.reg a = s.reg a := by
  have := h ⟨a, 0, 32⟩ fun f hf => by simp [Fld.apart, ha f hf]
  simp only [State.rd, fget, Nat.pow_zero, Nat.div_one] at this
  apply BitVec.eq_of_toNat_eq
  rw [Nat.mod_eq_of_lt (t.reg a).isLt, Nat.mod_eq_of_lt (s.reg a).isLt] at this
  exact this

/-! ## Parts -/

theorem Part.same_refl (s : State) (p : Part) : p.same s s := by
  cases p <;> first | rfl | exact ⟨rfl, rfl, rfl⟩ | exact ⟨rfl, List.prefix_refl _⟩ | exact ⟨rfl, rfl⟩

theorem Part.same_trans {s t u : State} {p : Part} (h : p.same s t) (g : p.same t u) : p.same s u := by
  cases p
  case receivers => exact ⟨g.1.trans h.1, g.2.1.trans h.2.1, g.2.2.trans h.2.2⟩
  case returns =>
    refine ⟨?_, h.2.trans g.2⟩
    rw [g.1, h.1]
  case driven => exact ⟨g.1.trans h.1, g.2.trans h.2⟩
  all_goals exact Eq.trans g h

/-! ## Frames -/

/-- From the parts and the fields: where the SRAM and the cellar stand, their bytes read as before. -/
theorem Frame.of {s t : State} {ps : List Part} {fs : List Fld} (h : ∀ p, p ∉ ps → p.same s t) (g : FieldsKept s t fs) :
    Frame s t ps fs :=
  ⟨h, g, fun hm => State.sramByte_congr (h _ hm), fun hc => State.cellarByte_congr (h _ hc)⟩

theorem Frame.refl (s : State) (ps : List Part) (fs : List Fld) : Frame s s ps fs :=
  .of (fun p _ => p.same_refl s) (.refl _ _)

theorem Frame.trans {s t u : State} {ps : List Part} {fs : List Fld} (h : Frame s t ps fs) (g : Frame t u ps fs) : Frame s u ps fs :=
  ⟨fun p hp => Part.same_trans (h.parts p hp) (g.parts p hp), h.fields.trans g.fields,
    fun hm a => (g.sram hm a).trans (h.sram hm a), fun hc a => (g.cellar hc a).trans (h.cellar hc a)⟩

theorem Frame.mono {s t : State} {ps qs : List Part} {fs gs : List Fld} (h : Frame s t ps fs) (hp : ∀ p ∈ ps, p ∈ qs)
    (hf : ∀ f ∈ fs, f ∈ gs) : Frame s t qs gs :=
  ⟨fun p hq => h.parts p fun e => hq (hp p e), h.fields.mono hf, fun hm => h.sram fun e => hm (hp _ e),
    fun hc => h.cellar fun e => hc (hp _ e)⟩

/-- An operation on registers only. -/
theorem Frame.regs {s t : State} {ps : List Part} {fs : List Fld} (h : Frame s t ps fs) {u : State}
    (e : u = { t with regs := u.regs, since := u.since }) (g : FieldsKept t u fs) : Frame s u ps fs :=
  h.trans (.of (fun p _ => by rw [e]; exact p.same_refl t) g)

theorem Frame.wr {s t : State} {ps : List Part} {fs : List Fld} (h : Frame s t ps fs) (f : Fld) (x : Nat) (hf : f ∈ fs)
    (hw : f.fits = true) : Frame s (t.wr f x) ps fs := h.regs rfl ((FieldsKept.refl _ _).wr f x hf hw)

theorem Frame.wrB {s t : State} {ps : List Part} {fs : List Fld} (h : Frame s t ps fs) (f : Fld) (b : Bool) (hf : f ∈ fs)
    (hw : f.fits = true) : Frame s (t.wrB f b) ps fs := h.wr _ _ hf hw

theorem Frame.wrI {s t : State} {ps : List Part} {fs : List Fld} (h : Frame s t ps fs) (f : Fld) (v : Int) (hf : f ∈ fs)
    (hw : f.fits = true) : Frame s (t.wrI f v) ps fs := h.wr _ _ hf hw

theorem Frame.sets {s t : State} {ps : List Part} {fs : List Fld} (h : Frame s t ps fs) (f : Fld) (hf : f ∈ fs)
    (hw : f.fits = true) : Frame s (t.sets f) ps fs := h.wr _ _ hf hw

theorem Frame.incBy {s t : State} {ps : List Part} {fs : List Fld} (h : Frame s t ps fs) (f : Fld) (k : Nat) (hf : f ∈ fs)
    (hw : f.fits = true) : Frame s (t.incBy f k) ps fs := h.wr _ _ hf hw

theorem Frame.inc {s t : State} {ps : List Part} {fs : List Fld} (h : Frame s t ps fs) (f : Fld) (hf : f ∈ fs)
    (hw : f.fits = true) : Frame s (t.inc f) ps fs := h.wr _ _ hf hw

theorem Frame.setIf {s t : State} {ps : List Part} {fs : List Fld} (h : Frame s t ps fs) (b : Bool) (f : Fld) (hf : f ∈ fs)
    (hw : f.fits = true) : Frame s (t.setIf b f) ps fs := by
  unfold State.setIf; split
  · exact h.wr _ _ hf hw
  · exact h

theorem Frame.setReg {s t : State} {ps : List Part} {fs : List Fld} (h : Frame s t ps fs) (a : Nat) (v : Word)
    (hf : ⟨a, 0, 32⟩ ∈ fs) : Frame s (t.setReg a v) ps fs := h.regs rfl ((FieldsKept.refl _ _).setReg a v hf)

/-- Each step of a fold keeps the frame. -/
theorem Frame.foldl {s : State} {α : Type} {ps : List Part} {fs : List Fld} (f : State → α → State)
    (hf : ∀ t a, Frame s t ps fs → Frame s (f t a) ps fs) (l : List α) {t : State} (h : Frame s t ps fs) :
    Frame s (l.foldl f t) ps fs := by
  induction l generalizing t with
  | nil => exact h
  | cons a r ih => exact ih (hf t a h)

/-- A notice joins the CONTROL priority. -/
theorem Frame.notice {s t : State} {ps : List Part} {fs : List Fld} (h : Frame s t ps fs) (c : Nat) (d : List Byte) :
    Frame s (t.notice c d) ps fs := by
  refine h.trans (.of ?_ (.of_eq _ rfl))
  intro p _
  cases p <;> first | rfl | exact ⟨rfl, rfl, rfl⟩ | exact ⟨rfl, List.prefix_append _ _⟩ | exact ⟨rfl, rfl⟩

/-- The end of a command: the pins move, a notice may join. -/
theorem Frame.after {s t : State} {ps : List Part} {fs : List Fld} (h : Frame s t ps fs) (u : State) :
    Frame s (Machine.after u t) ps fs := by
  refine h.trans (.of ?_ (.of_eq _ (after_regs u t)))
  intro p _
  cases p
  case receivers =>
    unfold Part.same Machine.after settle; dsimp only
    split <;> exact ⟨rfl, rfl, rfl⟩
  case returns =>
    unfold Part.same Machine.after settle; dsimp only
    split
    · exact ⟨rfl, List.prefix_append _ _⟩
    · exact ⟨rfl, List.prefix_refl _⟩
  case driven => exact ⟨after_sdo u t, after_gdat u t⟩
  all_goals simp only [Part.same, after_now, after_tick, after_array, after_pipe, after_layer, after_cask, after_lanes, after_links,
    after_safe, after_mem, after_cellar, after_power, after_therm, after_cal, after_test, after_group, after_sat, after_boot, after_arb, after_cmd]

/-! ## Commands that act -/

/-- Performed while the engine is open. -/
theorem perform_open {s : State} (h : Open s) (x : Ctx) (op : Nat) (f : State → State) : s.perform x op f = f s := by
  unfold State.perform; rw [h.1, h.2]; rfl

theorem perform_off {s : State} (h : s.engineOn = false) (x : Ctx) (op : Nat) (f : State → State) : s.perform x op f = s := by
  unfold State.perform; rw [h]; rfl

theorem live_live {s : State} (h : Live s) (f : State → State) : s.live f = f s := by
  unfold State.live; rw [h.1, h.2]; rfl

theorem Open.live {s : State} (h : Open s) : Live s := by
  have := h.1
  unfold State.engineOn at this
  simp only [Bool.and_eq_true, Bool.not_eq_true'] at this
  exact ⟨this.1.2, this.2⟩

/-- A command of an open engine answers the state that its own effect gives. -/
theorem exec_perform {s : State} (h : Open s) {i : Instr} {x : Ctx} {op : Nat} {f : State → State}
    (hi : exec i s = ends s (s.perform x op f)) : exec i s = .next (after s (f s)) := by
  rw [hi, perform_open h]; rfl

/-- An event of a clocked part answers the state that its own effect gives. -/
theorem exec_live {s : State} (h : Live s) {i : Instr} {f : State → State} (hi : exec i s = ends s (s.live f)) :
    exec i s = .next (after s (f s)) := by
  rw [hi, live_live h]; rfl

theorem access_open {s : State} (h : Open s) (src : Source) (f : State → State) : s.access src f = f s := by
  unfold State.access; rw [live_live h.live, h.1]
  split <;> rfl

/-- An access of an open engine answers the state that its own effect gives. -/
theorem exec_access {s : State} (h : Open s) {i : Instr} {src : Source} {f : State → State}
    (hi : exec i s = ends s (s.access src f)) : exec i s = .next (after s (f s)) := by
  rw [hi, access_open h]; rfl

/-- Nothing is waiting in the inbox. -/
theorem drain_nil (s : State) (h : s.daelo.inbox = []) : s.drainInbox = s := by
  unfold State.drainInbox
  rw [h]
  show ({ s with daelo := { s.daelo with inbox := [] } } : State) = s
  rw [← h]

theorem linkEvent_live {s : State} (h : Live s) (f : State → State) (hf : (f s).daelo.inbox = []) : s.linkEvent f = f s := by
  unfold State.linkEvent; rw [live_live h, drain_nil _ hf]

/-- An event of a link that completes no packet answers the state that its own effect gives. -/
theorem exec_link {s : State} (h : Live s) {i : Instr} {f : State → State} (hi : exec i s = ends s (s.linkEvent f))
    (hf : (f s).daelo.inbox = []) : exec i s = .next (after s (f s)) := by
  rw [hi, linkEvent_live h _ hf]; rfl

/-- Without a self-test no block is stopped (R421). -/
theorem tested_quiet {s : State} (h : s.testing = false) (ts : List Nat) (f : State → State) : s.tested ts f = f s := by
  unfold State.tested; rw [h]; rfl

/-- An event of a block answers the state that its own effect gives, where no self-test runs. -/
theorem exec_tested {s : State} (h : Acts s) {i : Instr} {ts : List Nat} {f : State → State}
    (hi : exec i s = ends s (s.live fun t => t.tested ts f)) : exec i s = .next (after s (f s)) := by
  rw [exec_live h.1 hi, tested_quiet h.2]

/-- An event of a link's lanes that completes no packet, where no self-test runs. -/
theorem exec_link_tested {s : State} (h : Acts s) {i : Instr} {ts : List Nat} {f : State → State}
    (hi : exec i s = ends s (s.linkEvent fun t => t.tested ts f)) (hf : (f s).daelo.inbox = []) : exec i s = .next (after s (f s)) := by
  have e := tested_quiet h.2 ts f
  rw [exec_link h.1 hi (by rw [e]; exact hf), e]

/-- An event that needs the reference alone acts while it runs (R460). -/
theorem withRef_runs {s : State} (h : s.refRuns = true) (f : State → State) : s.withRef f = f s := by
  unfold State.withRef; rw [h]; rfl

theorem withRef_off {s : State} (h : s.refRuns = false) (f : State → State) : s.withRef f = s := by
  unfold State.withRef; rw [h]; rfl

/-! ## SRAM -/

/-- The first cell listed at an address of a run of cells. -/
theorem find_cellsAt (a : Nat) (bs : List Byte) (i : Nat) (h : i < bs.length) (r : List Host.Cell) :
    (cellsAt a bs ++ r).find? (·.1 == a + i) = some (a + i, bs[i]) := by
  induction bs generalizing a i with
  | nil => exact absurd h (Nat.not_lt_zero _)
  | cons b bs ih =>
    cases i with
    | zero => simp [cellsAt]
    | succ i =>
      have hne : (a == a + (i + 1)) = false := by simp
      simp only [cellsAt, List.cons_append, List.find?_cons, hne, List.getElem_cons_succ]
      have := ih (a + 1) i (by simpa using h)
      rw [show a + 1 + i = a + (i + 1) by omega] at this
      exact this

theorem find_none_of {m : List Host.Cell} {a : Nat} (h : ∀ c ∈ m, c.1 ≠ a) : m.find? (·.1 == a) = none := by
  rw [List.find?_eq_none]
  intro c hc
  simpa using h c hc

theorem find_filter {m : List Host.Cell} {a : Nat} (p : Host.Cell → Bool) (h : ∀ c : Host.Cell, c.1 = a → p c = true) :
    (m.filter p).find? (·.1 == a) = m.find? (·.1 == a) := by
  induction m with
  | nil => rfl
  | cons c m ih =>
    by_cases hc : c.1 = a
    · have : (c.1 == a) = true := by simpa using hc
      rw [List.filter_cons, h c hc, if_pos rfl, List.find?_cons, List.find?_cons, this]
    · have : (c.1 == a) = false := by simpa using hc
      rw [List.find?_cons, this, ← ih]
      by_cases hp : p c = true
      · rw [List.filter_cons, if_pos hp, List.find?_cons, this]
      · rw [List.filter_cons, if_neg hp]

/-- A byte written reads back. -/
theorem sramWrite_same (s : State) (a i : Nat) (bs : List Byte) (h : i < bs.length) :
    (s.sramWrite a bs).sramByte (a + i) = bs[i] := by
  unfold State.sramByte State.sramWrite sramPutAll
  dsimp only
  have h1 : ((s.mem.sram.filter fun c => decide (c.1 < a)).find? (·.1 == a + i)) = none :=
    find_none_of fun c hc => by
      have := (List.mem_filter.1 hc).2
      simp only [decide_eq_true_eq] at this; omega
  rw [List.append_assoc, List.find?_append, h1, Option.none_or, find_cellsAt a bs i h]

/-- A byte outside a write reads as before. -/
theorem sramWrite_other (s : State) (a b : Nat) (bs : List Byte) (h : b < a ∨ a + bs.length ≤ b) :
    (s.sramWrite a bs).sramByte b = s.sramByte b := by
  unfold State.sramByte State.sramWrite sramPutAll
  dsimp only
  have hc : (cellsAt a bs).find? (·.1 == b) = none :=
    find_none_of fun c hc => by have := cellsAt_mem a bs c hc; omega
  rw [List.find?_append, List.find?_append, hc]
  rcases h with h | h
  · have h2 : ((s.mem.sram.filter fun c => decide (a + bs.length ≤ c.1)).find? (·.1 == b)) = none :=
      find_none_of fun c hc => by
        have := (List.mem_filter.1 hc).2
        simp only [decide_eq_true_eq] at this; omega
    rw [h2, find_filter _ (fun c hc => by simp only [decide_eq_true_eq]; omega)]
    simp
  · have h1 : ((s.mem.sram.filter fun c => decide (c.1 < a)).find? (·.1 == b)) = none :=
      find_none_of fun c hc => by
        have := (List.mem_filter.1 hc).2
        simp only [decide_eq_true_eq] at this; omega
    rw [h1, find_filter _ (fun c hc => by simp only [decide_eq_true_eq]; omega)]
    simp

/-- The bytes just written. -/
theorem sramBytes_write (s : State) (a : Nat) (bs : List Byte) : (s.sramWrite a bs).sramBytes a bs.length = bs := by
  unfold State.sramBytes
  apply List.ext_getElem
  · simp
  · intro i h1 h2
    simp only [List.getElem_map, List.getElem_range]
    exact sramWrite_same s a i bs h2

end Sys2Proof.Machine
end

