-- ==== Sys2Proof/Laws/Answer.lean ====
section
/-!
SUPPORT. What the shared operations of the command engine do: a reply, a completion, a pending command, and what each of
them leaves alone.
-/
namespace Sys2Proof.Machine

/-! ## Replies -/

theorem evictReply_cmd (s : State) (n : Nat) : (s.evictReply n).cmd = s.cmd := by
  unfold State.evictReply; dsimp only; split <;> rfl

/-- Keeping a reply changes only the reply store. -/
theorem keep_last (s : State) (r : Reply) : (s.keep r).cmd.last = s.cmd.last ∧ (s.keep r).cmd.handles = s.cmd.handles := by
  unfold State.keep
  split
  · split
    · exact ⟨rfl, rfl⟩
    · rw [evictReply_cmd]; exact ⟨rfl, rfl⟩
  · exact ⟨rfl, rfl⟩

/-- A change of the command engine and the return lane alone. -/
theorem Frame.answering {s t : State} {fs : List Fld} (c : CmdSt) (d : RlSt)
    (e : t = { s with cmd := c, daelo := { s.daelo with rl := d } }) : Frame s t answerParts fs := by
  subst e
  refine .of ?_ (.of_eq _ rfl)
  intro p hp
  cases p <;> first | rfl | exact ⟨rfl, rfl, rfl⟩ | exact absurd (by decide) hp | exact ⟨rfl, rfl⟩

theorem evictReply_frame (s : State) (n : Nat) : Frame s (s.evictReply n) answerParts answerFlds := by
  unfold State.evictReply; dsimp only; split
  · exact (Frame.answering (s := s) _ _ rfl).sets _ (by decide) (by decide)
  · exact .refl _ _ _

theorem keep_frame (s : State) (r : Reply) : Frame s (s.keep r) answerParts answerFlds := by
  unfold State.keep
  split
  · split
    · exact .answering _ _ rfl
    · exact (Frame.answering (s := s) _ _ rfl).trans (evictReply_frame _ _)
  · exact .refl _ _ _

theorem reply_frame (s : State) (x : Ctx) (k : Bool) (st : Nat) (p : List Byte) : Frame s (s.reply x k st p) answerParts answerFlds := by
  unfold State.reply; dsimp only
  cases k <;> by_cases h : isLink x.src = true <;> simp only [h, if_true, if_false, Bool.false_eq_true]
  · exact .answering _ _ rfl
  · exact .answering _ _ rfl
  · exact (Frame.answering (s := s) _ _ rfl).trans (keep_frame _ _)
  · exact (Frame.answering (s := s) _ _ rfl).trans (keep_frame _ _)

/-- A reply is the latest of its SEQ. -/
theorem reply_last (s : State) (x : Ctx) (k : Bool) (st : Nat) (p : List Byte) :
    (s.reply x k st p).cmd.last.head? = some (x.seq, st, p) := by
  unfold State.reply; dsimp only
  cases k <;> by_cases h : isLink x.src = true <;> simp only [h, if_true, if_false, Bool.false_eq_true, (keep_last _ _).1] <;> rfl

/-- A reply leaves the handle table. -/
theorem reply_handles (s : State) (x : Ctx) (k : Bool) (st : Nat) (p : List Byte) :
    (s.reply x k st p).cmd.handles = s.cmd.handles := by
  unfold State.reply; dsimp only
  cases k <;> by_cases h : isLink x.src = true <;> simp only [h, if_true, if_false, Bool.false_eq_true, (keep_last _ _).2] <;> rfl

/-! ## Handles -/

/-- Changing the entry of a handle, where the change keeps its number. -/
theorem handle_setHandle (s : State) (h : Nat) (f : HandleEnt → HandleEnt) (hf : ∀ e, e.h = h → (f e).h = h) :
    (s.setHandle h f).handle h = (s.handle h).map f := by
  unfold State.handle State.setHandle
  dsimp only
  induction s.cmd.handles with
  | nil => rfl
  | cons e r ih =>
    by_cases he : e.h = h
    · simp [List.find?, he, hf e he]
    · have hb : (e.h == h) = false := by simpa using he
      simp only [List.map_cons, List.find?_cons, hb, Bool.false_eq_true, if_false]
      exact ih

theorem handle_dropQueued (s : State) (h k : Nat) : (s.dropQueued h).handle k = s.handle k := rfl

/-! ## PENDING -/

/-- A pending command is PENDING. -/
theorem pend_handle (s : State) (h : Nat) : (s.pend h).handle h = (s.handle h).map fun e => { e with st := 2 } := by
  unfold State.pend
  rw [handle_dropQueued, handle_setHandle]
  exact fun e he => he

/-! ## Completions -/

theorem handle_notice (s : State) (c : Nat) (p : List Byte) (k : Nat) : (s.notice c p).handle k = s.handle k := rfl
theorem handle_wr (s : State) (f : Fld) (x k : Nat) : (s.wr f x).handle k = s.handle k := rfl

/-- The entry of handle `h` keeps its state, status and result. -/
def Keeps (s t : State) (h : Nat) : Prop :=
  ∀ d, s.handle h = some d → ∃ d', t.handle h = some d' ∧ d'.st = d.st ∧ d'.status = d.status ∧ d'.result = d.result

theorem Keeps.refl (s : State) (h : Nat) : Keeps s s h := fun d hd => ⟨d, hd, rfl, rfl, rfl⟩

theorem Keeps.trans {s t u : State} {h : Nat} (a : Keeps s t h) (b : Keeps t u h) : Keeps s u h := fun d hd => by
  obtain ⟨d1, h1, e1, e2, e3⟩ := a d hd
  obtain ⟨d2, h2, f1, f2, f3⟩ := b d1 h1
  exact ⟨d2, h2, f1.trans e1, f2.trans e2, f3.trans e3⟩

theorem Keeps.of_handles {s t : State} (e : t.cmd.handles = s.cmd.handles) (h : Nat) : Keeps s t h := fun d hd =>
  ⟨d, by unfold State.handle at hd ⊢; rw [e]; exact hd, rfl, rfl, rfl⟩

/-- A change of an entry that leaves its handle, state, status and result. -/
theorem Keeps.setHandle (s : State) (k : Nat) (f : HandleEnt → HandleEnt) (h : Nat) (hf : ∀ e, (f e).h = e.h)
    (hk : ∀ e, (f e).st = e.st ∧ (f e).status = e.status ∧ (f e).result = e.result) : Keeps s (s.setHandle k f) h := by
  intro d hd
  have hp : ((fun e : HandleEnt => e.h == h) ∘ fun e => if (e.h == k) = true then f e else e) = fun e => e.h == h := by
    funext e
    simp only [Function.comp_apply]
    split
    · rw [hf]
    · rfl
  unfold State.handle State.setHandle at *
  rw [List.find?_map, hp, hd]
  refine ⟨_, rfl, ?_⟩
  dsimp only
  split
  · exact hk d
  · exact ⟨rfl, rfl, rfl⟩

theorem Keeps.notice (s : State) (c : Nat) (p : List Byte) (h : Nat) : Keeps s (s.notice c p) h := .of_handles rfl h
theorem Keeps.wr (s : State) (f : Fld) (x h : Nat) : Keeps s (s.wr f x) h := .of_handles rfl h

theorem cplLost_keeps (s : State) (k h : Nat) : Keeps s (s.cplLost k) h := by
  have a : Keeps s ((s.inc CMD_CQ_STATUS.LOST).setHandle k fun e => { e with posted := false, lost := true }) h :=
    (Keeps.wr _ _ _ _).trans (Keeps.setHandle _ _ _ _ (fun _ => rfl) fun _ => ⟨rfl, rfl, rfl⟩)
  unfold State.cplLost
  dsimp only
  refine Keeps.trans ?_ (Keeps.wr _ _ _ _)
  split
  · exact a
  · exact a.trans (Keeps.notice _ _ _ _)

theorem cplsLost_keeps (cs : List Completion) (h : Nat) : ∀ s : State, Keeps s (cs.foldl (fun t d => t.cplLost d.h) s) h := by
  induction cs with
  | nil => exact fun s => .refl s h
  | cons c cs ih => exact fun s => (cplLost_keeps s c.h h).trans (ih _)

theorem enqueueCpl_keeps (s : State) (c : Completion) (h : Nat) : Keeps s (s.enqueueCpl c) h := by
  unfold State.enqueueCpl
  dsimp only
  refine Keeps.trans ?_ (cplsLost_keeps _ _ _)
  exact (Keeps.of_handles (t := { s with cmd := { s.cmd with cq := (insertCpl c s.cmd.cq).take 32 } }) rfl h).trans
    (Keeps.setHandle _ _ _ _ (fun _ => rfl) fun _ => ⟨rfl, rfl, rfl⟩)

/-- A posted completion keeps the final state of each entry. -/
theorem post_keeps (s : State) (e : HandleEnt) (h : Nat) : Keeps s (s.post e) h := by
  have note : ∀ (t : State) (c : Nat) (p : List Byte), Keeps s t h → Keeps s (if t.on CMD_CTRL.NOTIFY_CPL then t.notice c p else t) h := by
    intro t c p a
    split
    · exact a.trans (Keeps.of_handles rfl h)
    · exact a
  unfold State.post
  refine note _ _ _ ?_
  split
  · exact .refl s h
  · exact enqueueCpl_keeps _ _ _

theorem post_handle (s : State) (e d : HandleEnt) (hd : s.handle e.h = some d) :
    ∃ d', (s.post e).handle e.h = some d' ∧ d'.st = d.st ∧ d'.status = d.status ∧ d'.result = d.result :=
  post_keeps s e e.h d hd

/-- A completion of a live command, as the post of a state in which only the command engine differs. -/
theorem finish_eq (s : State) (h st : Nat) (r : List Byte) :
    s.finish h st r = s ∨ ∃ (c : CmdSt) (e : HandleEnt), s.finish h st r = ({ s with cmd := c } : State).post e := by
  unfold State.finish
  cases s.handle h with
  | none => exact .inl rfl
  | some e =>
    dsimp only
    by_cases he : e.st = 3
    · rw [if_pos he]; exact .inl rfl
    · rw [if_neg he]; exact .inr ⟨_, _, rfl⟩

theorem cplLost_frame (s : State) (k : Nat) : Frame s (s.cplLost k) answerParts answerFlds := by
  have h : Frame s ((s.inc CMD_CQ_STATUS.LOST).setHandle k fun e => { e with posted := false, lost := true }) answerParts answerFlds :=
    ((Frame.refl s _ _).inc _ (by decide) (by decide)).trans (.answering _ _ rfl)
  unfold State.cplLost
  dsimp only
  refine Frame.sets ?_ _ (by decide) (by decide)
  split
  · exact h
  · exact h.notice _ _

theorem enqueueCpl_frame (s : State) (c : Completion) : Frame s (s.enqueueCpl c) answerParts answerFlds :=
  Frame.foldl _ (fun t a h => h.trans (cplLost_frame t a.h)) _ (.answering _ _ rfl)

theorem post_frame (s : State) (e : HandleEnt) : Frame s (s.post e) answerParts answerFlds := by
  have note : ∀ (t : State) (c : Nat) (p : List Byte), Frame s t answerParts answerFlds →
      Frame s (if t.on CMD_CTRL.NOTIFY_CPL then t.notice c p else t) answerParts answerFlds := by
    intro t c p a
    split
    · exact a.notice _ _
    · exact a
  unfold State.post
  refine note _ _ _ ?_
  split
  · exact .refl _ _ _
  · exact enqueueCpl_frame _ _

theorem finish_frame (s : State) (h st : Nat) (r : List Byte) : Frame s (s.finish h st r) answerParts answerFlds := by
  rcases finish_eq s h st r with e | ⟨c, e, he⟩
  · rw [e]; exact .refl _ _ _
  · rw [he]; exact (Frame.answering (s := s) c s.daelo.rl rfl).trans (post_frame _ _)

/-- Commands that complete together. -/
theorem finishAll_frame (s : State) (hs : List Nat) (st : Nat) (r : List Byte) :
    Frame s (hs.foldl (fun (t : State) h => t.finish h st r) s) answerParts answerFlds :=
  Frame.foldl _ (fun t a h => h.trans (finish_frame t a st r)) hs (.refl _ _ _)

theorem pend_frame (s : State) (h : Nat) (fs : List Fld) : Frame s (s.pend h) answerParts fs := .answering _ s.daelo.rl rfl

/-- A handle's entry has the handle's number. -/
theorem handle_h {s : State} {h : Nat} {e : HandleEnt} (he : s.handle h = some e) : e.h = h := by
  have := List.find?_some he
  simpa using this

/-- A command that was not DONE is DONE, with its status and result. -/
theorem finish_handle (s : State) (h st : Nat) (r : List Byte) (e : HandleEnt) (he : s.handle h = some e) (hs : e.st ≠ 3) :
    ∃ e', (s.finish h st r).handle h = some e' ∧ e'.st = 3 ∧ e'.status = st ∧ e'.result = (r ++ List.replicate 16 0).take 16 := by
  have hh : e.h = h := handle_h he
  unfold State.finish
  rw [he]
  dsimp only
  rw [if_neg hs]
  have hset (e' : HandleEnt) (h' : e'.h = h) : ((s.setHandle h fun _ => e').dropQueued h).handle h = some e' := by
    rw [handle_dropQueued, handle_setHandle s h (fun _ => e') (fun _ _ => h'), he]; rfl
  have key (t : State) (e' : HandleEnt) (h' : e'.h = h) (ht : t.handle h = some e') :
      ∃ d, (t.post e').handle h = some d ∧ d.st = e'.st ∧ d.status = e'.status ∧ d.result = e'.result := by
    have := post_handle t e' e' (by rw [h']; exact ht)
    rw [h'] at this; exact this
  exact key _ _ hh (hset _ hh)

/-! ## Answers -/

theorem answer_frame (s : State) (x : Ctx) (st : Nat) (p : List Byte) : Frame s (s.answer x st p) answerParts answerFlds := by
  unfold State.answer; split
  · exact reply_frame _ _ _ _ _
  · exact finish_frame _ _ _ _

/-- What an answer answers. -/
theorem answer_answered (s t : State) (x : Ctx) (st : Nat) (p : List Byte) (h : s.cmd.handles = t.cmd.handles) :
    Answered s (t.answer x st p) x st p := by
  unfold Answered State.answer
  split
  · exact reply_last _ _ _ _ _
  · intro e he hs
    exact finish_handle t _ _ _ e (by unfold State.handle at he ⊢; rw [← h]; exact he) hs

/-- An answer, once the command has ended: what it answers and its frame. -/
theorem answer_ends {s t : State} {ps : List Part} {fs : List Fld} (x : Ctx) (st : Nat) (p : List Byte) (h : s.cmd.handles = t.cmd.handles)
    (g : Frame s t ps fs) (hp : ∀ q ∈ answerParts, q ∈ ps) (hf : ∀ f ∈ answerFlds, f ∈ fs) :
    Answered s (after s (t.answer x st p)) x st p ∧ Frame s (after s (t.answer x st p)) ps fs := by
  refine ⟨?_, (g.trans ((answer_frame t x st p).mono hp hf)).after s⟩
  have := answer_answered s t x st p h
  unfold Answered at *
  simpa only [after_cmd, after_handle] using this

/-- The reply of an immediate command, whatever its effect did to the handle table. -/
theorem reply_ends {s t : State} (x : Ctx) (st : Nat) (p : List Byte) (h : x.handle = 0) :
    Answered s (after s (t.answer x st p)) x st p := by
  unfold Answered
  rw [if_pos h, after_cmd]
  unfold State.answer; rw [if_pos h]; exact reply_last _ _ _ _ _

end Sys2Proof.Machine
end

