-- ==== Sys2Proof/Laws/Parts.lean ====
section
/-!
SUPPORT. Frames across the update of one part of the state.
-/
namespace Sys2Proof.Machine

variable {s t : State} {ps : List Part} {fs : List Fld}

theorem Frame.setNow (h : Frame s t ps fs) (x : Nat) (hm : .now ∈ ps) : Frame s { t with now := x } ps fs :=
  h.trans (.of (fun p hp => by cases p <;> first | rfl | exact ⟨rfl, rfl, rfl⟩ | exact absurd hm hp | exact ⟨rfl, List.prefix_refl _⟩ | exact ⟨rfl, rfl⟩) (.of_eq _ rfl))

theorem Frame.setTick (h : Frame s t ps fs) (x : TickSt) (hm : .tick ∈ ps) : Frame s { t with tick := x } ps fs :=
  h.trans (.of (fun p hp => by cases p <;> first | rfl | exact ⟨rfl, rfl, rfl⟩ | exact absurd hm hp | exact ⟨rfl, List.prefix_refl _⟩ | exact ⟨rfl, rfl⟩) (.of_eq _ rfl))

theorem Frame.setArray (h : Frame s t ps fs) (x : ArraySt) (hm : .array ∈ ps) : Frame s { t with array := x } ps fs :=
  h.trans (.of (fun p hp => by cases p <;> first | rfl | exact ⟨rfl, rfl, rfl⟩ | exact absurd hm hp | exact ⟨rfl, List.prefix_refl _⟩ | exact ⟨rfl, rfl⟩) (.of_eq _ rfl))

theorem Frame.setPipe (h : Frame s t ps fs) (x : PipeSt) (hm : .pipe ∈ ps) : Frame s { t with pipe := x } ps fs :=
  h.trans (.of (fun p hp => by cases p <;> first | rfl | exact ⟨rfl, rfl, rfl⟩ | exact absurd hm hp | exact ⟨rfl, List.prefix_refl _⟩ | exact ⟨rfl, rfl⟩) (.of_eq _ rfl))

theorem Frame.setLayer (h : Frame s t ps fs) (x : LayerSt) (hm : .layer ∈ ps) : Frame s { t with layer := x } ps fs :=
  h.trans (.of (fun p hp => by cases p <;> first | rfl | exact ⟨rfl, rfl, rfl⟩ | exact absurd hm hp | exact ⟨rfl, List.prefix_refl _⟩ | exact ⟨rfl, rfl⟩) (.of_eq _ rfl))

theorem Frame.setCask (h : Frame s t ps fs) (x : CaskSt) (hm : .cask ∈ ps) : Frame s { t with cask := x } ps fs :=
  h.trans (.of (fun p hp => by cases p <;> first | rfl | exact ⟨rfl, rfl, rfl⟩ | exact absurd hm hp | exact ⟨rfl, List.prefix_refl _⟩ | exact ⟨rfl, rfl⟩) (.of_eq _ rfl))

theorem Frame.setSafe (h : Frame s t ps fs) (x : SafeSt) (hm : .safe ∈ ps) : Frame s { t with safe := x } ps fs :=
  h.trans (.of (fun p hp => by cases p <;> first | rfl | exact ⟨rfl, rfl, rfl⟩ | exact absurd hm hp | exact ⟨rfl, List.prefix_refl _⟩ | exact ⟨rfl, rfl⟩) (.of_eq _ rfl))

theorem Frame.setMem (h : Frame s t ps fs) (x : MemSt) (hm : .mem ∈ ps) : Frame s { t with mem := x } ps fs :=
  h.trans (.of (fun p hp => by cases p <;> first | rfl | exact ⟨rfl, rfl, rfl⟩ | exact absurd hm hp | exact ⟨rfl, List.prefix_refl _⟩ | exact ⟨rfl, rfl⟩) (.of_eq _ rfl))

theorem Frame.setCellar (h : Frame s t ps fs) (x : CellarSt) (hm : .cellar ∈ ps) : Frame s { t with cellar := x } ps fs :=
  h.trans (.of (fun p hp => by cases p <;> first | rfl | exact ⟨rfl, rfl, rfl⟩ | exact absurd hm hp | exact ⟨rfl, List.prefix_refl _⟩ | exact ⟨rfl, rfl⟩) (.of_eq _ rfl))

theorem Frame.setPower (h : Frame s t ps fs) (x : PowerSt) (hm : .power ∈ ps) : Frame s { t with power := x } ps fs :=
  h.trans (.of (fun p hp => by cases p <;> first | rfl | exact ⟨rfl, rfl, rfl⟩ | exact absurd hm hp | exact ⟨rfl, List.prefix_refl _⟩ | exact ⟨rfl, rfl⟩) (.of_eq _ rfl))

theorem Frame.setTherm (h : Frame s t ps fs) (x : ThermSt) (hm : .therm ∈ ps) : Frame s { t with therm := x } ps fs :=
  h.trans (.of (fun p hp => by cases p <;> first | rfl | exact ⟨rfl, rfl, rfl⟩ | exact absurd hm hp | exact ⟨rfl, List.prefix_refl _⟩ | exact ⟨rfl, rfl⟩) (.of_eq _ rfl))

theorem Frame.setCal (h : Frame s t ps fs) (x : CalSt) (hm : .cal ∈ ps) : Frame s { t with cal := x } ps fs :=
  h.trans (.of (fun p hp => by cases p <;> first | rfl | exact ⟨rfl, rfl, rfl⟩ | exact absurd hm hp | exact ⟨rfl, List.prefix_refl _⟩ | exact ⟨rfl, rfl⟩) (.of_eq _ rfl))

theorem Frame.setTest (h : Frame s t ps fs) (x : TestSt) (hm : .test ∈ ps) : Frame s { t with test := x } ps fs :=
  h.trans (.of (fun p hp => by cases p <;> first | rfl | exact ⟨rfl, rfl, rfl⟩ | exact absurd hm hp | exact ⟨rfl, List.prefix_refl _⟩ | exact ⟨rfl, rfl⟩) (.of_eq _ rfl))

theorem Frame.setGroup (h : Frame s t ps fs) (x : GroupSt) (hm : .group ∈ ps) : Frame s { t with group := x } ps fs :=
  h.trans (.of (fun p hp => by cases p <;> first | rfl | exact ⟨rfl, rfl, rfl⟩ | exact absurd hm hp | exact ⟨rfl, List.prefix_refl _⟩ | exact ⟨rfl, rfl⟩) (.of_eq _ rfl))

theorem Frame.setSat (h : Frame s t ps fs) (x : SatSt) (hm : .sat ∈ ps) : Frame s { t with sat := x } ps fs :=
  h.trans (.of (fun p hp => by cases p <;> first | rfl | exact ⟨rfl, rfl, rfl⟩ | exact absurd hm hp | exact ⟨rfl, List.prefix_refl _⟩ | exact ⟨rfl, rfl⟩) (.of_eq _ rfl))

theorem Frame.setBoot (h : Frame s t ps fs) (x : BootSt) (hm : .boot ∈ ps) : Frame s { t with boot := x } ps fs :=
  h.trans (.of (fun p hp => by cases p <;> first | rfl | exact ⟨rfl, rfl, rfl⟩ | exact absurd hm hp | exact ⟨rfl, List.prefix_refl _⟩ | exact ⟨rfl, rfl⟩) (.of_eq _ rfl))

theorem Frame.setEngine (h : Frame s t ps fs) (x : CmdSt) (hm : .engine ∈ ps) : Frame s { t with cmd := x } ps fs :=
  h.trans (.of (fun p hp => by cases p <;> first | rfl | exact ⟨rfl, rfl, rfl⟩ | exact absurd hm hp | exact ⟨rfl, List.prefix_refl _⟩ | exact ⟨rfl, rfl⟩) (.of_eq _ rfl))

theorem Frame.setLanes (h : Frame s t ps fs) (x : List LaneSt) (hm : .lanes ∈ ps) : Frame s { t with daelo := { t.daelo with lanes := x } } ps fs :=
  h.trans (.of (fun p hp => by cases p <;> first | rfl | exact ⟨rfl, rfl, rfl⟩ | exact absurd hm hp | exact ⟨rfl, List.prefix_refl _⟩ | exact ⟨rfl, rfl⟩) (.of_eq _ rfl))

theorem Frame.setLinks (h : Frame s t ps fs) (x : List LinkSt) (hm : .links ∈ ps) : Frame s { t with daelo := { t.daelo with links := x } } ps fs :=
  h.trans (.of (fun p hp => by cases p <;> first | rfl | exact ⟨rfl, rfl, rfl⟩ | exact absurd hm hp | exact ⟨rfl, List.prefix_refl _⟩ | exact ⟨rfl, rfl⟩) (.of_eq _ rfl))

theorem Frame.setRl (h : Frame s t ps fs) (x : RlSt) (hm : .returns ∈ ps) : Frame s { t with daelo := { t.daelo with rl := x } } ps fs :=
  h.trans (.of (fun p hp => by cases p <;> first | rfl | exact ⟨rfl, rfl, rfl⟩ | exact absurd hm hp | exact ⟨rfl, List.prefix_refl _⟩ | exact ⟨rfl, rfl⟩) (.of_eq _ rfl))

theorem Frame.setArb (h : Frame s t ps fs) (x : ArbSt) (hm : .arb ∈ ps) : Frame s { t with arb := x } ps fs :=
  h.trans (.of (fun p hp => by cases p <;> first | rfl | exact ⟨rfl, rfl, rfl⟩ | exact absurd hm hp | exact ⟨rfl, List.prefix_refl _⟩ | exact ⟨rfl, rfl⟩) (.of_eq _ rfl))

theorem Frame.setSince (h : Frame s t ps fs) (x : SinceSt) : Frame s { t with since := x } ps fs :=
  h.trans (.of (fun p hp => by cases p <;> first | rfl | exact ⟨rfl, rfl, rfl⟩ | exact ⟨rfl, List.prefix_refl _⟩ | exact ⟨rfl, rfl⟩) (.of_eq _ rfl))

theorem Frame.setFree (h : Frame s t ps fs) (x : Nat) : Frame s { t with free := x } ps fs :=
  h.trans (.of (fun p hp => by cases p <;> first | rfl | exact ⟨rfl, rfl, rfl⟩ | exact ⟨rfl, List.prefix_refl _⟩ | exact ⟨rfl, rfl⟩) (.of_eq _ rfl))

/-- A pending command's frame. -/
theorem Frame.pend (h : Frame s t ps fs) (k : Nat) (hm : .engine ∈ ps) : Frame s (t.pend k) ps fs := h.setEngine _ hm

/-- An answer after an effect. -/
theorem Frame.answer (h : Frame s t ps fs) (x : Ctx) (st : Nat) (p : List Byte) (hp : ∀ q ∈ answerParts, q ∈ ps)
    (hf : ∀ f ∈ answerFlds, f ∈ fs) : Frame s (t.answer x st p) ps fs := h.trans ((answer_frame t x st p).mono hp hf)

/-- A completion after an effect. -/
theorem Frame.finish (h : Frame s t ps fs) (k st : Nat) (p : List Byte) (hp : ∀ q ∈ answerParts, q ∈ ps)
    (hf : ∀ f ∈ answerFlds, f ∈ fs) : Frame s (t.finish k st p) ps fs := h.trans ((finish_frame t k st p).mono hp hf)

/-- Bytes written to the SRAM. -/
theorem Frame.sramWrite (h : Frame s t ps fs) (a : Nat) (bs : List Byte) (hm : .mem ∈ ps) : Frame s (t.sramWrite a bs) ps fs :=
  h.setMem _ hm

/-- A pending command, once the command has ended. -/
theorem pends_after (s : State) {t : State} (u : State) (x : Ctx) (h : u.cmd.handles = (t.pend x.handle).cmd.handles)
    (ht : t.cmd.handles = s.cmd.handles) : Pends s (after s u) x := by
  intro e he
  have hp := pend_handle t x.handle
  refine ⟨{ e with st := 2 }, ?_, rfl⟩
  rw [after_handle]
  unfold State.handle at *
  rw [h, hp, ht, he]; rfl

end Sys2Proof.Machine
end

