-- ==== Sys2Proof/Laws/Safe.lean ====
section
/-!
SUPPORT. What the entry to a safe state can touch, operation by operation: every cause that arises stays within these parts
and fields.
-/
namespace Sys2Proof.Machine

variable {s t : State} {ps : List Part} {fs : List Fld}

/-- A list of parts and fields takes in those of a scan that reads on, or no scan runs (R431). -/
def TakesScan (s : State) (ps : List Part) (fs : List Fld) : Prop :=
  (.test ∈ ps ∧ ∀ f ∈ scanFlds, f ∈ fs) ∨ (.test ∉ ps ∧ s.test.scan = none)

/-- A list of parts and fields takes in those of an entry to a safe state. -/
structure TakesSafe (s : State) (ps : List Part) (fs : List Fld) : Prop where
  parts : ∀ p ∈ safeParts, p ∈ ps
  fields : ∀ f ∈ safeFlds, f ∈ fs
  scan : TakesScan s ps fs

/-- The parts and fields that statements name: what a running scan touches, and what an entry to a safe state does. -/
theorem TakesSafe.self (s : State) (gs : List Fld) : TakesSafe s (s.scanParts ++ safeParts) (s.scanShown ++ gs ++ safeFlds) := by
  refine ⟨fun p hp => List.mem_append_right _ hp, fun f hf => List.mem_append_right _ hf, ?_⟩
  unfold State.scanParts State.scanShown
  cases h : s.test.scan with
  | none => exact .inr ⟨by decide, h⟩
  | some r =>
    refine .inl ⟨List.mem_append_left _ (List.mem_singleton.2 rfl), fun f hf => ?_⟩
    exact List.mem_append_left _ (List.mem_append_left _ hf)

theorem TakesSafe.answer (h : TakesSafe s ps fs) : (∀ p ∈ answerParts, p ∈ ps) ∧ ∀ f ∈ answerFlds, f ∈ fs :=
  ⟨fun p hp => h.parts p (List.mem_append_right _ hp), fun f hf => h.fields f (List.mem_append_right _ hf)⟩

theorem Frame.ledOff (h : Frame s t ps fs) (hp : .power ∈ ps) (hf : POWER_STATUS.LED_REG ∈ fs) : Frame s t.ledOff ps fs :=
  (h.setPower _ hp).wr _ _ hf rfl

theorem Frame.ledStart (h : Frame s t ps fs) (hp : .power ∈ ps) : Frame s t.ledStart ps fs := by
  unfold State.ledStart; split
  · exact h.setPower _ hp
  · exact h

theorem Frame.cutOff (h : Frame s t ps fs) (w : Nat) (hp : .array ∈ ps) (hf : ARRAY_CUT_COLS.EN w ∈ fs) :
    Frame s (t.cutOff w) ps fs := (h.setArray _ hp).wr _ _ hf rfl

theorem Frame.cutsOff (h : Frame s t ps fs) (k : TakesSafe s ps fs) : Frame s t.cutsOff ps fs := by
  have key : ∀ l : List Nat, (∀ w ∈ l, w < 16) → ∀ t, Frame s t ps fs → Frame s (l.foldl State.cutOff t) ps fs := by
    intro l
    induction l with
    | nil => intro _ t h; exact h
    | cons w l ih =>
      intro hl t h
      refine ih (fun v hv => hl v (List.mem_cons_of_mem _ hv)) _ (h.cutOff w (k.parts _ (by decide)) (k.fields _ ?_))
      refine List.mem_append_left _ (List.mem_append_right _ (List.mem_map.2 ⟨w, ?_, rfl⟩))
      exact List.mem_range.2 (hl w List.mem_cons_self)
  exact key _ (fun w hw => List.mem_range.1 hw) _ (h.setArray _ (k.parts _ (by decide)))

theorem Frame.calLast (h : Frame s t ps fs) (r : CalRun) (k : TakesSafe s ps fs) : Frame s (t.calLast r) ps fs :=
  (h.wr _ _ (k.fields _ (by decide)) rfl).wr _ _ (k.fields _ (by decide)) rfl

/-- A calibration run ends, if there is one. -/
theorem Frame.calInterrupt (h : Frame s t ps fs) (st : Nat) (k : TakesSafe s ps fs) : Frame s (t.calEnd CAL_STATUS.INTERRUPTED st) ps fs := by
  unfold State.calEnd
  cases t.cal.run with
  | none => exact h
  | some r =>
    exact ((((((h.setCal _ (k.parts _ (by decide))).wr _ _ (k.fields _ (by decide)) rfl).wr _ _ (k.fields _ (by decide)) rfl).sets _
      (k.fields _ (by decide)) rfl).calLast r k).trans ((finish_frame _ _ _ _).mono k.answer.1 k.answer.2))

/-- One page write touches the cellar and its wear warnings. -/
theorem Frame.pageWritten (h : Frame s t ps fs) (p : Nat) (hp : .cellar ∈ ps) (hw : CELLAR_STATUS.WEAR_WARN ∈ fs)
    (hl : CELLAR_STATUS.WEAR_LIMIT ∈ fs) : Frame s (t.pageWritten p) ps fs := by
  unfold State.pageWritten State.wearCheck
  exact ((h.setCellar _ hp).setIf _ _ hw rfl).setIf _ _ hl rfl

/-- Reading one page of the cellar touches its ECC records. -/
theorem Frame.pageRead (h : Frame s t ps fs) (p : Nat) (he : ∀ f ∈ eccFlds, f ∈ fs) : Frame s (t.pageRead p) ps fs := by
  unfold State.pageRead
  dsimp only
  split
  · exact h
  · split
    · exact (h.inc _ (he _ (by decide)) rfl).sets _ (he _ (by decide)) rfl
    · exact ((h.inc _ (he _ (by decide)) rfl).sets _ (he _ (by decide)) rfl).wr _ _ (he _ (by decide)) rfl

/-- A running scan that reads on touches its own record and what its reads touch. -/
theorem Frame.scanStep (h : Frame s t ps fs) (hp : .test ∈ ps) (hf : ∀ f ∈ scanFlds, f ∈ fs) : Frame s t.scanStep ps fs := by
  have he : ∀ f ∈ eccFlds, f ∈ fs := fun f hm => hf f (List.mem_append_right _ hm)
  have key : ∀ u (r : ScanRun) (n : Nat), Frame s u ps fs → Frame s (u.scanTo r n) ps fs := by
    intro u r n g
    unfold State.scanTo
    dsimp only
    refine Frame.wr (Frame.wr (Frame.setTest ?_ _ hp) _ _ (hf _ (by decide)) rfl) _ _ (hf _ (by decide)) rfl
    split
    · exact g
    · exact Frame.foldl _ (fun v p k => k.pageRead p he) _ g
  unfold State.scanStep
  split
  · exact h
  · exact key _ _ _ (h.setFree _)

/-- A running scan reads on, where the parts and fields take it in. -/
theorem Frame.scanReads (h : Frame s t ps fs) (k : TakesScan s ps fs) : Frame s t.scanStep ps fs := by
  rcases k with ⟨hp, hf⟩ | ⟨hp, hn⟩
  · exact h.scanStep hp hf
  · have : t.test = s.test := h.parts _ hp
    unfold State.scanStep
    rw [this, hn]
    exact h

/-- A record joins the boot and fault ring. -/
theorem Frame.ringAppend (h : Frame s t ps fs) (r : RingRec) (hp : .cellar ∈ ps) (hw : CELLAR_STATUS.WEAR_WARN ∈ fs)
    (hl : CELLAR_STATUS.WEAR_LIMIT ∈ fs) (k : TakesScan s ps fs) : Frame s (t.ringAppend r) ps fs := by
  have g := h.scanReads k
  unfold State.ringAppend
  generalize t.scanStep = u at g
  refine Frame.pageWritten ?_ _ hp hw hl
  exact g.setCellar _ hp

/-- What every entry to a safe state does. -/
theorem Frame.enterSafe (h : Frame s t ps fs) (st : Nat) (k : TakesSafe s ps fs) : Frame s (t.enterSafe st) ps fs := by
  have h1 := (((h.cutsOff k).wr SAFE_STATUS.STATE st (k.fields _ (by decide)) rfl).sets SAFE_STATUS.STATE_EV (k.fields _ (by decide)) rfl)
  unfold State.enterSafe
  dsimp only
  generalize (t.cutsOff.wr SAFE_STATUS.STATE st).sets SAFE_STATUS.STATE_EV = u at h1
  refine Frame.calInterrupt ?_ _ k
  refine Frame.ringAppend ?_ _ (k.parts _ (by decide)) (k.fields _ (by decide)) (k.fields _ (by decide)) k.scan
  refine Frame.notice (Frame.wr ?_ _ _ (k.fields _ (by decide)) rfl) _ _
  have h2 := h1.setPipe { u.pipe with fillAll := true, limpTick := true, compFresh := false, dispFresh := false } (k.parts _ (by decide))
  exact h2.setTick { u.tick with passRunning := false, passWait := false, passDone := false } (k.parts _ (by decide))

/-- A handshake ends, if there is one. -/
theorem Frame.hsEnd (h : Frame s t ps fs) (st m : Nat) (k : TakesSafe s ps fs) : Frame s (t.hsEnd st m) ps fs := by
  unfold State.hsEnd
  have h1 : Frame s t.hsClear ps fs := (h.setPower { t.power with hs := none } (k.parts _ (by decide))).setGroup { t.group with departing := false }
    (k.parts _ (by decide))
  cases hh : t.power.hs with
  | none => exact h
  | some e => exact h1.trans ((finish_frame _ _ _ _).mono k.answer.1 k.answer.2)

theorem Frame.enterDark (h : Frame s t ps fs) (k : TakesSafe s ps fs) : Frame s t.enterDark ps fs :=
  (((h.enterSafe 2 k).wr _ _ (k.fields _ (by decide)) rfl).ledOff (k.parts _ (by decide)) (k.fields _ (by decide)))

theorem Frame.limpActive (h : Frame s t ps fs) (k : TakesSafe s ps fs) : Frame s t.limpActive ps fs := by
  unfold State.limpActive; split
  · exact (h.wr _ _ (k.fields _ (by decide)) rfl).setPipe _ (k.parts _ (by decide))
  · exact h

theorem Frame.limpMark (h : Frame s t ps fs) (k : TakesSafe s ps fs) : Frame s t.limpMark ps fs :=
  (h.setSafe { t.safe with limpTau := t.rd THERM_THROTTLE.TAU } (k.parts _ (by decide))).setPower
    { t.power with shut := t.power.shut.map fun h => { h with limp := true } } (k.parts _ (by decide))

theorem Frame.enterLimp (h : Frame s t ps fs) (k : TakesSafe s ps fs) : Frame s t.enterLimp ps fs := by
  unfold State.enterLimp
  have h1 := ((h.enterSafe 1 k).limpActive k).limpMark k
  dsimp only
  split
  · exact h1.ledStart (k.parts _ (by decide))
  · exact (h1.ledOff (k.parts _ (by decide)) (k.fields _ (by decide))).wr _ _ (k.fields _ (by decide)) rfl

/-- An unlit LIMP may be lit. -/
theorem Frame.lightLimp (h : Frame s t ps fs) (k : TakesSafe s ps fs) : Frame s t.lightLimp ps fs := by
  unfold State.lightLimp
  split
  · exact (h.wr _ _ (k.fields _ (by decide)) rfl).ledStart (k.parts _ (by decide))
  · exact h

/-- The reaction to newly latched causes. -/
theorem Frame.react (h : Frame s t ps fs) (m : Nat) (k : TakesSafe s ps fs) : Frame s (t.react m) ps fs := by
  unfold State.react
  split
  · split
    · exact h
    · exact h.enterDark k
  · split
    · exact h.lightLimp k
    · split
      · exact h
      · split
        · exact h.enterLimp k
        · exact (h.wr _ _ (k.fields _ (by decide)) rfl).enterDark k

theorem Frame.releaseRefused (h : Frame s t ps fs) (b c : Nat) (k : TakesSafe s ps fs) : Frame s (t.releaseRefused b c) ps fs := by
  unfold State.releaseRefused
  exact Frame.foldl _ (fun t n g => g.trans ((finish_frame _ _ _ _).mono k.answer.1 k.answer.2)) _
    ((h.setSafe _ (k.parts _ (by decide))).ledOff (k.parts _ (by decide)) (k.fields _ (by decide)))

/-- Causes that arise in a core cycle of no release touch nothing beyond the parts and fields of a safe state. -/
theorem Frame.raise (h : Frame s t ps fs) (m : Nat) (k : TakesSafe s ps fs) (hr : t.releaseNow = none) :
    Frame s (t.raise m) ps fs := by
  have lose : t.releaseLoses m = t := by unfold State.releaseLoses; rw [hr]
  unfold State.raise
  rw [lose]
  dsimp only
  have h1 := h.wr SAFE_CAUSE.LATCHED (Nat.lor (t.rd SAFE_CAUSE.LATCHED) m) (k.fields _ (by decide)) rfl
  have h2 : Frame s (if (t.wr SAFE_CAUSE.LATCHED (Nat.lor (t.rd SAFE_CAUSE.LATCHED) m)).safe.release.isEmpty = true then
      t.wr SAFE_CAUSE.LATCHED (Nat.lor (t.rd SAFE_CAUSE.LATCHED) m)
    else (t.wr SAFE_CAUSE.LATCHED (Nat.lor (t.rd SAFE_CAUSE.LATCHED) m)).releaseRefused
      (Nat.lor m (t.wr SAFE_CAUSE.LATCHED (Nat.lor (t.rd SAFE_CAUSE.LATCHED) m)).blocking) 0) ps fs := by
    split
    · exact h1
    · exact h1.releaseRefused _ _ k
  refine Frame.react ?_ m k
  split
  · exact h2.hsEnd _ _ k
  · exact h2

end Sys2Proof.Machine
end

