-- ==== Sys2Proof/Laws/Shared.lean ====
section
/-!
SUPPORT. Shared operations of the command engine's neighbours: the change log, the operating point, page writes, and what a
reset keeps of the registers.
-/
namespace Sys2Proof.Machine

variable {s t : State} {ps : List Part} {fs : List Fld}

/-- An entry of the change log touches the log and its counters. -/
theorem Frame.log (h : Frame s t ps fs) (addr : Nat) (old new : Word) (src kind : Nat) (hp : .safe ∈ ps)
    (hn : SAFE_LOG_STATUS.NEXT ∈ fs) (hd : SAFE_LOG_STATUS.DROPPED ∈ fs) (hs : SAFE_STATUS.LOG_DROP ∈ fs) :
    Frame s (t.log addr old new src kind) ps fs := by
  unfold State.log
  dsimp only
  have h1 := h.wr SAFE_LOG_STATUS.NEXT ((t.rd SAFE_LOG_STATUS.NEXT + 1) % 65536) hn rfl
  split
  · exact h1.setSafe _ hp
  · exact (h1.inc _ hd rfl).sets _ hs rfl

/-- An operation of a port touches the arbiters only. -/
theorem Frame.memOp (h : Frame s t ps fs) (r p a n : Nat) (w : Bool) (hm : .arb ∈ ps) : Frame s (t.memOp r p a n w) ps fs := h.setArb _ hm

/-- A port that drops its request touches the arbiters only. -/
theorem Frame.memDrop (h : Frame s t ps fs) (r p : Nat) (hm : .arb ∈ ps) : Frame s (t.memDrop r p) ps fs := h.setArb _ hm

/-- The commands that wait for an operating point complete. -/
theorem Frame.opReached (h : Frame s t ps fs) (hp : .power ∈ ps) (ha : ∀ p ∈ answerParts, p ∈ ps) (hf : ∀ f ∈ answerFlds, f ∈ fs) :
    Frame s t.opReached ps fs :=
  Frame.foldl _ (fun u n g => g.trans ((finish_frame u n _ _).mono ha hf)) _ (h.setPower _ hp)

/-- Acting on a requested operating point touches its step, its bits and the commands that wait for it. -/
theorem Frame.opKick (h : Frame s t ps fs) (hp : .power ∈ ps) (ha : ∀ p ∈ answerParts, p ∈ ps) (hf : ∀ f ∈ answerFlds, f ∈ fs)
    (hb : POWER_STATUS.OP_BUSY ∈ fs) (hd : POWER_STATUS.OP_DEFER ∈ fs) : Frame s t.opKick ps fs := by
  unfold State.opKick
  dsimp only
  split
  · exact h
  · split
    · exact (h.setPower _ hp).sets _ hb rfl
    · split
      · split
        · exact h
        · exact (h.setPower _ hp).sets _ hd rfl
      · split
        · exact h.opReached hp ha hf
        · exact h

/-- Entries mapped key by key, with those dropped that equal what an unlisted key reads as, keep the canonical form. -/
theorem SMap.filterMap_wf {α : Type} {d : Nat → α} {m : SMap α} (f : Nat × α → Option (Nat × α))
    (hk : ∀ e r, f e = some r → r.1 = e.1 ∧ r.2 ≠ d r.1) (h : SMap.Wf d m) : SMap.Wf d (m.filterMap f) := by
  refine ⟨List.pairwise_filterMap.2 (h.1.imp fun {a b} hab x hx y hy => ?_), fun e he => ?_⟩
  · rw [(hk a x hx).1, (hk b y hy).1]; exact hab
  · obtain ⟨a, _, ha⟩ := List.mem_filterMap.1 he
    exact (hk a e ha).2

/-- The registers that a reset leaves are in canonical form. -/
theorem keptRegs_wf (s : State) (h : SMap.Wf regReset s.regs) : SMap.Wf regReset s.keptRegs :=
  SMap.filterMap_wf _ (fun e r hr => by
    unfold keepEntry at hr; dsimp only at hr
    split at hr
    · exact absurd hr (by simp)
    · cases hr; exact ⟨rfl, by assumption⟩) h

/-- The registers without their always-on bits are in canonical form. -/
theorem dropEntry_wf (s : State) (h : SMap.Wf regReset s.regs) : SMap.Wf regReset (s.regs.filterMap dropEntry) :=
  SMap.filterMap_wf _ (fun e r hr => by
    unfold dropEntry at hr; dsimp only at hr
    split at hr
    · exact absurd hr (by simp)
    · cases hr; exact ⟨rfl, by assumption⟩) h

/-- Writing a register keeps the canonical form. -/
theorem setReg_wf (s : State) (a : Nat) (v : Word) (h : SMap.Wf regReset s.regs) : SMap.Wf regReset (s.setReg a v).regs :=
  SMap.put_wf _ _ _ _ h

end Sys2Proof.Machine
end

