-- ==== Sys2Proof/WellFormed.lean ====
section
/-!
DEFINITION. Which commands are well formed: every operand fits the field of the packet or block that carries it, or
names a lane, bank, row, window or unit that the part has.
-/
namespace Sys2Proof

/-- A context that a packet can give: SEQ, TYPE, LENGTH, CRC and a 16-bit handle (R249, R263). -/
def Ctx.wf (x : Ctx) : Bool :=
  x.seq < 256 && (x.ptype == 1 || x.ptype == 2) && x.len ≤ 2080 && x.crc < 65536 && x.handle < 65536

/-- A byte field. -/
def fits8 (l : List Nat) : Bool := l.all (· < 256)

/-- A 16-bit field. -/
def fits16 (l : List Nat) : Bool := l.all (· < 65536)

/-- A 32-bit field. -/
def fits32 (l : List Nat) : Bool := l.all (· < 4294967296)

/-- Every parameter fits its field (R268, R270, R285 to R319). -/
def Cmd.wf : Cmd → Bool
  | .nop | .identify | .status | .cellarInfo | .sealRead | .safeStateRelease | .groupStatus => true
  | .regRead a n _ => fits32 [a] && fits16 [n]
  | .regWrite a _ data => fits32 [a] && data.length ≤ 518
  | .regModify a _ _ => fits32 [a]
  | .fence q _ hs => q < 32 && hs.length < 256 && fits16 hs
  | .fenceTick q m v => q < 32 && fits8 [m] && fits32 [v]
  | .queryHandle h => fits16 [h]
  | .readCompletions m => fits8 [m]
  | .cancel h => fits16 [h]
  | .setPowerState st op r w ms => fits8 [st, op, w] && r < 268435456 && fits32 [ms]
  | .shutdown _ _ n => fits8 [n]
  | .resetDevice k key => fits8 [k, key]
  | .layerCommit m => fits8 [m]
  | .rack b m w c => b < 2 && fits8 [m] && fits16 [w, c]
  | .caskSelect m b => fits8 [m] && b < 2
  | .cutWindowSet w y0 y1 g0 g1 => w < 16 && y0 < 1024 && y1 < 1024 && g0 < 128 && g1 < 128
  | .cutWindowClear m => fits16 [m]
  | .symbolLoad i _ _ off w h wm cl f crc d data =>
    fits8 [i, f] && fits16 [w, h, wm, cl] && fits32 [off, crc, d] && data.length ≤ 2048
  | .coefLoad s c => fits8 [s] && c.length == 1024
  | .rampLoad r => r.length == 1024 && fits16 r
  | .mixLoad t e => fits8 [t] && e.length == 256 && e.all fun p => fits16 [p.1, p.2]
  | .regionSigSet i _ _ p x0 y0 x1 y1 ex => fits8 [i] && p < 4 && fits16 [x0, y0, x1, y1] && fits32 [ex]
  | .cellarRead s r off n => fits8 [s, r] && fits32 [off] && fits16 [n]
  | .cellarWrite off data => fits32 [off] && data.length ≤ 2070
  | .cellarStore r off len => fits8 [r] && fits32 [off, len]
  | .firmwareStage s _ _ off total crc data => fits8 [s] && fits32 [off, total, crc] && data.length ≤ 2058
  | .firmwareActivate s _ => fits8 [s]
  | .calibrate m c s f => fits8 [m, s] && c < 4 && fits16 [f]
  | .bistPlan p _ => fits32 [p]
  | .bistResult w => fits8 [w]
  | .scanCheck s a _ start len ex => fits8 [s, a] && fits32 [start, len, ex]
  | .monitorConfig m _ _ src sh x0 y0 x1 y1 f => fits8 [m, src, sh] && fits16 [x0, y0, x1, y1, f]
  | .monitorRead m _ => fits8 [m]
  | .faultMapRead s m _ => fits16 [s] && fits8 [m]
  | .rowKill r op _ => fits16 [r] && fits8 [op]
  | .sealConfirm c => fits32 [c]
  | .passwordUnlock op len pw => fits8 [op, len] && pw.length ≤ 16
  | .changeLogRead f m => fits16 [f] && fits8 [m]
  | .groupConfig r m c => fits8 [r, m, c]
  | .satConfig l t _ _ => fits8 [l, t]
  | .satWrite f ws => fits8 [f] && ws.length < 256

/-- The packet command that an opcode's row performs, with its context; none for an event. -/
def Instr.command : Instr → Option (Ctx × Cmd)
  | .nop x => some (x, .nop)
  | .identify x => some (x, .identify)
  | .status x => some (x, .status)
  | .regRead x a n f => some (x, .regRead a n f)
  | .regWrite x a f d => some (x, .regWrite a f d)
  | .regModify x a m v _ => some (x, .regModify a m v)
  | .fence x q a hs => some (x, .fence q a hs)
  | .fenceTick x q m v => some (x, .fenceTick q m v)
  | .queryHandle x h => some (x, .queryHandle h)
  | .readCompletions x m => some (x, .readCompletions m)
  | .cancel x h => some (x, .cancel h)
  | .setPowerState x st op r w ms => some (x, .setPowerState st op r w ms)
  | .shutdown x c f n => some (x, .shutdown c f n)
  | .resetDevice x k key => some (x, .resetDevice k key)
  | .layerCommit x m => some (x, .layerCommit m)
  | .rack x b m w c => some (x, .rack b m w c)
  | .caskSelect x m b => some (x, .caskSelect m b)
  | .cutWindowSet x w y0 y1 g0 g1 => some (x, .cutWindowSet w y0 y1 g0 g1)
  | .cutWindowClear x m => some (x, .cutWindowClear m)
  | .symbolLoad x i f l off w h wm cl fm crc d data => some (x, .symbolLoad i f l off w h wm cl fm crc d data)
  | .coefLoad x s c => some (x, .coefLoad s c)
  | .rampLoad x r => some (x, .rampLoad r)
  | .mixLoad x t e => some (x, .mixLoad t e)
  | .regionSigSet x i en ch p x0 y0 x1 y1 ex => some (x, .regionSigSet i en ch p x0 y0 x1 y1 ex)
  | .cellarRead x s r off n => some (x, .cellarRead s r off n)
  | .cellarWrite x off d => some (x, .cellarWrite off d)
  | .cellarStore x r off len => some (x, .cellarStore r off len)
  | .cellarInfo x => some (x, .cellarInfo)
  | .firmwareStage x s f l off t c d => some (x, .firmwareStage s f l off t c d)
  | .firmwareActivate x s r => some (x, .firmwareActivate s r)
  | .calibrate x m c s f => some (x, .calibrate m c s f)
  | .bistPlan x p q => some (x, .bistPlan p q)
  | .bistResult x w => some (x, .bistResult w)
  | .scanCheck x s a c st len ex => some (x, .scanCheck s a c st len ex)
  | .monitorConfig x m en lg src sh x0 y0 x1 y1 f => some (x, .monitorConfig m en lg src sh x0 y0 x1 y1 f)
  | .monitorRead x m c => some (x, .monitorRead m c)
  | .faultMapRead x s m c => some (x, .faultMapRead s m c)
  | .rowKill x r op p => some (x, .rowKill r op p)
  | .sealRead x => some (x, .sealRead)
  | .sealConfirm x c => some (x, .sealConfirm c)
  | .passwordUnlock x op len pw => some (x, .passwordUnlock op len pw)
  | .changeLogRead x f m => some (x, .changeLogRead f m)
  | .safeStateRelease x => some (x, .safeStateRelease)
  | .groupConfig x r m c => some (x, .groupConfig r m c)
  | .groupStatus x => some (x, .groupStatus)
  | .satConfig x l t e tc => some (x, .satConfig l t e tc)
  | .satWrite x f ws => some (x, .satWrite f ws)
  | .spiFrame .. | .replyFetch .. | .queueEntryStart .. | .barrierRelease .. | .fenceTickRelease .. | .resetDeviceStart ..
  | .registerWrite .. | .rcStatusRead .. | .rejFifoPop .. | .timeBaseReadLo .. | .sysKeyWrite .. | .unlockLapse
  | .timeBaseLoad .. | .cutColsWrite .. | .cutRowsStage .. | .layerDisable .. | .seStop .. | .seStart .. | .laneDisable ..
  | .laneEnable .. | .rlDisable .. | .rlEnable .. | .rlBurstRequest .. | .govScaleWrite .. | .cellarEnWrite ..
  | .scanDisable .. | .crcUnitInit .. | .crcUnitData .. | .memInmapWrite .. | .opRequestWrite .. | .opStepDone | .tick
  | .predictionPassStart | .predictionPassDone | .vledTargetHandover | .decisionPoint | .compositionDone .. | .rackDone
  | .slotStart | .writeWindowOpen .. | .rowSlot .. | .writeWindowEnd .. | .darkSlotStart | .darkSlotEnd | .calSample ..
  | .calFitDone | .fsyncEdge | .fsyncWindowMiss | .guardDeadline | .safeInputEdge .. | .safeInputFault .. | .faultnMismatch
  | .scWdog | .sfWdog | .sealCheck | .sealStoreDone | .lockoutEnd | .changeLogWrite | .scrubCheck .. | .limpRecordAccept
  | .limpTableRecompute | .videoBlock .. | .guardBlock .. | .controlBlock .. | .idleBlock .. | .pattern .. | .rateReq ..
  | .rateGo .. | .restripe .. | .eiEnter .. | .eiExit .. | .retrain .. | .invalidBlock .. | .lossOfSignal .. | .commaRun ..
  | .huntTimeout .. | .trainTimeout .. | .tapReqRepeat .. | .rateStepTimeout .. | .eiExitTimeout ..
  | .idleRetentionExpiry .. | .deskewWaitExpiry .. | .rlBlockBoundary | .powerHandshakeAnswer .. | .handshakeTimeout
  | .wakeEvent .. | .wakeStageReady .. | .wakeStageTimeout | .trimReloadDone | .ledRegulationReached
  | .releaseSupplyTimeout | .ledRegLoss | .ledFoldback .. | .vledOvervoltage | .vbatLow .. | .vbatHigh | .headroomTrimDecay
  | .sensorConversion .. | .ntcMeasurement .. | .throttleHoldExpiry | .sfclkMeasurement .. | .cellarCommitDone
  | .copybackDone | .scanDone | .bistRunDone .. | .holdTimeout .. | .starve .. | .gsyncEdge | .gsyncEdgeMissed
  | .groupSlotSend .. | .groupSlotWord .. | .groupExchangeEnd | .satFrameStart | .satFrameEnd | .resetPin .. | .powerOn ..
  | .brownOut | .railFault .. | .clockLoss | .vaonLoss | .jtagReset | .stage1Release .. | .bootStageDone .. | .bootTimeout
  | .nearMissWindowExpiry .. | .vsysLow .. | .ledSupplyResume .. | .xtal32Loss | .xtal32Qualified
  | .rcOscillatorMeasurement .. | .symbolLibraryReloadDone | .firmwarePageWriteDone | .recordSlotWriteDone | .tableLoadDone =>
    none

/-- A block names one of four lanes and carries a SEQ octet and 60 payload bytes (R180). -/
def wfBlock (lane seq : Nat) (payload : List Byte) : Bool := lane < 4 && seq < 256 && payload.length == 60

/-- A hardware update lies in a register (R337). -/
def HwUpd.wf (u : HwUpd) : Bool := u.lo + u.w ≤ 32 && u.value < 2 ^ u.w

/-- The operands of an event name parts that exist. -/
def Instr.wfEvent : Instr → Bool
  | .replyFetch _ seq _ => seq < 256
  | .regModify _ _ _ _ hw => hw.all HwUpd.wf
  | .registerWrite _ a _ hw => a % 4 == 0 && a ≤ 0x13FFC && hw.all HwUpd.wf
  | .rcStatusRead _ a => a % 4 == 0 && a ≤ 0x13FFC
  | .cutColsWrite _ w _ => w < 16
  | .cutRowsStage _ w _ => w < 16
  | .layerDisable _ n v => n < 8 && v.toNat % 2 == 0
  | .crcUnitInit _ k _ => k < 4
  | .crcUnitData _ k _ => k < 4
  | .compositionDone cp => cp < 2
  | .writeWindowOpen b => b < 8
  | .rowSlot y shorts opens progress =>
    y < 640 && progress.length == 8 && (shorts ++ opens).all fun e => e.1 < 2048
  | .writeWindowEnd b => b < 8
  | .calSample sub i readings => sub < 8 && i < 8 && readings.length == 16 && readings.all (· ≤ 16000)
  | .safeInputEdge ch _ => ch < 4
  | .scrubCheck a _ => a % 4 == 0 && a ≤ 0x13FFC
  | .videoBlock l q p => wfBlock l q p
  | .guardBlock l q p => wfBlock l q p
  | .controlBlock l q p => wfBlock l q p
  | .idleBlock l q p => wfBlock l q p
  | .pattern l q p => wfBlock l q p
  | .rateReq l q p => wfBlock l q p
  | .rateGo l q p => wfBlock l q p
  | .restripe l q p => wfBlock l q p
  | .eiEnter l q p => wfBlock l q p
  | .eiExit l q p => wfBlock l q p
  | .retrain l q p => wfBlock l q p
  | .invalidBlock l g => l < 4 && g.length == 64 && g.all (· < 1024)
  | .lossOfSignal l _ => l < 4
  | .commaRun l => l < 4
  | .huntTimeout l => l < 4
  | .trainTimeout l => l < 4
  | .tapReqRepeat l => l < 4
  | .rateStepTimeout k => k < 2
  | .eiExitTimeout l => l < 4
  | .idleRetentionExpiry l => l < 4
  | .deskewWaitExpiry k => k < 2
  | .powerHandshakeAnswer b _ => b < 20
  | .wakeEvent src => src < 8
  | .sensorConversion conv => conv.length == 24
  | .ntcMeasurement k _ => k < 2
  | .holdTimeout b r p => b < 28 && r < 8 && p < 8
  | .starve b r p => b < 28 && r < 8 && p < 8
  | .groupSlotWord m levels => m < 4 && levels.length == 82
  | .railFault r => r < 3
  | .bootStageDone fails => fails.all fun f => f.1 < 16 && f.2 < 256
  | .bistRunDone fails _ => fails.all fun f => f.1 < 16 && f.2 < 256
  | _ => true

/-- A command is well formed. -/
def Instr.wf (i : Instr) : Bool :=
  match i.command with
  | some (x, c) => x.wf && c.wf && i.wfEvent
  | none => i.wfEvent

end Sys2Proof
end

