-- ==== Sys2Proof/Tests/Slice0.lean ====
section
/-!
SUPPORT. The model's own tests: ill-formed commands that `Instr.wf` refuses, the worked examples of the spec, single steps of
commands on small states, and for every statement with hypotheses a state and operands that meet them.
-/
namespace Sys2Proof.Tests
open Sys2Proof Sys2Proof.Machine
set_option Elab.async false

/-! ## States and operands -/

/-- The device after boot, in ACTIVE and NORMAL, with no host seen. -/
def on : State := { State.reset with boot := { State.reset.boot with stage := 11 } }

/-- The state with a field written. -/
def put (f : Fld) (v : Nat) (s : State) : State := s.wr f v

/-- An immediate command of the SPI port, and a queued one with handle 5. -/
def imm : Ctx := ⟨.spi, 1, 2, 2, 0, 0, false⟩

def qd : Ctx := { imm with handle := 5 }

/-- A handle-table entry in a state of R262. -/
def ent (h st : Nat) : HandleEnt := ⟨h, 0, st, 0, 0, false, false, false, 0, [], 0⟩

/-- The handle of `qd` is EXECUTING. -/
def busy (s : State) : State := { s with cmd := { s.cmd with handles := [ent 5 1] } }

/-- What a command leaves; the state itself where it does not answer a next one. -/
def run (i : Instr) (s : State) : State :=
  match exec i s with
  | .next t => t
  | _ => s

def ascii (s : String) : List Byte := s.toList.map fun c => BitVec.ofNat 8 c.toNat

/-! ## Well-formedness: one ill-formed term for each check -/

theorem test_wf_accepts : (Instr.nop imm).wf = true ∧ (Instr.rowSlot 639 [(2047, true)] [] (List.replicate 8 0)).wf = true := by decide +kernel

theorem test_wf_context_seq : (Instr.nop { imm with seq := 256 }).wf = false := by decide +kernel

theorem test_wf_context_type : (Instr.nop { imm with ptype := 3 }).wf = false := by decide +kernel

theorem test_wf_context_length : (Instr.nop { imm with len := 2081 }).wf = false := by decide +kernel

theorem test_wf_context_handle : (Instr.nop { imm with handle := 65536 }).wf = false := by decide +kernel

theorem test_wf_byte_field : (Instr.rack imm 0 256 0 0).wf = false := by decide +kernel

theorem test_wf_half_word_field : (Instr.regRead imm 0 65536 false).wf = false := by decide +kernel

theorem test_wf_word_field : (Instr.cellarStore imm 2 4294967296 256).wf = false := by decide +kernel

theorem test_wf_length_of_data : (Instr.coefLoad imm 0 []).wf = false ∧ (Instr.rampLoad imm []).wf = false := by decide +kernel

theorem test_wf_bit_field : (Instr.cutWindowSet imm 16 0 0 0 0).wf = false ∧ (Instr.cutWindowSet imm 0 1024 0 0 0).wf = false
    ∧ (Instr.rack imm 2 1 0 0).wf = false := by decide +kernel

theorem test_wf_block_lane : (Instr.idleBlock 4 0 (List.replicate 60 0)).wf = false := by decide +kernel

theorem test_wf_block_seq : (Instr.idleBlock 0 256 (List.replicate 60 0)).wf = false := by decide +kernel

theorem test_wf_block_payload : (Instr.idleBlock 0 0 (List.replicate 59 0)).wf = false := by decide +kernel

theorem test_wf_update_in_register : (Instr.registerWrite .spi 0 0 [⟨31, 2, 0, false⟩]).wf = false
    ∧ (Instr.registerWrite .spi 0 0 [⟨0, 2, 4, false⟩]).wf = false := by decide +kernel

theorem test_wf_register_address : (Instr.rcStatusRead .spi 2).wf = false ∧ (Instr.rcStatusRead .spi 0x14000).wf = false := by decide +kernel

theorem test_wf_row : (Instr.rowSlot 640 [] [] (List.replicate 8 0)).wf = false ∧ (Instr.rowSlot 0 [] [(2048, false)] (List.replicate 8 0)).wf = false := by
  decide +kernel

theorem test_wf_bank : (Instr.writeWindowOpen 8).wf = false ∧ (Instr.writeWindowEnd 8).wf = false := by decide +kernel

/-- A reading reaches 2,000 mA and no more (R411). -/
theorem test_wf_reading : (Instr.calSample 0 0 (List.replicate 16 16000)).wf = true ∧ (Instr.calSample 0 0 (List.replicate 16 16001)).wf = false := by
  decide +kernel

theorem test_wf_groups_of_a_block : (Instr.invalidBlock 0 (List.replicate 63 0)).wf = false ∧ (Instr.invalidBlock 0 (List.replicate 64 1024)).wf = false := by
  decide +kernel

theorem test_wf_units : (Instr.holdTimeout 28 0 0).wf = false ∧ (Instr.crcUnitInit .spi 4 0).wf = false ∧ (Instr.railFault 3).wf = false
    ∧ (Instr.compositionDone 2).wf = false ∧ (Instr.wakeEvent 8).wf = false ∧ (Instr.sensorConversion []).wf = false
    ∧ (Instr.groupSlotWord 0 []).wf = false ∧ (Instr.layerDisable .spi 0 1).wf = false ∧ (Instr.safeInputEdge 4 true).wf = false := by
  decide +kernel

/-! ## Worked examples of the spec -/

/-- R59: 23,000 is encoded with ISEL 1 and 700 with ISEL 0. -/
theorem test_split_of_a_value : (stage5 1024 1021 (23000 * 16)).1 = true ∧ (stage5 1024 1021 (700 * 16)).1 = false := by decide +kernel

/-- R57, R61: with N_W 3 the default table lights LEVEL 1,023, 1,022 and 1,021 for 1,021, 1,020 and 1,019 steps. -/
theorem test_lit_steps_of_the_default_table :
    (onSteps (defaultRamp 3) 3 1023, onSteps (defaultRamp 3) 3 1022, onSteps (defaultRamp 3) 3 1021) = (1021, 1020, 1019) := by decide +kernel

/-- R154: the source positions of an upscaling from 1,024 to 2,048. -/
theorem test_source_positions : srcPos 1024 2048 0 = -16384 ∧ srcPos 1024 2048 1 = 16384 := by decide +kernel

/-- R402: tau of an array sensor between THROTTLE 120 and SHUT 135. -/
theorem test_tau_contributions :
    tauRaw (16 * 126) (16 * 120) (16 * 135) = 20669 ∧ tauRaw (16 * 125 + 8) (16 * 120) (16 * 135) = 21677
      ∧ tauRaw (16 * 130 + 8) (16 * 120) (16 * 135) = 11595 ∧ tauRaw (16 * 125) (16 * 120) (16 * 135) = 22686 := by decide +kernel

/-- The pixel of the worked example of chapter 03: expansion, mix, guard ceiling and reference (R94 to R99). -/
theorem test_pixel_to_the_mix : expandY 2 2900 = 46411 ∧ mixOne 46411 24544 = 34763 ∧ mixOne 46411 8224 = 11648 ∧ guardL 235 = 27554 := by
  decide +kernel

theorem test_pixel_reference : refEff 2560 0x6800 33161 32358 = 2079 ∧ codeFactor 2560 0x6800 33161 32358 = 32768 := by decide +kernel

theorem test_pixel_temperature : tempFactor 3146 67 = 33180 ∧ tempFactor 2097 67 = 33042 ∧ tempFactor 3146 64 = 33161 := by decide +kernel

/-- Stages 2 to 5 of the example, in 16ths and then in 64ths of a step (R99, R108, R111, R113). -/
theorem test_pixel_stages : stage3 (27554 * 16) 121 32899 = 436575 ∧ stage3 (11648 * 16) 140 32702 = 11897 * 16
    ∧ stage4 436575 33180 = 27629 * 16 ∧ stage4 (11897 * 16) 33042 = 11996 * 16 + 8
    ∧ stage5 1024 1021 (27629 * 16) = (true, 430 * 64 + 55) ∧ stage5 1024 1021 (11996 * 16 + 8) = (true, 187 * 64 + 5) := by decide +kernel

/-- Stage 6 of the example: lit steps in the four sub-frames (R115). -/
theorem test_pixel_dither : (List.range 4).map (fun k => stage6 true true 4 1000002 1300 203 k (430 * 64 + 55)) = [430, 431, 431, 431]
    ∧ (List.range 4).map (fun k => stage6 true true 4 1000002 1300 203 k (187 * 64 + 5)) = [187, 187, 187, 187] := by decide +kernel

/-- The example's levels: INV[430] = 431, INV[431] = 432, INV[187] = 187 (R114). -/
theorem test_pixel_levels : 430 ≤ onSteps (defaultRamp 3) 3 431 ∧ onSteps (defaultRamp 3) 3 430 < 430 ∧ 431 ≤ onSteps (defaultRamp 3) 3 432
    ∧ onSteps (defaultRamp 3) 3 431 < 431 ∧ 187 ≤ onSteps (defaultRamp 3) 3 187 ∧ onSteps (defaultRamp 3) 3 186 < 187 := by decide +kernel

/-- R138: an additive layer, and a multiplying one of black at full and at partial alpha. -/
theorem test_blending : alphaOf 255 128 = 129 ∧ blend 1 9000 8000 129 = 13031 ∧ blend 1 3000 12000 129 = 9047 ∧ alphaOf 255 153 = 154
    ∧ blend 3 5200 0 256 = 0 ∧ blend 3 5200 0 154 = 2072 ∧ blend 3 1100 0 154 = 438 := by decide +kernel

/-- R429: the check values of the three algorithms. -/
theorem test_crc_check_values : crcOf 0 (ascii "123456789") = 0xCBF43926 ∧ crcOf 1 (ascii "123456789") = 0xE3069283
    ∧ crcOf 2 (ascii "123456789") = 0x29B1 := by decide +kernel

/-- R328: the records of the example of chapter 10, by link A and by SPI. -/
theorem test_rejection_records : rejRecord 0x4000 .linkA 3 = 0x801A4000 ∧ rejRecord 0x4000 .spi 3 = 0x80184000 := by decide +kernel

/-- R112, R454: a satellite's temperature factor and a value under it. -/
theorem test_satellite_factor : tempFactor 6291 640 = 40632 ∧ rdiv (30000 * 40632) 32768 = 37200 := by decide +kernel

/-- R452: the chain frame of 24 satellites at TIMING 2. -/
theorem test_satellite_frame : 24 * 48 * satBit 2 + 80000 = 1520000 := by decide +kernel

/-- R415: the three results of the calibration example. -/
theorem test_new_gain : newGain 32899 33784 = 31910 ∧ newGain 32768 32342 = 33200 ∧ newGain 32358 32637 = 32488 := by decide +kernel

/-- R448: the hold frames of the example, in ns: 8,333.33 us less 3,000 us, and the limits of R33. -/
theorem test_hold_frame : holdClamp 4 (8333330 - 3000000) = 5333330 ∧ holdClamp 4 20000000 = 10000000 ∧ holdClamp 4 0 = 2083334 := by decide +kernel

/-- R159: the pitch and size of the zebra, 256 x 86 texels in A1. -/
theorem test_symbol_pitch : symPitch 0 256 = 32 ∧ symPitch 0 256 * 86 = 2752 := by decide +kernel

/-- R178: K28.5 sent at negative disparity. -/
theorem test_comma_symbol : (encode false true 0xBC).1 = 0x0FA := by decide +kernel


/-- A waiting port of bank 12. -/
def port12 (a : ArbSt) (r n : Nat) : ArbSt := { a with xacts := a.xacts ++ [⟨r, 0, 12 * 1048576, false, n, true, 0, false, 0⟩] }

/-- The default input map and burst limits, and the map of the example of R352. -/
def map0 : ArbCfg := ⟨fun r => r, fun i => [4, 8, 8, 16, 32, 16, 64, 16].getD i 0⟩

def map1 : ArbCfg := ⟨fun r => if r = 0 then 4 else if r = 4 then 0 else r, map0.limit⟩

def hint (a : ArbSt) (r : Nat) : Option Nat := (a.xacts.find? (·.samePort r 0)).map (·.hint)

/-- Cycles of the example of R352: 11 and 12 with link A and SC waiting, 34, 41 under the new map, and 66. -/
def arb11 : ArbSt := ArbSt.cycles map0 12 1 (port12 (ArbSt.cycles map0 12 10 (port12 ArbSt.init 4 96)) 5 2)

def arb13 : ArbSt := ArbSt.cycles map0 12 1 (port12 (ArbSt.cycles map0 12 1 arb11) 0 4)

def arb35 : ArbSt := ArbSt.cycles map0 12 22 arb13

def arb42 : ArbSt := ArbSt.cycles map1 12 1 (ArbSt.cycles map0 12 6 arb35)

def arb67 : ArbSt := ArbSt.cycles map1 12 25 arb42

/-- R352: the hints of the worked example, before and after the new map, and the grant of SC. -/
theorem test_arbitration_before : hint arb11 5 = some 22 ∧ hint arb13 0 = some 86 ∧ hint arb35 0 = some 64 := by decide +kernel

theorem test_arbitration_after : hint arb42 0 = some 25 ∧ hint arb67 4 = some 4 := by decide +kernel

/-! ## Single steps -/

/-- The state of the example of chapter 10 after its key: PRIVMODE set, PIPE unlocked by the SPI. -/
def keyed : State := run (.sysKeyWrite .spi 0x0004A5C3) (put SYS_COMPAT.PRIVMODE 1 on)

theorem test_key_unlocks : keyed.cmd.unlock = some ⟨4, .spi, 0⟩ := by decide +kernel

/-- R333, R335, R328: link A is refused, with the lower of two reasons, and the SPI's unlock stays. -/
theorem test_write_of_another_path : (run (.seStop .linkA 0xDF) keyed).cmd.rejFifo = [0x801A4000]
    ∧ (run (.seStop .linkA 0xDF) keyed).cmd.unlock = some ⟨4, .spi, 0⟩ ∧ (run (.seStop .linkA 0xDF) keyed).view 0x4000 = keyed.view 0x4000 := by
  decide +kernel

/-- R122, R332: the SPI stops engine 5 and uses up its unlock. -/
theorem test_engine_stop : (run (.seStop .spi 0xDF) keyed).rd PIPE_SE_CTRL.RUN = 0xDF ∧ (run (.seStop .spi 0xDF) keyed).cmd.unlock = none := by decide +kernel

/-- R331: SYS_HOST_TAG takes the first write after reset only. -/
theorem test_host_tag : (run (.registerWrite .spi 0x0C 0x1234 []) on).rd SYS_HOST_TAG.TAG = 0x1234
    ∧ (run (.registerWrite .spi 0x0C 0x99 []) (run (.registerWrite .spi 0x0C 0x1234 []) on)).rd SYS_HOST_TAG.TAG = 0x1234 := by decide +kernel

/-- R77, R311: the window of the example of chapter 02, and one whose rows lie beyond the face. -/
theorem test_cut_window : (run (.cutWindowSet imm 3 284 305 70 73) on).array.cuts.getD 3 ⟨⟨0, 0, 0, 0⟩, false⟩ = ⟨⟨284, 305, 70, 73⟩, true⟩
    ∧ (run (.cutWindowSet imm 0 700 800 0 0) on).rd (ARRAY_CUT_ROWS.Y0 0) = 639 := by decide +kernel

/-- R314, R90: a released row leaves the list of killed rows. -/
theorem test_row_kill : (run (.rowKill imm 203 0 false) on).isKilled 203 = true
    ∧ (run (.rowKill imm 203 1 false) { on with array := { on.array with killed := [(203, true)] } }).isKilled 203 = false := by decide +kernel

/-- R379: the trim falls by 5 mV every 10 s without a headroom signal. -/
theorem test_headroom_decay : (run .headroomTrimDecay (put POWER_VLED_TRIM.TRIM 25 { on with now := 10000000000 })).rd POWER_VLED_TRIM.TRIM = 20
    ∧ (run .headroomTrimDecay (put POWER_VLED_TRIM.TRIM 25 { on with now := 9999999999 })).rd POWER_VLED_TRIM.TRIM = 25 := by decide +kernel

/-- R296: a CELLAR_WRITE lands in the staging area. -/
theorem test_cellar_write : (run (.cellarWrite imm 16 [1, 2, 3]) on).sramBytes (stagingBase + 16) 3 = [1, 2, 3] := by decide +kernel

/-- R301: with EN = 0 a store completes NOT_NOW and REFUSED is set. -/
theorem test_store_refused : (run (.cellarStore imm 2 0 256) (put CELLAR_CTRL.EN 0 on)).rd CELLAR_STATUS.REFUSED = 1 := by decide +kernel

/-- R280: NOP's reply, and the reply to a handle that is not in the table. -/
theorem test_nop_reply : (run (.nop imm) on).cmd.last.head? = some (1, 0, []) := by decide +kernel

theorem test_unknown_handle : (run (.queryHandle imm 9) on).cmd.last.head? = some (1, 0x18, []) := by decide +kernel

/-- R71, R212: the safety-core watchdog enters DARK, where every reference is 0. -/
theorem test_watchdog_is_dark : (run .sfWdog on).safety = 2 ∧ (run .sfWdog on).pins.forceZero = true ∧ (run .sfWdog on).pins.phLow = true := by decide +kernel

/-- R459: of two causes in one cycle the lower code is recorded, in either order. -/
theorem test_two_reset_causes : (run .brownOut (run .jtagReset on)).rd SYS_BOOT_CAUSE.CAUSE = 2
    ∧ (run .jtagReset (run .brownOut on)).rd SYS_BOOT_CAUSE.CAUSE = 2 := by decide +kernel

/-- R467: stage 1 leads to stage 2. -/
theorem test_boot_stage : (run (.bootStageDone []) (run (.stage1Release 5) State.reset)).boot.stage = 2 := by decide +kernel

/-- R458: at reset the part is held, dark, with FAULT_N asserted. -/
theorem test_reset_pins : State.reset.pins.fault = true ∧ State.reset.inReset = true ∧ State.reset.cmd.handles = [] := by decide +kernel


/-! ## Witnesses: for each statement with hypotheses, states and operands that meet them -/

theorem on_live : Live on := ⟨by decide +kernel, by decide +kernel⟩

theorem on_acts : Acts on := ⟨on_live, by decide +kernel⟩

theorem on_open : Open on := ⟨by decide +kernel, by decide +kernel⟩

/-- A cause waits for the end of a SAFE_PATH test in progress; and a store whose next page is due at `due`, with `done` written. -/
def pathHeld : State :=
  put BIST_STATUS.RUN 1 (put BIST_PROG.CURRENT 10 (put BIST_PROG.ACTIVE 1 { on with safe := { on.safe with path := some (40, 65535) } }))

def paging (due done : Nat) : State :=
  { on with cellar := { on.cellar with run := some ⟨5, .store 4 0 (List.replicate 256 7) none, 0, 1, done, due, false⟩ } }

theorem witness_IdleStep : on.pending = [] ∧ on.arb.xacts = [] ∧ (∀ p ∈ on.safe.path, on.now + 40 < p.1) ∧ on.cellar.run = none
    ∧ pathHeld.safe.path = some (40, 65535) ∧ 40 ≤ pathHeld.now + 40 ∧ pathHeld.underTest [10] = true ∧ pathHeld.safe.released = none
    ∧ arb11.xacts.Pairwise (fun x y => x.samePort y.req y.port = false) ∧ arb11.xacts ≠ [] := by decide +kernel

theorem witness_IdleStep_pages : (paging 41 0).cellar.run = some ⟨5, .store 4 0 (List.replicate 256 7) none, 0, 1, 0, 41, false⟩ ∧ (paging 41 0).now + 40 < 41
    ∧ (paging 40 3).cellar.run.map (fun r => decide (r.limit ≤ r.done)) = some true
    ∧ (paging 40 0).cellar.run.map (fun r => decide ((paging 40 0).now + 40 < r.due ∨ r.limit ≤ r.done)) = some false := by decide +kernel

theorem witness_EveryCommandEnds : State.reset.inReset = true ∧ State.reset.sleeping = false ∧ State.reset.causeNow = false
    ∧ State.reset.boot.window = none ∧ State.reset.boot.cold = true := by decide +kernel

theorem witness_PinsFollow : PinsTrue State.reset ∧ ∃ t, step State.reset = .next t := ⟨by unfold PinsTrue; decide +kernel, _, rfl⟩

theorem witness_CanonicalKept : Canonical State.reset ∧ ∃ t, step State.reset = .next t :=
  ⟨⟨by decide +kernel, by decide +kernel, by decide +kernel, by decide +kernel, by decide +kernel, by decide +kernel, by decide +kernel⟩, _, rfl⟩

theorem witness_DarkIsDark : ∃ t, exec .sfWdog on = .next t ∧ t.safety = 2 := ⟨_, rfl, by decide +kernel⟩

def listed : State := { on with cmd := { on.cmd with handles := [ent 5 0, ent 6 3], cq := [⟨6, 1, 0, 0, 0⟩] } }

theorem witness_SystemQueries : Open listed ∧ imm.handle = 0 ∧ listed.handle 9 = none ∧ (listed.handle 5).map (·.st) = some 0
    ∧ (listed.handle 6).map (·.st) = some 3 ∧ (1 ≤ 32 ∧ 32 < 33) := by
  repeat' apply And.intro
  all_goals decide +kernel

theorem witness_RegisterPackets : Open on ∧ imm.handle = 0 ∧ (∀ i, i < 4 → regAddrOk (if false then 0x10080 else 0x10080 + 4 * i) = true)
    ∧ ([0, 1, 2] : List Word).length ≤ 64 ∧ regAddrOk 0x10088 = true ∧ (0x10088 ∈ on.since.upset → 0x10088 ∈ on.since.reported) ∧ on.testing = false
    ∧ regAddrOk 0x14000 = false ∧ regAddrOk 2 = false := ⟨on_open, by decide +kernel⟩

/-- Queue 2 holds a NOP whose handle 5 is QUEUED; handle 7 is a released fence's, handle 8 a FENCE_TICK's whose tick has come. -/
def queued : State :=
  { on with cmd := { on.cmd with
      handles := [ent 5 0, ent 7 2, ent 8 2], queues := [[], [], [.cmd qd .nop], [.barrier 7], []],
      fences := [⟨7, [], .plain, false⟩, ⟨8, [], .relative 0, true⟩] } }

theorem witness_Queues : queued.engineOn = true ∧ queued.cmd.queues.getD 2 [] = .cmd qd .nop :: [] ∧ (queued.handle qd.handle).map (·.st) = some 0
    ∧ queued.heldBack (opcodeOf .nop) = false ∧ queued.heldBack 0 = false ∧ queued.boot.held = false ∧ qd.handle ≠ 0
    ∧ (∀ x c rest, on.cmd.queues.getD 0 [] = .cmd x c :: rest → (on.handle x.handle).map (·.st) ≠ some 0) := by
  refine ⟨by decide +kernel, by decide +kernel, by decide +kernel, by decide +kernel, by decide +kernel, by decide +kernel, by decide +kernel, ?_⟩
  intro x c rest h
  exact absurd (show ([] : List QEnt) = .cmd x c :: rest from h) (by simp)

theorem witness_Queues_fences : Open queued ∧ queuesOf 16 ≠ [] ∧ queued.anyFull (queuesOf 16) = false ∧ [5].length ≤ 8
    ∧ [5].all (queued.earlier 9) = true ∧ (1 ≤ 65535 ∧ 0 ≤ 1) ∧ queued.handle 7 = some (ent 7 2) ∧ (ent 7 2).st ≠ 3 ∧ queued.handle 8 = some (ent 8 2)
    ∧ queued.cmd.fences.any (fun f => f.h == 7 && f.waits.isEmpty && f.kind == .plain) = true
    ∧ queued.cmd.fences.any (fun f => f.h == 8 && f.due && f.kind != .plain) = true
    ∧ queued.cmd.fences.any (fun f => f.h == 8 && f.waits.isEmpty && f.kind == .plain) = false
    ∧ queued.cmd.fences.any (fun f => f.h == 7 && f.due && f.kind != .plain) = false :=
  ⟨⟨by decide +kernel, by decide +kernel⟩, by decide +kernel⟩

/-- The host has been seen, so a packet's row alone changes the state. -/
def seen : State := put SAFE_STATUS.HOST_SEEN 1 on

/-- REG_READ of one word as SEQ 7, laid out by R251 and R286; LAYER_COMMIT of layer 0 as SEQ 7; and the first with a wrong CRC. -/
def readFrame : List Byte := [0xA6, 1, 7, 0, 9, 0, 4, 0, 0, 0, 0, 1, 0, 0, 0, 91, 112]

def badFrame : List Byte := readFrame.set 16 0

def readPacket : Packet := ⟨1, 7, 0, 9, [4, 0, 0, 0, 0, 1, 0, 0, 0], 0x705B, true⟩

def badPacket : Packet := ⟨1, 7, 0, 9, [4, 0, 0, 0, 0, 1, 0, 0, 0], 0x005B, false⟩

/-- The reply store keeps the packet, or another of its SEQ. -/
def keeps (crc : Nat) : State := { seen with cmd := { seen.cmd with kept := [⟨1, 9, 7, crc, 0, [1], 0⟩] } }

theorem witness_SpiFrames : State.reset.boot.stage < 3 ∧ 3 ≤ seen.boot.stage ∧ Open seen ∧ seen.boot.window = none ∧ frame readFrame = .packet readPacket
    ∧ u8 readFrame 0 = 0xA6 ∧ readPacket.crcOk = true ∧ seen.rd SAFE_STATUS.HOST_SEEN = 1 ∧ seen.cmd.kept.find? (·.seq == readPacket.seq) = none
    ∧ decodePacket readPacket = .inl (.regRead 0 1 false, false) ∧ readPacket.ptype = 1 := by
  repeat' apply And.intro
  all_goals decide +kernel

theorem witness_SpiFrames_engine_off : (let s := { on with boot := { on.boot with stage := 5 } }; 3 ≤ s.boot.stage ∧ s.engineOn = false) := by decide +kernel

theorem witness_SpiFrames_rejected : frame badFrame = .packet badPacket ∧ badPacket.crcOk = false ∧ u8 badFrame 0 = 0xA6 := by decide +kernel

theorem witness_SpiFrames_repeated : (keeps 0x705B).engineOn = true ∧ (keeps 0x705B).rd SAFE_STATUS.HOST_SEEN = 1
    ∧ (keeps 0x705B).cmd.kept.find? (·.seq == readPacket.seq) = some ⟨1, 9, 7, 0x705B, 0, [1], 0⟩
    ∧ (keeps 1).cmd.kept.find? (·.seq == readPacket.seq) = some ⟨1, 9, 7, 1, 0, [1], 0⟩ ∧ (1 : Nat) ≠ readPacket.crc := by decide +kernel

theorem witness_PowerCommands : Open (busy on) ∧ (1 ≤ 3 ∧ (busy on).safety ≠ 1 ∧ 3 ≠ (busy on).powerState ∧ (busy on).power.hs = none)
    ∧ (busy on).shutBusy = false ∧ imm.handle = 0 ∧ (1 < 2 ∨ (0x5A : Nat) ≠ 0x5A) :=
  ⟨⟨by decide +kernel, by decide +kernel⟩, by decide +kernel⟩

/-- A change to sleep waits for the blocks; and the divider at point `d`, with `step` in progress. -/
def handing : State := { busy on with power := { on.power with hs := some ⟨6, 3, 0, 0, 0, 0, []⟩ } }

def divided (d : Nat) (step : Option (Nat × Bool)) : State := { busy on with power := { on.power with div := d, step := step } }

theorem witness_PowerCommands_fails : (3 < 4 ∨ 3 < 0) ∧ (put SAFE_STATUS.STATE 1 (busy on)).safety = 1 ∧ handing.safety ≠ 1 ∧ 3 ≠ handing.powerState
    ∧ handing.power.hs ≠ none ∧ (4 = 0 ∨ 3 < 4) ∧ ({ busy on with power := { on.power with shut := some ⟨6, false, 1, false, 0, 0, 0, none⟩ } } : State).shutBusy = true := by
  decide +kernel

theorem witness_PowerCommands_points : (busy on).powerState ≤ 3 ∧ (busy on).safety ≠ 1 ∧ (divided 0 (some (1, true))).power.step ≠ none
    ∧ (divided 0 none).power.step = none ∧ 0 < min 2 (divided 0 none).opMax ∧ min 1 (divided 2 none).opMax < 2
    ∧ (divided 1 none).power.div = 1 ∧ 1 ≤ (divided 1 none).opMax ∧ (put POWER_STATUS.STATE 1 (busy on)).powerState = 1
    ∧ (put POWER_STATUS.STATE 1 (busy on)).safety = 0 ∧ (put POWER_STATUS.STATE 1 (busy on)).power.led = 0
    ∧ (put POWER_STATUS.STATE 1 (busy on)).power.shutHold = false := by decide +kernel


/-- An enabled cask layer of beam 0 on the whole face. -/
def caskCfg : LayerCfg := ⟨[5, 0, 0, 0, 0x02800800, 0, 0, 0, 0, 0, 0], List.replicate 11 0⟩

/-- Layer 0 is configured so, in registers and in force, and both beams are valid. -/
def casked : State :=
  put CASK_STATUS.VALID0 1 (put CASK_STATUS.VALID1 1 (put (LAYER_CTRL.KIND 0) 2
    { busy on with layer := { on.layer with active := on.layer.active.set 0 caskCfg } }))

/-- A commit of layer 0 is pending. -/
def committed : State := { busy on with layer := { on.layer with commits := [⟨6, 1, none⟩] } }

theorem witness_Commits : Open (busy on) ∧ qd.handle ≠ 0 ∧ (1 : Nat) ≠ 0 ∧ Nat.land 1 (busy on).claimed = 0 ∧ (busy on).commitFault 1 = none
    ∧ Nat.land 1 committed.claimed ≠ 0 ∧ (put (LAYER_CTRL.EN 0) 1 (busy on)).commitFault 1 = some (0, 0x5024)
    ∧ Nat.land 1 (put (LAYER_CTRL.EN 0) 1 (busy on)).claimed = 0 :=
  ⟨⟨by decide +kernel, by decide +kernel⟩, by decide +kernel⟩

theorem witness_Commits_cask : Open casked ∧ Nat.land 1 casked.claimed = 0 ∧ (∀ n ∈ layersOf 1, (casked.regCfg n).kind = 2)
    ∧ (casked.beamValid 1 = true ∧ ∀ r, casked.cask.racking = some r → r.beam ≠ 1)
    ∧ ((layersOf 1).foldl (fun (u : State) n => u.wr (LAYER_CTRL.BEAM n) 1) casked).commitFault 1 = none
    ∧ ¬ (∀ n ∈ layersOf 1, ((busy on).regCfg n).kind = 2) ∧ ¬ ((put CASK_STATUS.VALID1 0 casked).beamValid 1 = true) :=
  ⟨⟨by decide +kernel, by decide +kernel⟩, by decide +kernel, by decide +kernel, ⟨by decide +kernel, by intro r h; exact absurd (show none = some r from h) (by simp)⟩,
    by decide +kernel, by decide +kernel, by decide +kernel⟩

/-- A racking of beam 1 is in progress. -/
def racked : State := { casked with cask := { casked.cask with racking := some ⟨5, 1, 0, 0, [], [], [], []⟩ } }

theorem witness_RackRuns : Open casked ∧ casked.rackFault 1 1 = none
    ∧ (casked.cask.racking = none ∧ (∀ n ∈ layersOf 1, casked.rackSource n ≠ none) ∧ casked.beamNamed 1 = false)
    ∧ casked.rackFault 0 1 = some (0, 0x5000) ∧ racked.rackFault 1 1 = none ∧ racked.cask.racking ≠ none
    ∧ Acts racked ∧ racked.cask.racking = some ⟨5, 1, 0, 0, [], [], [], []⟩ ∧ racked.compReadsBeam 1 = false := by
  repeat' apply And.intro
  all_goals decide +kernel

theorem witness_EmptyWindows : (min 638 639 < min 639 639 ∨ (127 : Nat) < 0) ∧ (min 700 639 < min 639 639 ∨ (0 : Nat) < 1) ∧ Open on
    ∧ on.array.cuts.length = 16 ∧ fget 0x80000001 31 1 = 1 ∧ Admitted on .spi (0x3104 + 8 * 15) 0x80000001 ∧ on.cutTie 15 = none
    ∧ fget 0x80000001 16 7 < fget 0x80000001 0 7 := by
  repeat' apply And.intro
  all_goals first | decide +kernel | (unfold Admitted; decide +kernel)

/-- Window 15 was updated from the SPI port in this core cycle; and a safe state. -/
def spiCut : State := { on with array := { on.array with cutSpi := [⟨15, 0, ⟨0, 0, ⟨⟨0, 0, 0, 0⟩, false⟩⟩, [.clear]⟩] } }

def limp : State := put SAFE_STATUS.STATE 1 on

def dark : State := put SAFE_STATUS.STATE 2 on

theorem witness_CutWindows : Open spiCut ∧ spiCut.safety = 0 ∧ min 639 639 ≤ min 1023 639 ∧ (spiCut.cutTie 15).isSome = true
    ∧ spiCut.cutTie 0 = none ∧ Source.linkA ≠ .spi ∧ spiCut.array.cuts.length = 16 ∧ (∀ w, bitN 0 w = true → on.cutTie w = none)
    ∧ Open limp ∧ limp.safety ≠ 0 ∧ dark.safety ≠ 0 ∧ cutEmpty 639 1023 127 127 = false
    ∧ bitN (u8 [0x80] 0) 7 = true ∧ bitN (u8 [0x0F] 0) 7 = false ∧ limp.cutTie (bits (u8 [0x0F] 0) 0 4) = none :=
  ⟨⟨by decide +kernel, by decide +kernel⟩, by decide +kernel, by decide +kernel, by decide +kernel, by decide +kernel, by decide +kernel, by decide +kernel,
    fun _ _ => rfl, ⟨by decide +kernel, by decide +kernel⟩, by decide +kernel⟩

/-- The symbol store's directory with no symbol valid or loading; and entry 255 LOADING, of 8 x 1 texels in A1, 4 bytes. -/
def empty : State := { busy on with mem := { on.mem with sram := (List.range 256).map fun i => (symbolStore + 16 * i + 13, 0) } }

def loading : State := empty.putSymEntry 255 ⟨0x8000, 8, 1, 9, 9, 0, false, true, symPitch 0 8⟩

theorem witness_SymbolLoads : Open empty ∧ qd.handle ≠ 0 ∧ empty.symFirstOk 255 0x8000 8 1 0 = true ∧ empty.rackReadsSymbol 255 = false
    ∧ empty.symHeld 255 = false ∧ 0 + 4 ≤ (SymEntry.mk 0x8000 8 1 9 9 0 false true (symPitch 0 8)).bytes
    ∧ ({ empty with cask := { on.cask with heldSyms := [⟨6, 255, false, 0, 0, []⟩] } } : State).symHeld 255 = true
    ∧ ({ empty with cask := { on.cask with racking := some ⟨6, 0, 0, 0, [], [.symbol 255 []], [], []⟩ } } : State).rackReadsSymbol 255 = true
    ∧ empty.symFirstOk 255 0 8 1 0 = false := ⟨⟨by decide +kernel, by decide +kernel⟩, by decide +kernel⟩

theorem witness_SymbolLoads_last : Open loading ∧ loading.symHeld 255 = false ∧ (loading.symEntry 255).loading = true
    ∧ 0 + 4 ≤ (loading.symEntry 255).bytes ∧ 4096 ≤ (loading.symEntry 255).offset ∧ (loading.symEntry 255).bytes < 1 + 4
    ∧ (empty.symEntry 255).loading = false := ⟨⟨by decide +kernel, by decide +kernel⟩, by decide +kernel⟩

/-- A coefficient set whose phases have one tap of 4,096. -/
def coefs : List Byte := (List.range 64).flatMap fun _ => [0, 0, 0, 0, 0, 0, 0, 16, 0, 0, 0, 0, 0, 0, 0, 0]

theorem witness_TableLoads : (normSet (coefOf coefs)).isSome = true ∧ normSet (coefOf (List.replicate 1024 0)) = none
    ∧ rampOk (List.replicate 1024 1024) = false ∧ rampOk (List.replicate 1024 1023) = true := by
  refine ⟨by decide +kernel, by decide +kernel, by decide +kernel, ?_⟩
  simp only [rampOk, List.length_replicate, List.all_replicate, Bool.and_eq_true, List.all_eq_true, List.mem_range]
  refine ⟨⟨rfl, rfl⟩, fun k hk => ?_⟩
  simp only [List.getD_eq_getElem?_getD, List.getElem?_replicate]
  rw [if_pos (by omega), if_pos (by omega)]; rfl

theorem witness_TableLoads_done : Open (busy on) ∧ Live { on with cask := { on.cask with loads := [(5, .coefLoad 7 coefs)] } }
    ∧ Live { on with cask := { on.cask with loads := [(5, .rampLoad [])] } } ∧ Live { on with cask := { on.cask with loads := [(5, .mixLoad 3 [])] } } := by
  repeat' apply And.intro
  all_goals decide +kernel

/-- Handle 5 waits for the next TICK with the command. -/
def awaits (c : Cmd) : State := { busy on with cmd := { (busy on).cmd with tickCmds := [(5, c)] } }

theorem witness_CommandsForTheTick_latch : ∀ c ∈ [Cmd.regionSigSet 15 true true 1 2047 639 0 0 4294967295, .monitorConfig 7 true true 0 0 0 0 2047 639 0,
      .groupConfig 2 3 4, .satConfig 64 3 true true, .satWrite 63 [7], .calibrate 1 3 255 0],
    (awaits c).ticking = true ∧ (awaits c).cmd.tickCmds = [(5, c)] ∧ (awaits c).cal.run = none ∧ (awaits c).since.upset = []
      ∧ (awaits c).test.mons.length = 8 ∧ SMap.Wf noWord (awaits c).sat.image := by decide +kernel

theorem witness_CommandsForTheTick_refused : ¬ (2 ≤ 1 ∧ (3 : Nat) ≠ 0 ∧ (255 : Nat) ≠ 0 ∧ (0 = 0 ∨ 8 ≤ 0 ∧ 0 ≤ 1200))
    ∧ ({ on with cal := { on.cal with run := some ⟨5, 3, 255, 240, 1, 0, [], [], [], []⟩ } } : State).calBusy = true := by decide +kernel

theorem witness_CommandsForTheTick : Open on ∧ on.calBusy = false ∧ (63 ≤ 63 ∧ 1 ≤ 1 ∧ 63 + 1 ≤ (put SAT_CFG.LEN 64 on).rd SAT_CFG.LEN)
    ∧ ¬ (63 + 2 ≤ (put SAT_CFG.LEN 64 on).rd SAT_CFG.LEN) ∧ on.test.mons.length = 8 ∧ SMap.Wf noWord on.sat.image :=
  ⟨on_open, by decide +kernel⟩


/-- A cellar write in progress: a store of one page of region 4, and the staging area that it reads. -/
def storing (copying : Bool) : State :=
  { busy on with cellar := { on.cellar with run := some ⟨5, .store 4 0 (List.replicate 256 7) none, 0, 1, 0, 0, copying⟩ } }

theorem witness_CellarReads : Open on ∧ (1 ≤ 2048 ∧ 0 ≤ 5 ∧ regionSize 0 - 2048 + 2048 ≤ regionSize 0) ∧ on.targetBusy (regionBase 0, 2048) = false
    ∧ (pagesOf (regionBase 0) 2048).any on.pageBad = false ∧ on.stagingBusy = false ∧ 524287 + 1 ≤ 524288 ∧ Open (storing false)
    ∧ (storing false).targetBusy (regionBase 4 + 0, 256) = true ∧ (storing false).stagingBusy = true ∧ regionSize 4 < regionSize 4 + 1
    ∧ (let s := { on with cellar := { on.cellar with wear := [(regionBase 4 / 256, 1)], errs := [(regionBase 4 / 256, 3)] } };
        (pagesOf (regionBase 4) 256).any s.pageBad = true) := by
  repeat' apply And.intro
  all_goals decide +kernel

/-- The cellar is enabled, slot 1 has been begun and slot 0 holds a valid image. -/
def cellared : State :=
  put CELLAR_CTRL.EN 1 { busy on with cellar := { on.cellar with begun := [1], selSlots := [some ⟨1, ⟨0, some ⟨0, 0, 0, 0, 0, 0⟩, none⟩⟩, none] } }

theorem witness_CellarWritesBegin : Open cellared ∧ cellared.rd CELLAR_CTRL.EN = 1 ∧ cellared.cellar.run = none
    ∧ (2 ≠ 5 ∧ storeOk 2 (regionSize 2 - 256) 256 = true ∧ storeOk 3 0 256 = true ∧ storeOk 4 0 256 = true)
    ∧ (1 ≤ 1 ∧ cellared.runningSlot ≠ some 1 ∧ 1046528 % 256 = 0 ∧ 2048 % 256 = 0 ∧ 1046528 + 2048 ≤ 1048576)
    ∧ 1 ∈ cellared.cellar.begun ∧ 0 ∉ cellared.cellar.begun ∧ (cellared.cellar.selector.img 0).isSome = true ∧ cellared.cellar.selector.img 1 = none
    ∧ ({ cellared with boot := { cellared.boot with fw := some ⟨0, 0, 0, 0, 0, 0⟩ } } : State).runningSlot = some 0 :=
  ⟨⟨by decide +kernel, by decide +kernel⟩, by decide +kernel⟩

theorem witness_CellarWritesBegin_waits : Open (put CELLAR_CTRL.EN 1 (storing false)) ∧ (put CELLAR_CTRL.EN 1 (storing false)).rd CELLAR_CTRL.EN = 1
    ∧ (put CELLAR_CTRL.EN 1 (storing false)).cellar.run ≠ none ∧ Open (put CELLAR_CTRL.EN 0 on) ∧ (put CELLAR_CTRL.EN 0 on).rd CELLAR_CTRL.EN = 0
    ∧ cellared.cellar.waiting = [] ∧ cellared.power.shut = none ∧ cellared.testing = false ∧ SMap.Wf erased cellared.cellar.mem ∧ cellared.handle qd.handle = some (ent 5 1)
    ∧ (ent 5 1).st ≠ 3 := by
  repeat' apply And.intro
  all_goals decide +kernel

theorem witness_CellarWritesEnd : Acts (storing false) ∧ (storing false).cellar.run = some ⟨5, .store 4 0 (List.replicate 256 7) none, 0, 1, 0, 0, false⟩
    ∧ (List.replicate 256 (7 : Byte)).length = 256 * 1 ∧ 0 + 256 ≤ regionSize 4 ∧ SMap.Wf erased (storing false).cellar.mem
    ∧ (storing true).cellar.run = some ⟨5, .store 4 0 (List.replicate 256 7) none, 0, 1, 0, 0, true⟩ ∧ (storing true).therm.shutL = false
    ∧ (storing true).cellar.waiting = [] ∧ (storing true).power.shut = none ∧ 0 ≤ 1 ∧ (storing true).pageErrs 0 ≤ 2 :=
  ⟨⟨⟨by decide +kernel, by decide +kernel⟩, by decide +kernel⟩, by decide +kernel⟩

/-- A firmware write of one page, and an activation. -/
def running (j : CellarJob) : State := { busy on with cellar := { on.cellar with run := some ⟨5, j, 0, 1, 0, 0, false⟩ } }

theorem witness_CellarWritesEnd_firmware : Acts (running (.firmware 1 true 1048320 256 0 [1])) ∧ (running (.firmware 1 true 1048320 256 0 [1])).cellar.waiting = []
    ∧ (1048320 % 256 = 0 ∧ 256 * 1 < 1 + 256 ∧ 1 ≤ 256 * 1 ∧ 1048320 + 256 * 1 ≤ 1048576) ∧ SMap.Wf erased on.cellar.mem
    ∧ Acts (running (.activate 1 true)) ∧ (running (.activate 1 true)).cellar.run = some ⟨5, .activate 1 true, 0, 1, 0, 0, false⟩
    ∧ (running (.activate 1 true)).power.shut = none := by
  repeat' apply And.intro
  all_goals decide +kernel

/-- A calibration run that collects, with one instant drawn for sub-frame 0. -/
def aRun : CalRun := ⟨5, 3, 255, 8, 0, 0, [], [], [], []⟩

def calibrating (phase : Nat) : State :=
  put CAL_STATUS.PHASE phase { busy on with cal := { on.cal with run := some aRun, instants := [[1023], [], [], []] } }

theorem witness_Calibration : Open (busy on) ∧ qd.handle ≠ 0 ∧ (busy on).calBusy = false ∧ (8 ≤ 1200 ∧ 1200 < 1201 ∧ 7 < 8) ∧ Open (calibrating 1)
    ∧ Acts (calibrating 1) ∧ (calibrating 1).tick.dark = false ∧ ({ calibrating 1 with tick := { on.tick with dark := true } } : State).tick.dark = true
    ∧ Acts (calibrating 2) ∧ (calibrating 1).calBusy = true ∧ (calibrating 1).cal.run = some aRun ∧ ((calibrating 1).cal.instants.getD 0 [])[0]? = some 1023
    ∧ 0 = (calibrating 1).subframe ∧ aRun.wait = 0 ∧ (calibrating 1).rd CAL_STATUS.PHASE = 1 ∧ (calibrating 2).rd CAL_STATUS.PHASE = 2
    ∧ ((calibrating 1).cal.instants.getD 0 [])[1]? = none := by
  repeat' apply And.intro
  all_goals decide +kernel

/-- A SHUTDOWN whose tests run. -/
def shutting (limp' : Bool) : State := { busy on with power := { on.power with shut := some ⟨5, true, 1, limp', 0, 0, 1, none⟩ } }

theorem witness_SelfTests : Open on ∧ 65535 < 65536 ∧ Live (shutting false) ∧ (shutting false).power.shut = some ⟨5, true, 1, false, 0, 0, 1, none⟩
    ∧ (shutting false).safe.path = none ∧ (shutting false).cellar.run = none
    ∧ ({ shutting false with cellar := (storing false).cellar } : State).cellar.run ≠ none ∧ on.test.mons.length = 8 ∧ (1 ≤ 255 ∧ 255 < 256 ∧ 7 < 8) :=
  ⟨on_open, by decide +kernel, ⟨by decide +kernel, by decide +kernel⟩, by decide +kernel⟩

/-- The record of a SHUTDOWN is being stored, with the running configuration. -/
def shutStored (limp' : Bool) : State :=
  { shutting limp' with cellar := { on.cellar with run := some ⟨0, .shut noRecord (some on.snapshot), 0, 1, 0, 0, false⟩ } }

theorem witness_SelfTests_store : ∀ l : Bool, Acts (shutStored l) ∧ (shutStored l).power.shut = some ⟨5, true, 1, l, 0, 0, 1, none⟩
    ∧ (shutStored l).cellar.run = some ⟨0, .shut noRecord (some on.snapshot), 0, 1, 0, 0, false⟩ := by
  intro l
  cases l <;> exact ⟨⟨⟨by decide +kernel, by decide +kernel⟩, by decide +kernel⟩, rfl, rfl⟩

/-- Test 14 runs, the last of its plan. -/
def testsRun : State := put BIST_STATUS.RUN 1 (put BIST_PROG.CURRENT 14 (put BIST_PROG.ACTIVE 1 (shutting false)))

theorem witness_SelfTests_blocks : Live testsRun ∧ testsRun.testing = true ∧ testsRun.testStep.underTest [2, 14] = true := by
  refine ⟨⟨by decide +kernel, by decide +kernel⟩, by decide +kernel, ?_⟩
  have h : testsRun.testStep = testsRun.fresh.2 := by
    simp only [State.testStep, show testsRun.testing = true by decide +kernel, show testsRun.testsLeft = [] by decide +kernel, List.length_nil, Nat.zero_add, Nat.mod_one]
    rfl
  rw [h]
  decide +kernel

/-- A scan of 32 bytes, not yet begun. -/
def scanning : State := put CRC_SCAN_CTRL.EN 1 { busy on with test := { on.test with scan := some ⟨5, 0, 2, true, 0, 32, 0, 0, 0xFFFF⟩ } }

theorem witness_CrcUnits : Open on ∧ 3 < 4 ∧ on.test.crc.length = 4 ∧ fget 0x100 8 1 = 1 ∧ fget 0x002 0 2 ≠ on.rd (CRC_CTRL.ALG 3)
    ∧ scanOk 0 2 (0x1C00000 - 32) 32 = true ∧ (put CRC_SCAN_CTRL.EN 1 on).rd CRC_SCAN_CTRL.EN = 1 ∧ on.test.scan = none ∧ scanOk 0 2 0x1C00000 32 = false
    ∧ (put CRC_SCAN_CTRL.EN 0 on).rd CRC_SCAN_CTRL.EN = 0 ∧ Acts scanning ∧ Open scanning ∧ on.testing = false
    ∧ scanning.test.scan = some ⟨5, 0, 2, true, 0, 32, 0, 0, 0xFFFF⟩ ∧ crcInit 2 = 0xFFFF ∧ Admitted scanning .spi 0x10080 0 := by
  repeat' apply And.intro
  all_goals first | decide +kernel | (unfold Admitted; decide +kernel)

/-- A password is set and a limp beam held, so a seal may be confirmed. -/
def sealable : State := put SAFE_SEAL_STATUS.PW_SET 1 (put PIPE_FILL_STATUS.BEAM_VALID 1 (busy on))

def sealed (code : Nat) : State := put SAFE_SEAL_STATUS.STATE 1 (put SAFE_SEAL_STORED.SEAL code on)

/-- A seal store in progress. -/
def sealStore : State := { busy on with safe := { on.safe with sealing := [(5, ⟨[], 0⟩, 0)] } }

theorem witness_Seals : Open sealable ∧ qd.handle ≠ 0
    ∧ (sealable.rd SAFE_SEAL_STATUS.PW_SET = 1 ∧ (sealable.sealState = 0 ∨ sealable.sealState = 2) ∧ sealable.rd PIPE_FILL_STATUS.BEAM_VALID = 1)
    ∧ ¬ (on.rd SAFE_SEAL_STATUS.PW_SET = 1 ∧ (on.sealState = 0 ∨ on.sealState = 2) ∧ on.rd PIPE_FILL_STATUS.BEAM_VALID = 1) ∧ Acts sealStore
    ∧ sealStore.safe.sealing = (5, ⟨[], 0⟩, 0) :: [] ∧ sealStore.safe.log.length < 16 ∧ sealStore.cellar.sealSlots.length = 2 ∧ (sealed 0).sealState = 1
    ∧ on.sealState ≠ 1 := by
  repeat' apply And.intro
  all_goals decide +kernel

/-- The live seal takes in no seal register, so every stored seal leaves it as it is. -/
theorem sealed_block_lemma (c : Nat) : (sealed c).sealBlock = on.sealBlock := by
  have h : ∀ a ∈ sealRegs, (sealed c).reg a = on.reg a := fun a ha => by
    have h1 : a ≠ SAFE_SEAL_STATUS.STATE.addr := by revert a; decide
    have h2 : a ≠ SAFE_SEAL_STORED.SEAL.addr := by revert a; decide
    exact (State.reg_wr_ne _ _ _ _ h1).trans (State.reg_wr_ne _ _ _ _ h2)
  simp only [State.sealBlock, State.regBits]
  congr 2
  exact List.map_congr_left fun a ha => by rw [h a ha]

theorem sealed_stored_lemma (c : Nat) : (sealed c).rd SAFE_SEAL_STORED.SEAL = c % 2 ^ 32 :=
  (State.rd_wr_apart _ SAFE_SEAL_STATUS.STATE SAFE_SEAL_STORED.SEAL 1 (by decide) (by decide)).trans (State.rd_wr _ SAFE_SEAL_STORED.SEAL c (by decide))

theorem witness_Seals_check : (∃ c, (sealOf (sealed c).sealBlock).toNat = (sealed c).rd SAFE_SEAL_STORED.SEAL)
    ∧ ∃ c, (sealOf (sealed c).sealBlock).toNat ≠ (sealed c).rd SAFE_SEAL_STORED.SEAL := by
  have h := (sealOf on.sealBlock).isLt
  refine ⟨⟨(sealOf on.sealBlock).toNat, ?_⟩, ⟨(sealOf on.sealBlock).toNat + 1, ?_⟩⟩ <;> rw [sealed_block_lemma, sealed_stored_lemma] <;> omega

def anEntry : LogEnt := ⟨0, 0, 0x9000, 0, 1, 0, 1, 255, 0⟩

def logged : State := { on with safe := { on.safe with log := [anEntry] } }

theorem witness_ChangeLog : Acts logged ∧ on.logHeld = [] ∧ logged.safe.log = anEntry :: [] ∧ SMap.Wf erased logged.cellar.mem ∧ Open on ∧ Open logged ∧ (1 ≤ 63 ∧ 63 < 64) := by
  repeat' apply And.intro
  all_goals decide +kernel


/-- A password is stored; the device SEALED and, with PROVISIONAL, unlocked. -/
def passworded : State :=
  sealed 0 |> fun s => { s with cellar := { s.cellar with sealSlots := [some ⟨1, some ⟨[], 0⟩, some (sha256 [1, 2, 3, 4])⟩, none] } }

theorem witness_Passwords : Open on ∧ (4 ≤ 16 ∧ on.safe.log.length < 16 ∧ on.sealState = 0) ∧ Open passworded ∧ passworded.sealState = 1
    ∧ passworded.safe.lockout = none ∧ passworded.cellar.digest = some (sha256 [1, 2, 3, 4]) ∧ (sealed 0).cellar.digest ≠ some (sha256 [1, 2, 3, 4])
    ∧ (put SAFE_SEAL_STATUS.STATE 2 passworded).sealState = 2 ∧ (put SAFE_SEAL_STATUS.STATE 2 passworded).cellar.sealRec = some ⟨[], 0⟩
    ∧ (2 < 3 ∧ 3 < 4 ∧ 16 < 17 ∧ 1 ≠ 0) ∧ (4 ≤ (put SAFE_SEAL_STATUS.PW_FAILS 4 passworded).rd SAFE_SEAL_STATUS.PW_FAILS) :=
  ⟨on_open, by decide +kernel, ⟨by decide +kernel, by decide +kernel⟩, by decide +kernel, by decide +kernel, rfl, show (none : Option (List Byte)) ≠ some (sha256 [1, 2, 3, 4]) from nofun,
    by decide +kernel, by decide +kernel, by decide +kernel, by decide +kernel⟩

/-- Sixteen change-log entries wait; and a SET writes its record. -/
def logFull : State := { passworded with safe := { passworded.safe with log := List.replicate 16 ⟨0, 0, 0x9000, 0, 1, 0, 1, 255, 0⟩ } }

def digesting : State := { busy on with cellar := { on.cellar with digestWrite := [(5, [1], 0)] } }

theorem witness_Passwords_written : Open logFull ∧ 16 ≤ logFull.safe.log.length ∧ logFull.sealState = 1 ∧ logFull.safe.lockout = none
    ∧ Acts digesting ∧ digesting.cellar.digestWrite = (5, [1], 0) :: [] ∧ digesting.cellar.run = none ∧ digesting.cellar.sealSlots.length = 2
    ∧ digesting.safe.log.length < 16 ∧ digesting.power.shut = none :=
  ⟨⟨by decide +kernel, by decide +kernel⟩, by decide +kernel, by decide +kernel, by decide +kernel,
    ⟨⟨by decide +kernel, by decide +kernel⟩, by decide +kernel⟩, rfl, by decide +kernel⟩

/-- DK requests DARK while the device is in a safe state, so a release is blocked. -/
def blocked : State := put SAFE_CAUSE.LATCHED 1 { limp with safe := { limp.safe with dk := { limp.safe.dk with agreed := some true } } }

/-- DARK with a release waiting for the LED supply. -/
def releasing : State := { busy dark with safe := { dark.safe with release := [5] }, power := { dark.power with led := 1 } }

theorem witness_Releases : Open on ∧ on.safety = 0 ∧ blocked.safety ≠ 0 ∧ blocked.blocking ≠ 0 ∧ limp.safety = 1 ∧ limp.blocking = 0
    ∧ dark.safety = 2 ∧ dark.blocking = 0 ∧ Acts releasing ∧ releasing.safety = 2 ∧ releasing.safe.release = [5] ∧ releasing.power.led = 1
    ∧ releasing.phLow = false := by
  repeat' apply And.intro
  all_goals decide +kernel

/-- A release has taken effect in this core cycle: handle 5 has completed. -/
def released : State := { on with safe := { on.safe with released := some ⟨0, [5], 1, 2, (0, 0, 0), 0, 0, 0⟩ }, cmd := { on.cmd with handles := [ent 5 3] } }

theorem witness_Releases_lost : Acts released ∧ released.boot.stage = 11 ∧ (released.releaseNow.map fun r => (r.state, r.latched)) = some (1, 2)
    ∧ (released.handle 5).map (·.st) = some 3 :=
  ⟨⟨⟨by decide +kernel, by decide +kernel⟩, by decide +kernel⟩, by decide +kernel, by decide +kernel⟩

/-- An unlock of a block by the SPI, just made. -/
def unlocked (b : Nat) : State := { on with cmd := { on.cmd with unlock := some ⟨b, .spi, 0⟩ } }

theorem witness_TimeBaseRead : Open on ∧ Sound on := ⟨on_open, by unfold Sound; decide +kernel⟩

theorem witness_PortEffects : Open (unlocked 2) ∧ Admitted (unlocked 2) .spi 0x2044 0xFFFFFFFF ∧ on.unlocks .spi 0x2044 = false
    ∧ on.hidden .spi 0x2044 = false ∧ (1 : Word).toNat ≠ on.rd TICK_TB_SET_HI.TB ∧ 3 ∈ rcBits 0x2014 ∧ on.hidden .spi 0x2014 = false ∧ Sound on :=
  ⟨⟨by decide +kernel, by decide +kernel⟩, by unfold Admitted; decide +kernel, by decide +kernel, by decide +kernel, by decide +kernel, by decide +kernel,
    by decide +kernel, by unfold Sound; decide +kernel⟩

theorem witness_Keys : Open on ∧ ¬ (on.rd SYS_COMPAT.PRIVMODE = 1 ∧ isLink .spi = true) ∧ fget 0x0020A5C3 21 11 ≠ 0 ∧ fget 0x0004A5C2 0 16 ≠ 0xA5C3
    ∧ fget 0x001FA5C3 0 16 = 0xA5C3 ∧ fget 0x001FA5C3 21 11 = 0 ∧ (put SYS_COMPAT.PRIVMODE 1 on).rd SYS_COMPAT.PRIVMODE = 1 ∧ isLink .linkB = true
    ∧ kReg 0x4004 = false ∧ (let s := { unlocked 4 with now := 1000001 }; s.cmd.unlock = some ⟨4, .spi, 0⟩ ∧ 0 + 1000000 < s.now) := ⟨on_open, by decide +kernel⟩

theorem witness_RegisterWrites : Open on ∧ (regFields 0x8010).isSome = true ∧ actsAtOnce 0x8010 = false ∧ losesWrite 0x8010 [⟨8, 1, 1, false⟩] = true
    ∧ (regFields 0x3060).isSome = true ∧ actsAtOnce 0x3060 = false ∧ losesWrite 0x3060 [⟨16, 16, 1, false⟩] = true ∧ 0x3060 / 4096 = 3
    ∧ (regFields 0x4040).isSome = true ∧ actsAtOnce 0x4040 = false ∧ losesWrite 0x4040 [⟨0, 16, 1, false⟩] = true ∧ 0x4040 / 4096 = 4
    ∧ (regFields 0x14).isSome = true ∧ actsAtOnce 0x14 = false ∧ (on.rejection .spi 0x14 (on.unlocks .spi 0x14) 0xFFFFFFFF).isSome = true
    ∧ on.rejection .spi 0x2000 (on.unlocks .spi 0x2000) 0 = none ∧ losesWrite 0x2000 [] = false ∧ on.sealState ≠ 2 := ⟨on_open, by decide +kernel⟩

theorem witness_HostTag : Open on ∧ on.cmd.tagWritten = false ∧ (let s := { on with cmd := { on.cmd with tagWritten := true } }; s.cmd.tagWritten = true)
    ∧ (7 : Word).toNat ≠ on.rd SYS_HOST_TAG.TAG ∧ (0 : Word).toNat = on.rd SYS_HOST_TAG.TAG ∧ on.resets (.powerOn true) = true := ⟨on_open, by decide +kernel⟩

theorem witness_CutRegisters : Open spiCut ∧ spiCut.array.cuts.length = 16 ∧ Source.linkB ≠ .spi ∧ ((spiCut.cutTie 15).isSome = true ∧ spiCut.cutTie 0 = none)
    ∧ fget 0x7FFFFFFF 31 1 = 0 ∧ spiCut.safety = 0 ∧ fget 0x80000000 31 1 = 1 ∧ Open limp ∧ limp.safety = 1 ∧ dark.safety = 2
    ∧ limp.rd (ARRAY_CUT_COLS.EN 15) = 0 ∧ limp.cutTie 15 = none := by
  repeat' apply And.intro
  all_goals decide +kernel

/-- Layer 0 is in force, in a composition whose upper half is finished. -/
def composing : State :=
  { casked with layer := { casked.layer with comp := some ⟨casked.layer.active, List.replicate 8 .hidden, [], 0, 0, [], [], .finished, .composing, []⟩ } }

theorem witness_DirectWrites : Open composing ∧ fget 2 0 1 = 0 ∧ (composing.actCfg 0).en = true ∧ composing.layer.active.length = 8
    ∧ Admitted (unlocked 4) .spi 0x4000 0 ∧ Open (unlocked 4) ∧ on.pipe.govS = none
    ∧ (let s := { on with pipe := { on.pipe with govS := some 32768 } }; s.pipe.govS = some 32768 ∧ s.rd ⟨0x4014, 0, 3⟩ = 0)
    ∧ (storing false).enLocked = true ∧ on.enLocked = false ∧ Open (unlocked 10) ∧ Admitted (unlocked 10) .spi 0xA00C 0x06543210
    ∧ inmapOk 0x06543210 = true ∧ Admitted (unlocked 10) .spi 0xA00C 0 ∧ inmapOk 0 = false := by
  repeat' apply And.intro
  all_goals first | decide +kernel | (unfold Admitted; decide +kernel)

/-- A step of the operating point to OP 2 is in progress, requested as that point or automatically. -/
def stepping (want : Nat) (auto : Bool) : State := { on with power := { on.power with step := some (2, true), want := want, autoStep := auto } }

theorem witness_DirectWrites_point : Open on ∧ on.power.step = none ∧ fget 3 0 2 = 3 ∧ on.power.div < min (fget 2 0 2) on.opMax
    ∧ (let s := { on with power := { on.power with div := 1, volt := 1 } }; s.power.step = none ∧ min (fget 0 0 2) s.opMax < s.power.div)
    ∧ (stepping 2 false).power.step ≠ none ∧ Live (stepping 2 false) ∧ (stepping 2 false).power.want = 2 ∧ 2 ≤ (stepping 2 false).opMax
    ∧ (stepping 3 true).power.autoStep = true ∧ (stepping 3 false).power.want = 3 := by
  repeat' apply And.intro
  all_goals decide +kernel

/-- Lane 0 in DATA and all lanes enabled, with the DAELO key; lane 3 in OFF and disabled. -/
def lanesOn (mask : Nat) : State :=
  put LINK_CTRL.RL_EN 0 (put LINK_CTRL.LANE_EN mask (put (LINK_LANE_STATE.STATE 0) 4 (put (LINK_LANE_STATE.STATE 3) 0 (unlocked 8))))

theorem witness_LinkControl : Open (lanesOn 15) ∧ Admitted (lanesOn 15) .spi 0x8000 14 ∧ fget 14 0 4 + 2 ^ 0 = (lanesOn 15).rd LINK_CTRL.LANE_EN
    ∧ bitN ((lanesOn 15).rd LINK_CTRL.LANE_EN) 0 = true ∧ fget 14 4 1 = (lanesOn 15).rd LINK_CTRL.RL_EN ∧ (lanesOn 15).daelo.rl.running = false
    ∧ ((lanesOn 15).linkSt (0 / 2)).step = none ∧ ((lanesOn 15).linkSt (0 / 2)).waiting = none ∧ (lanesOn 15).lane 0 = 4 ∧ Open (lanesOn 7)
    ∧ Admitted (lanesOn 7) .spi 0x8000 15 ∧ (lanesOn 7).rd LINK_CTRL.LANE_EN + 2 ^ 3 = fget 15 0 4 ∧ bitN ((lanesOn 7).rd LINK_CTRL.LANE_EN) 3 = false
    ∧ (lanesOn 7).lane 3 = 0 ∧ Admitted (lanesOn 7) .spi 0x8000 0x17 ∧ fget 0x17 0 4 = (lanesOn 7).rd LINK_CTRL.LANE_EN ∧ fget 0x17 4 1 = 1
    ∧ Admitted (lanesOn 7) .spi 0x8000 7 ∧ fget 7 4 1 = 0 ∧ fget 0x100 8 1 = 1 := by
  repeat' apply And.intro
  all_goals first | decide +kernel | (unfold Admitted; decide +kernel)

/-- Lane 0 has lost lock in this core cycle, and its loss notice waits. -/
def justLost : State :=
  put (LINK_LANE_STATE.STATE 0) 1 { lanesOn 15 with daelo := { (lanesOn 15).daelo with
    lanes := (lanesOn 15).daelo.lanes.modify 0 fun l => { l with lost := some 0 }
    rl := { (lanesOn 15).daelo.rl with loss := [[1, 0, 1, 2, 0, 0, 0, 0]] } } }

theorem witness_LinkControl_lost : Open justLost ∧ Admitted justLost .spi 0x8000 14 ∧ fget 14 0 4 + 2 ^ 0 = justLost.rd LINK_CTRL.LANE_EN
    ∧ justLost.lane 0 = 1 ∧ (justLost.laneSt 0).lost = some justLost.cycle
    ∧ justLost.daelo.rl.loss = [] ++ [1, 0, 1, 2, 0, 0, 0, 0] :: [] ∧ [1, 0, 1, 2, 0, 0, 0, 0].take 2 = leBytes 1 1 ++ leBytes 1 0
    ∧ (lanesOn 15).cycle = 0 ∧ ((lanesOn 15).laneSt 0).lost ≠ some 0 :=
  ⟨⟨by decide +kernel, by decide +kernel⟩, by unfold Admitted; decide +kernel, by decide +kernel⟩

/-- The return lane runs, or is stopped with the receivers on. -/
def returning (run' : Bool) : State := { lanesOn 7 with daelo := { (lanesOn 7).daelo with rxOn := true, rl := { (lanesOn 7).daelo.rl with running := run' } } }

theorem witness_LinkControl_return : Open (returning true) ∧ Admitted (returning true) .spi 0x8000 7 ∧ (returning true).daelo.rl.running = true ∧ Open (returning false)
    ∧ Admitted (returning false) .spi 0x8000 0x17 ∧ (returning false).rd LINK_CTRL.RL_EN = 0 ∧ (returning false).daelo.rl.running = false
    ∧ (returning false).daelo.rxOn = true := by
  repeat' apply And.intro
  all_goals first | decide +kernel | (unfold Admitted; decide +kernel)


/-- Asleep, with what SLEEP keeps. -/
def asleep (st kept : Nat) (stage : Option Nat) : State :=
  put POWER_STATUS.STATE st { on with power := { on.power with asleep := some (kept, 0), wakeStage := stage } }

theorem witness_TickCount : on.resets .vaonLoss = true ∧ on.ticking = true ∧ (asleep 2 0 none).sleeping = true := by decide +kernel

/-- A frame to come whose composition is finished and whose settings were taken. -/
def framed : State := { on with layer := { on.layer with composed := true }, tick := { on.tick with taken := true, rateNext := some (120, 4) }, pipe := { on.pipe with next := some on.pipe.disp } }

theorem witness_TickBeginsFrame : framed.ticking = true ∧ framed.rd TICK_CTRL.SRC = 0 ∧ Sound framed ∧ framed.layer.composed = true ∧ framed.tick.overrun = false
    ∧ framed.safety = 0 ∧ framed.tick.taken = true ∧ framed.pipe.next = some on.pipe.disp ∧ on.tick.taken = false ∧ on.layer.composed = false
    ∧ (put TICK_RATE.FRAME_HZ 0 on).tick.taken = false
    ∧ rateLegal ((put TICK_RATE.FRAME_HZ 0 on).rd TICK_RATE.FRAME_HZ) (nsfOf ((put TICK_RATE.FRAME_HZ 0 on).rd TICK_RATE.SUBFRAMES)) = false := by
  refine ⟨by decide +kernel, by decide +kernel, ?_, by decide +kernel⟩
  unfold Sound; decide +kernel

/-- FSYNC is the source: the tracker in a state, in a stretch, with a fresh error or not. -/
def fsyncOn (st stretch : Nat) (fresh : Bool) : State :=
  put TICK_CTRL.SRC 1 { on with now := 10000000, tick := { on.tick with fs := { on.tick.fs with
    st := st, stretch := stretch, fresh := fresh, lastEdge := some 9000000, interval := 8333333 } } }

theorem witness_TickBeginsFrame_fsync : ∀ f ∈ [(0, 0, false), (1, 0, false), (1, 1, false), (1, 2, true), (1, 2, false), (2, 0, true), (2, 0, false), (3, 0, false)],
    (fsyncOn f.1 f.2.1 f.2.2).ticking = true ∧ (fsyncOn f.1 f.2.1 f.2.2).rd TICK_CTRL.SRC = 1 ∧ (fsyncOn f.1 f.2.1 f.2.2).since.upset = []
      ∧ (run .tick (fsyncOn f.1 f.2.1 f.2.2)).tick.hz ≠ 0 := by decide +kernel

/-- The group is the source: the role, the synchronisation and the error of the last edge. -/
def groupOn (role sync : Nat) (err : Option Int) : State :=
  put TICK_CTRL.SRC 2 (put GROUP_CFG.ROLE role (put GROUP_STATUS.SYNC sync { on with group := { on.group with err := err, interval := 8333333 } }))

theorem witness_TickBeginsFrame_group : ∀ g ∈ [(1, 0, none), (2, 1, some 5), (2, 2, some (-5)), (2, 3, some 3000000), (2, 3, none), (2, 0, none), (2, 4, none)],
    (groupOn g.1 g.2.1 g.2.2).ticking = true ∧ (groupOn g.1 g.2.1 g.2.2).rd TICK_CTRL.SRC = 2 ∧ (groupOn g.1 g.2.1 g.2.2).since.upset = []
      ∧ (groupOn g.1 g.2.1 g.2.2).roleAtTick = g.1 ∧ (groupOn g.1 g.2.1 g.2.2).group.err = g.2.2
      ∧ (groupOn g.1 g.2.1 g.2.2).rd GROUP_STATUS.SYNC = g.2.1 ∧ (groupOn g.1 g.2.1 g.2.2).cmd.tickCmds = []
      ∧ (groupOn g.1 g.2.1 g.2.2).leads = (g.1 == 1) := by decide +kernel

/-- A guard copy whose 1,463 segments hold the same cells, and its plane (R194). -/
def full (c : List Byte) : List (Nat × List Byte) := (List.range 1463).map fun i => (i, c)

def planeOf (c : List Byte) : List (List Byte) := (List.range 1463).map fun i => c.take (segCells i)

theorem find_full_lemma (c : List Byte) (n k : Nat) (h : k < n) : ((List.range n).map fun i => (i, c)).find? (·.1 == k) = some (k, c) := by
  induction n with
  | zero => omega
  | succ n ih =>
    rw [List.range_succ, List.map_append, List.find?_append]
    by_cases h' : k < n
    · rw [ih h']; rfl
    · obtain rfl : k = n := by omega
      rw [List.find?_eq_none.2 (by simp; omega)]
      simp

theorem any_full_lemma (c : List Byte) (n i : Nat) (h : i < n) : (((List.range n).map fun i => (i, c)).any fun e => e.1 == i) = true := by
  simpa using h

theorem full_lemma (c : List Byte) : copyPlane (full c) = some (planeOf c) := by
  unfold copyPlane full
  rw [if_pos (List.all_eq_true.2 fun i hi => any_full_lemma c 1463 i (List.mem_range.1 hi))]
  exact congrArg some (List.map_congr_left fun i hi => by rw [find_full_lemma c 1463 i (List.mem_range.1 hi)])

/-- A pass that waits for its guard, with both copies complete. -/
def copied (a b : List (Nat × List Byte)) : State :=
  { on with daelo := { on.daelo with links := [{ LinkSt.init with filling := a }, { LinkSt.init with filling := b }] } }

theorem on_safe_lemma : on.safety = 0 := by decide +kernel

def passing : State := { on with tick := { on.tick with passRunning := true }, pipe := { on.pipe with next := some on.pipe.disp } }

theorem witness_PredictionPasses : Acts on ∧ on.tick.passRunning = false ∧ on.powerState = 0 ∧ on.boot.stage = 11 ∧ on.tick.taken = false ∧ on.daelo.pastDeadline = false
    ∧ (let s := { on with daelo := { on.daelo with pastDeadline := true } }; s.daelo.pastDeadline = true) ∧ on.safety = 0 ∧ dark.safety ≠ 0
    ∧ framed.layer.composed = true ∧ on.layer.composed = false ∧ ({ on with pipe := { on.pipe with noFrame := false } } : State).pipe.noFrame = false
    ∧ Acts passing ∧ passing.pipe.next = some on.pipe.disp ∧ passing.tick.passRunning = true ∧ passing.power.tgtNow < 2 ^ 13 ∧ passing.power.tgtNext < 2 ^ 13 := by
  repeat' apply And.intro
  all_goals decide +kernel

def waiting (a b : List (Nat × List Byte)) : State := { copied a b with tick := { on.tick with passWait := true } }

theorem waiting_lemma (a b : List (Nat × List Byte)) : (waiting a b).tick.passWait = true ∧ (waiting a b).safety = 0 ∧ (waiting a b).daelo.links.length = 2
    ∧ ((waiting a b).linkSt 0).filling = a ∧ ((waiting a b).linkSt 1).filling = b := ⟨rfl, on_safe_lemma, rfl, rfl, rfl⟩

theorem witness_PredictionPasses_waits : (waiting (full [1]) (full [1])).tick.passWait = true ∧ (waiting (full [1]) (full [1])).safety = 0
    ∧ (waiting (full [1]) (full [1])).daelo.links.length = 2 ∧ copyPlane ((waiting (full [1]) (full [1])).linkSt 0).filling = some (planeOf [1])
    ∧ copyPlane ((waiting (full [1]) (full [1])).linkSt 1).filling = some (planeOf [1]) := by
  obtain ⟨h1, h2, h3, h4, h5⟩ := waiting_lemma (full [1]) (full [1])
  exact ⟨h1, h2, h3, by rw [h4, full_lemma], by rw [h5, full_lemma]⟩

theorem witness_Compositions : Acts on ∧ on.boot.stage = 11 ∧ on.powerState = 0 ∧ on.tick.overrun = false ∧ on.layer.composed = false ∧ on.layer.comp = none
    ∧ (casked.actCfg 0).en = true ∧ casked.cfgErr 0 = false ∧ (casked.actCfg 0).kind = 2 ∧ casked.beamValid (casked.actCfg 0).beam = true
    ∧ (casked.actCfg 7).en = false ∧ framed.layer.composed = true ∧ Acts composing ∧ composing.layer.comp ≠ none
    ∧ (composing.layer.comp.map fun c => (c.run 1, c.run 0)) = some (.composing, .finished) ∧ composing.cask.heldSyms = [] := by
  repeat' apply And.intro
  all_goals decide +kernel

/-- The last slot of a frame of 4 sub-frames, of bank 7, with its window open. -/
def slotted : State :=
  { on with tick := { on.tick with tickAt := some 0, slot := some 31, darkLen := 2, darkOff := 8333 }, array := { on.array with parked := [7], armed := [7] } }

theorem witness_SlotsAndWindows : Acts slotted
    ∧ (let s := { slotted with tick := { slotted.tick with slot := some 30 } };
        31 = (match s.tick.slot with | none => 0 | some i => i + 1) ∧ s.tick.tickAt ≠ none ∧ 31 < 8 * s.tick.nsf ∧ 31 < 64)
    ∧ slotted.slotOf 7 = true ∧ slotted.powerState = 0 ∧ slotted.slotOf 0 = false ∧ 7 ∈ slotted.array.parked ∧ 0 ∉ slotted.array.parked
    ∧ slotted.subframe ≠ 0 ∧ slotted.tick.darkLen ≠ 0 ∧ slotted.tick.darkOff * 1000 < slotted.tick.frameLen ∧ on.tick.darkLen = 0
    ∧ on.tick.dark = false ∧ ({ on with tick := { on.tick with dark := true } } : State).tick.dark = true :=
  ⟨⟨⟨by decide +kernel, by decide +kernel⟩, by decide +kernel⟩, by decide +kernel⟩

/-- A slot of bank 7 after a tick, with a candidate of row 639 or none, FAULT_CONFIRM `n`, and a kill policy. -/
def reading (n policy : Nat) (c : List Cand) : State :=
  put ARRAY_CTRL.FAULT_CONFIRM n (put ARRAY_ROWKILL_CFG.POLICY policy { slotted with array := { slotted.array with cands := c } })

def oneRead (short : Bool) : List Cand := [⟨⟨2047, 639, true⟩, short, 1⟩]

/-- So many rows are killed as the policy allows. -/
def atMax (policy : Nat) : State :=
  let s := reading 2 policy (oneRead true)
  { s with array := { s.array with killed := (List.range 16).map fun y => (y, true) } }

theorem witness_Rows : Acts slotted ∧ 639 ≤ 639 ∧ slotted.powerState = 0 ∧ slotted.slotOf (639 % 8) = true ∧ 639 % 8 ∈ slotted.array.armed
    ∧ SMap.Wf (fun _ => (0 : BitVec 11)) slotted.array.codes ∧ slotted.slotOf (0 % 8) = false
    ∧ slotted.openable 639 (2047, true) = false := ⟨⟨⟨by decide +kernel, by decide +kernel⟩, by decide +kernel⟩, by decide +kernel⟩

/-- An emitter reads SHORT a first time, and again up to FAULT_CONFIRM; the 513th candidate; and a listed fault. -/
theorem witness_Rows_short : (reading 2 0 []).array.cands.find? (fun c => c.em == ⟨2047, 639, true⟩ && c.short == true) = none
    ∧ 1 < (reading 2 0 []).confirmCount ∧ ((reading 2 0 []).array.cands.filter fun c => c.em.y != 639).length < 512
    ∧ (reading 2 0 (oneRead true)).array.cands.find? (fun c => c.em == ⟨2047, 639, true⟩ && c.short == true) = some ⟨⟨2047, 639, true⟩, true, 1⟩
    ∧ ¬ (1 + 1 < (reading 2 0 (oneRead true)).confirmCount) ∧ 1 + 1 < (reading 3 0 (oneRead true)).confirmCount
    ∧ (reading 2 1 (oneRead true)).isKilled 639 = false ∧ (reading 2 1 (oneRead true)).rd ARRAY_ROWKILL_CFG.POLICY ≠ 0
    ∧ (reading 2 1 (oneRead true)).array.killed.length < clampN 1 16 ((reading 2 1 (oneRead true)).rd ARRAY_ROWKILL_CFG.MAX)
    ∧ (reading 2 0 (oneRead true)).rd ARRAY_ROWKILL_CFG.POLICY = 0 ∧ (atMax 1).isKilled 639 = false ∧ (atMax 1).rd ARRAY_ROWKILL_CFG.POLICY = 1
    ∧ clampN 1 16 ((atMax 1).rd ARRAY_ROWKILL_CFG.MAX) ≤ (atMax 1).array.killed.length := by decide +kernel

theorem witness_Rows_dark : 2 ≤ (atMax 2).rd ARRAY_ROWKILL_CFG.POLICY ∧ clampN 1 16 ((atMax 2).rd ARRAY_ROWKILL_CFG.MAX) ≤ (atMax 2).array.killed.length
    ∧ (atMax 2).safety = 0 ∧ (atMax 2).safe.release = [] ∧ (atMax 2).releaseNow = none ∧ (atMax 2).isKilled 639 = false := by decide +kernel

/-- Row 639 is killed; and 16 other rows are. -/
def killed : State := { on with array := { on.array with killed := [(639, true)] } }

def killed16 : State := { on with array := { on.array with killed := (List.range 16).map fun y => (y, true) } }

theorem witness_Rows_kill : Open on ∧ on.isKilled 639 = false ∧ on.array.killed.length < 16 ∧ on.array.persist.length < 16 ∧ Open killed ∧ killed.isKilled 639 = true
    ∧ ((639, killed.cycle) ∉ killed.array.kills ∧ killed.releasedNow 639 = none) ∧ Open killed16 ∧ killed16.isKilled 639 = false ∧ 16 ≤ killed16.array.killed.length
    ∧ (let s := { killed with array := { killed.array with kills := [(639, 0)] } }; (639, s.cycle) ∈ s.array.kills)
    ∧ (({ on with array := { on.array with releases := [⟨639, 6, 0, true, [], none⟩] } } : State).releasedNow 639).isSome = true := by
  repeat' apply And.intro
  all_goals decide +kernel

/-- SRC = 1: the tracker in a state, the last edge a frame ago, the last tick `e` ns ago. -/
def tracking (st misses valid lockCnt e : Nat) : State :=
  let f : FsyncSt := { on.tick.fs with st := st, misses := misses, valid := valid, lockCnt := lockCnt, lastEdge := some (10000000 - 8333333) }
  { on with now := 10000000, tick := { on.tick with src := 1, tickAt := some (10000000 - e), fs := f } }

def fsErr (s : State) : Int := (s.now : Int) - s.nearTick

theorem witness_FsyncTracks : Live (tracking 2 0 0 0 0) ∧ (tracking 2 0 0 0 0).tick.src = 1 ∧ (tracking 2 0 0 0 0).fsValid = true
    ∧ ({ tracking 3 3 1 0 0 with now := 10500000 } : State).fsValid = false
    ∧ 1000000 < (fsErr (tracking 2 0 0 0 1000001)).natAbs ∧ (fsErr (tracking 2 0 0 0 1000000)).natAbs ≤ 1000000
    ∧ 20000 < (fsErr (tracking 2 0 0 0 20001)).natAbs ∧ (fsErr (tracking 2 0 0 3 5000)).natAbs ≤ 5000 ∧ 4 ≤ (tracking 2 0 0 3 5000).tick.fs.lockCnt + 1
    ∧ (1 ≤ (tracking 1 0 1 0 0).tick.fs.valid ∧ (tracking 1 0 1 0 0).tick.fs.stretch = 0)
    ∧ ((tracking 3 2 0 0 833332).tick.fs.misses < 3 ∧ (fsErr (tracking 3 2 0 0 833332)).natAbs * 10 ≤ (tracking 3 2 0 0 833332).tick.frameLen)
    ∧ ((tracking 3 3 1 0 0).tick.fs.misses = 3 ∧ 1 ≤ (tracking 3 3 1 0 0).tick.fs.valid) ∧ (tracking 3 2 0 0 0).tick.fs.misses = 2 :=
  ⟨⟨by decide +kernel, by decide +kernel⟩, by decide +kernel⟩

/-- SF runs, a limp beam is held, and the levels and the agreed state of a pair are as given. -/
def inputs (dk : Bool) (p : PairSt) : State :=
  put PIPE_FILL_STATUS.BEAM_VALID 1 { on with safe := { on.safe with running := true, sb := if dk then on.safe.sb else p, dk := if dk then p else on.safe.dk } }

/-- Idle (A high, B low), and a pair in disagreement since 0. -/
def idlePair : PairSt := ⟨true, false, some false, none, false, false, []⟩

def splitPair : PairSt := ⟨false, false, some false, some 0, false, false, []⟩

theorem witness_SafeInputs : on.safe.running = false ∧ (inputs true idlePair).safe.running = true ∧ ({ idlePair with a := false } : PairSt).a = idlePair.b
    ∧ (({ splitPair with a := true } : PairSt).a = true ∧ splitPair.b = false) ∧ (splitPair.a = false ∧ ({ splitPair with b := true } : PairSt).b = true)
    ∧ (∀ dk, (inputs dk splitPair).safety = 0 ∧ (inputs dk splitPair).safe.release = [] ∧ ((inputs dk splitPair).pair dk) = splitPair
      ∧ (inputs dk splitPair).on PIPE_FILL_STATUS.BEAM_VALID = true ∧ (inputs dk splitPair).safe.path = none ∧ (inputs dk splitPair).testing = false
      ∧ (inputs dk splitPair).releaseNow = none
      ∧ Live (inputs dk splitPair) ∧ ((inputs dk splitPair).pair dk).since ≠ none ∧ ((inputs dk splitPair).pair dk).faulted = false)
    ∧ splitPair.agreed ≠ some true ∧ idlePair.since = none
    ∧ (let s := { inputs true splitPair with now := 20000001 }; !splitPair.atStart && decide (s.discTime true < 2 * (s.now - 0))) = true
    ∧ (let s := { inputs true splitPair with safe := { (inputs true splitPair).safe with path := some (2000000, 0) } }; s.safe.path = some (2000000, 0)) := by
  refine ⟨by decide +kernel, by decide +kernel, by decide +kernel, by decide +kernel, by decide +kernel, ?_, by decide +kernel⟩
  unfold Live; decide +kernel

/-- SAFE_PATH runs, the last test of its plan, and a pair is as given. -/
def pathTest (dk : Bool) (p : PairSt) : State :=
  put BIST_STATUS.RUN 1 (put BIST_PROG.CURRENT 10 (put BIST_PROG.ACTIVE 1
    { inputs dk p with power := { on.power with shut := some ⟨5, true, 1, false, 0, 0, 1, none⟩ } }))

theorem witness_SafeInputs_tested : ∀ dk : Bool, (pathTest dk splitPair).testing = true ∧ (pathTest dk splitPair).testStep.underTest [10] = true
    ∧ (pathTest dk splitPair).testStep.safe.running = true ∧ (pathTest dk splitPair).testStep.safe.path = none
    ∧ (pathTest dk splitPair).testStep.pair dk = splitPair := by
  intro dk
  have h : (pathTest dk splitPair).testStep = (pathTest dk splitPair).fresh.2 := by
    simp only [State.testStep, show (pathTest dk splitPair).testing = true by cases dk <;> decide +kernel,
      show (pathTest dk splitPair).testsLeft = [] by cases dk <;> decide +kernel, List.length_nil, Nat.zero_add, Nat.mod_one]
    rfl
  rw [h]
  cases dk <;> decide +kernel

/-- A limp beam is held. -/
def lit : State := put PIPE_FILL_STATUS.BEAM_VALID 1 on

/-- A parity error of a covered register that is in the safety class, or not, waits to be found. -/
def upset (a : Nat) : State := { lit with since := { lit.since with upset := [a] } }

theorem witness_Watchdogs : Acts lit ∧ lit.safe.release = [] ∧ lit.releaseNow = none ∧ lit.safety = 0 ∧ lit.boot.stage = 11 ∧ lit.on PIPE_FILL_STATUS.BEAM_VALID = true
    ∧ (let s := { on with boot := { on.boot with limpJudged := true } }; s.on PIPE_FILL_STATUS.BEAM_VALID = false ∧ s.boot.limpJudged = true)
    ∧ (let s := { on with boot := { on.boot with stage := 6 } }; 6 ≤ s.boot.stage ∧ s.safety = 0) ∧ dark.safety = 2 ∧ dark.boot.stage = 11
    ∧ (let s := { on with boot := { on.boot with stage := 5 } }; s.boot.stage ≠ 11 ∧ s.boot.stage < 6) :=
  ⟨⟨⟨by decide +kernel, by decide +kernel⟩, by decide +kernel⟩, by decide +kernel⟩

theorem witness_Watchdogs_scrub : Acts (upset 0x2000) ∧ (0x2000 ∈ (upset 0x2000).since.upset ∧ 0x2000 ∉ (upset 0x2000).since.reported)
    ∧ (parityCovered 0x2000 = true ∧ safetyClass 0x2000 = false ∧ 0x2000 < 2 ^ 17) ∧ (parityCovered 0x9010 = true ∧ safetyClass 0x9010 = true ∧ 0x9010 < 2 ^ 17)
    ∧ (0x9010 ∈ (upset 0x9010).since.upset ∧ (upset 0x9010).safety = 0 ∧ (upset 0x9010).safe.release = [] ∧ (upset 0x9010).releaseNow = none ∧ (upset 0x9010).on PIPE_FILL_STATUS.BEAM_VALID = true)
    ∧ 0x2000 ≠ SYS_PARITY_CNT.COUNT.addr ∧ lit.rd SYS_STATUS.PARITY_ERR = 0 ∧ (put SYS_STATUS.PARITY_ERR 1 lit).rd SYS_STATUS.PARITY_ERR = 1
    ∧ 0x2000 ∉ lit.since.upset ∧ (let s := { upset 0x2000 with since := { lit.since with reported := [0x2000] } }; 0x2000 ∈ s.since.reported) :=
  ⟨⟨⟨by decide +kernel, by decide +kernel⟩, by decide +kernel⟩, by decide +kernel⟩

theorem copied_lemma (a b : List (Nat × List Byte)) : (copied a b).daelo.pastDeadline = false ∧ (copied a b).tick.passWait = false
    ∧ (copied a b).daelo.links.length = 2 ∧ ((copied a b).linkSt 0).filling = a ∧ ((copied a b).linkSt 1).filling = b ∧ (copied a b).regs = on.regs
    ∧ (copied a b).safe = on.safe := ⟨rfl, rfl, rfl, rfl, rfl, rfl, rfl⟩

/-- The limits of R222 at 3 discrepancy frames, 30 single frames and 2 held ones, with no copy complete. -/
def bounded : State := put SAFE_GUARD_LIM.DISC_FRAMES 3 (put SAFE_GUARD_LIM.SINGLE_MAX 30 (put SAFE_GUARD_CFG.HOLD 2 (copied [] [])))

/-- Two copies that agree, and two that differ; runs at their last permitted value and at the limit. -/
theorem witness_GuardAndLimpBeam_copies : Live bounded ∧ copyPlane (full [1]) = some (planeOf [1]) ∧ copyPlane (full [200]) = some (planeOf [200])
    ∧ copyPlane [] = none ∧ planeDiff (bounded.rd SAFE_GUARD_LIM.TOL) (planeOf [1]) (planeOf [1]) = 0
    ∧ 0 < planeDiff (bounded.rd SAFE_GUARD_LIM.TOL) (planeOf [1]) (planeOf [200])
    ∧ (put SAFE_GUARD_STAT.DISC_RUN 2 bounded).rd SAFE_GUARD_STAT.DISC_RUN < (put SAFE_GUARD_STAT.DISC_RUN 2 bounded).discLimit
    ∧ (put SAFE_GUARD_STAT.SINGLE_RUN 29 bounded).rd SAFE_GUARD_STAT.SINGLE_RUN < (put SAFE_GUARD_STAT.SINGLE_RUN 29 bounded).singleLimit
    ∧ (put SAFE_GUARD_STAT.HOLD_RUN 1 bounded).rd SAFE_GUARD_STAT.HOLD_RUN < (put SAFE_GUARD_STAT.HOLD_RUN 1 bounded).holdLimit
    ∧ bounded.on SAFE_STATUS.GUARD_ACTIVE = false ∧ (put SAFE_STATUS.GUARD_ACTIVE 1 bounded).on SAFE_STATUS.GUARD_ACTIVE = true
    ∧ (let s := put PIPE_FILL_STATUS.BEAM_VALID 1 (put SAFE_GUARD_STAT.DISC_RUN 3 bounded);
        s.discLimit ≤ s.rd SAFE_GUARD_STAT.DISC_RUN ∧ s.safety = 0 ∧ s.safe.release = [] ∧ s.releaseNow = none
          ∧ s.on PIPE_FILL_STATUS.BEAM_VALID = true)
    ∧ (put SAFE_GUARD_STAT.SINGLE_RUN 30 bounded).singleLimit ≤ (put SAFE_GUARD_STAT.SINGLE_RUN 30 bounded).rd SAFE_GUARD_STAT.SINGLE_RUN
    ∧ (put SAFE_GUARD_STAT.HOLD_RUN 2 bounded).holdLimit ≤ (put SAFE_GUARD_STAT.HOLD_RUN 2 bounded).rd SAFE_GUARD_STAT.HOLD_RUN :=
  ⟨⟨by decide +kernel, by decide +kernel⟩, full_lemma _, full_lemma _, by decide +kernel, by decide +kernel, by decide +kernel, by decide +kernel⟩

/-- A record read during its copy-back, under settings in which the fill lights nothing. -/
def recorded : State :=
  { lit with safe := { on.safe with limpLoading := true }, cellar := { on.cellar with run := some ⟨5, .store 3 0 (List.replicate 327680 0) none, 0, 1280, 0, 0, true⟩ },
             pipe := { on.pipe with disp := { on.pipe.disp with nW := 1024 } } }

def aRecord : List Byte := recorded.cellarBytes (regionBase 3) 327680

/-- The same with the record's CRC-32C in SAFE_LIMP_CRC. -/
def accepted : State := put SAFE_LIMP_CRC.CRC (crc32c aRecord) recorded

theorem crc32_bit_lemma (p c : Nat) (hp : p < 2 ^ 32) (h : c < 2 ^ 32) : crc32Bit p c < 2 ^ 32 := by
  unfold crc32Bit
  split
  · exact Nat.xor_lt_two_pow (by omega) hp
  · omega

theorem crc32_byte_lemma (c : Nat) (b : Byte) (h : c < 2 ^ 32) : crc32Byte (crcPoly 1) c b < 2 ^ 32 := by
  have hp : crcPoly 1 < 2 ^ 32 := by decide
  have hb : Nat.xor c b.toNat < 2 ^ 32 := Nat.xor_lt_two_pow h (by have := b.isLt; omega)
  unfold crc32Byte
  exact crc32_bit_lemma _ _ hp (crc32_bit_lemma _ _ hp (crc32_bit_lemma _ _ hp (crc32_bit_lemma _ _ hp (crc32_bit_lemma _ _ hp
    (crc32_bit_lemma _ _ hp (crc32_bit_lemma _ _ hp (crc32_bit_lemma _ _ hp hb)))))))

theorem crc32_fold_lemma (bs : List Byte) (c : Nat) (h : c < 2 ^ 32) : bs.foldl (crcByte 1) c < 2 ^ 32 := by
  induction bs generalizing c with
  | nil => exact h
  | cons b bs ih => exact ih _ (crc32_byte_lemma c b h)

theorem crc32c_lemma (bs : List Byte) : crc32c bs < 2 ^ 32 :=
  Nat.xor_lt_two_pow (crc32_fold_lemma bs _ (by decide)) (by decide)

theorem pages_lemma : ((pagesOf (regionBase 3) 327680).any fun p => (recorded.pageWrites p == 0 && !recorded.copyCovers p) || recorded.pageBad p) = false := by
  have hb : regionBase 3 = 0x480000 := by decide
  have hr : (CellarJob.store 3 0 (List.replicate 327680 0) none).range = (0x480000, 327680) := by
    simp only [CellarJob.range, List.length_replicate, hb, if_neg (by decide : ¬ 3 = 5)]
  refine List.any_eq_false.2 fun p hp => ?_
  have h : 0x4800 ≤ p ∧ p < 0x4D00 := by
    simp only [pagesOf, hb, if_neg (by decide : ¬ 327680 = 0), List.mem_map, List.mem_range] at hp
    omega
  have hi : (CellarJob.store 3 0 (List.replicate 327680 0) none).index p = some (p - 0x4800) := by
    simp only [CellarJob.index, hr]
    exact if_pos h
  have hs : (recorded.servedBy p).isSome = true := by
    show (match (CellarJob.store 3 0 (List.replicate 327680 0) none).index p with
      | none => none
      | some i => if true = true ∧ i < 0 then none else some (0x7800 + (0 + i) % 2048)).isSome = true
    rw [hi]
    exact congrArg Option.isSome (if_neg (by omega))
  have hg : recorded.pageBad p = false := by
    simp only [State.pageBad, State.readErrs, show ∀ q, recorded.pageWrites q = 0 from fun _ => rfl, if_pos]
    rfl
  simp [State.copyCovers, hs, hg]

theorem read_lemma (s : State) (h : s.cellar = recorded.cellar) : s.limpRead.1 = some aRecord := by
  have hw : s.pageWrites = recorded.pageWrites := funext fun p => by simp only [State.pageWrites, h]
  have hs : s.servedBy = recorded.servedBy := funext fun p => by simp only [State.servedBy, h]
  have hc : s.copyCovers = recorded.copyCovers := funext fun p => by simp only [State.copyCovers, hs]
  have hb : s.pageBad = recorded.pageBad := funext fun p => by
    unfold State.pageBad State.readErrs State.pageErrs State.readPage; rw [hw, hs, h]
  have hr : s.cellarByte = recorded.cellarByte := funext fun a => by simp only [State.cellarByte, State.recordAt, hw, hc, h]
  simp only [State.limpRead, hw, hc, hb, pages_lemma, State.cellarBytes, hr, aRecord]
  rfl

theorem level_lemma (ramp : List Nat) (split v : Nat) : (fillLevel ramp 1024 split v).2 = 0 := by
  have h : (fillLevel ramp 1024 split v).2 = inv ramp 1024 0 := by simp [fillLevel, stage5, litSteps, onSteps, rdiv]
  have h2 : inv ramp 1024 0 = ((List.range 1024).find? fun _ => true).getD 1023 := by simp [inv]
  rw [h, h2]; decide +kernel

theorem entry_lemma (isel : Bool) (i : Nat) : wEntry isel 0 i = 0 := by simp [wEntry]

theorem zeros_lemma {α : Type} (l : List α) (f : α → Nat) (h : ∀ x ∈ l, f x = 0) : (l.map f).sum = 0 := by
  induction l with
  | nil => rfl
  | cons a l ih => rw [List.map_cons, List.sum_cons, h a (by simp), ih fun x hx => h x (by simp [hx])]

theorem table_lemma (r : List Byte) (d : DispSet) (h : d.nW = 1024) : ∀ l ∈ limpTables r d, ∀ x ∈ l, x = 0 := by
  intro l hl x hx
  obtain ⟨j, -, rfl⟩ := List.mem_map.1 hl
  obtain ⟨i, -, rfl⟩ := List.mem_map.1 hx
  refine zeros_lemma _ _ fun r' _ => zeros_lemma _ _ fun u _ => ?_
  simp only [h, level_lemma, entry_lemma, Nat.mul_zero]

theorem getD_lemma {α : Type} (l : List α) (i : Nat) (d : α) : l.getD i d ∈ l ∨ l.getD i d = d := by
  rw [List.getD_eq_getElem?_getD]
  cases h : l[i]? with
  | none => exact .inr rfl
  | some x => exact .inl (List.mem_of_getElem? h)

theorem sum_lemma (r : List Byte) (d : DispSet) (h : d.nW = 1024) (b c bin : Nat) : (Terms.mk (limpTables r d) [] [] 0).wSum b c bin = 0 := by
  refine zeros_lemma _ _ fun s _ => ?_
  obtain hl | hl := getD_lemma (limpTables r d) (16 * s + 2 * b + c) []
  · obtain hx | hx := getD_lemma ((limpTables r d).getD (16 * s + 2 * b + c) []) bin 0
    · exact table_lemma r d h _ hl _ hx
    · exact hx
  · exact (congrArg (List.getD · bin 0) hl).trans rfl

theorem total_lemma (s : State) (r : List Byte) (d : DispSet) (h : d.nW = 1024) (k : Nat) :
    ((List.range 8).map fun b => ((List.range 2).map fun c => s.limpRef c k 4096 * (Terms.mk (limpTables r d) [] [] 0).wSum b c 0).sum).sum = 0 :=
  zeros_lemma _ _ fun b _ => zeros_lemma _ _ fun c _ => by rw [sum_lemma r d h, Nat.mul_zero]

theorem choose_lemma (ok : Nat → Bool) (h : ok 4096 = true) : chooseScale ok = (32768, true) := if_pos h

theorem within_lemma (s : State) (w : List (List Nat)) (k : Nat)
    (h : ((List.range 8).map fun b => ((List.range 2).map fun c => s.limpRef c k 4096 * (Terms.mk w [] [] 0).wSum b c 0).sum).sum = 0) :
    s.limpWithin w k = true := by
  unfold State.limpWithin
  rw [h]
  exact decide_eq_true (by omega)

theorem held_lemma (s : State) (w : List (List Nat)) (h : s.limpWithin w 4096 = true) : s.limpScale w = some 32768 := by
  unfold State.limpScale
  rw [choose_lemma _ h]
  rfl

theorem scale_lemma (s : State) (r : List Byte) (d : DispSet) (h : d.nW = 1024) : s.limpScale (limpTables r d) = some 32768 :=
  held_lemma s _ (within_lemma s _ _ (total_lemma s r d h 4096))

/-- The record, with a CRC-32C in SAFE_LIMP_CRC. -/
theorem accepted_lemma (x : Nat) : let s := put SAFE_LIMP_CRC.CRC x recorded
    Live s ∧ s.safe.limpLoading = true ∧ s.limpRead.1 = some aRecord ∧ s.rd SAFE_LIMP_CRC.CRC = x % 2 ^ 32 ∧ s.pipe.disp.nW = 1024 := by
  exact ⟨⟨rfl, rfl⟩, rfl, read_lemma _ rfl, State.rd_wr _ _ _ (by decide), rfl⟩

theorem witness_GuardAndLimpBeam_record : Live accepted ∧ accepted.safe.limpLoading = true ∧ accepted.limpRead.1 = some aRecord
    ∧ crc32c aRecord = accepted.rd SAFE_LIMP_CRC.CRC ∧ (accepted.limpScale (limpTables aRecord accepted.pipe.disp)).isSome = true := by
  obtain ⟨h1, h2, h3, h4, h5⟩ := accepted_lemma (crc32c aRecord)
  refine ⟨h1, h2, h3, ?_, ?_⟩
  · rw [accepted, h4, Nat.mod_eq_of_lt (crc32c_lemma aRecord)]
  · exact congrArg Option.isSome (scale_lemma accepted aRecord _ h5)

theorem witness_GuardAndLimpBeam_refused :
    (let s := { lit with safe := { lit.safe with limpLoading := true } }; s.limpRead.1 = none ∧ s.on PIPE_FILL_STATUS.BEAM_VALID = true)
    ∧ lit.safe.limp = none := by decide +kernel

/-- The held beam's tables were made under other settings. -/
def retabled : State := { recorded with safe := { recorded.safe with limp := some aRecord, limpBasis := ⟨[], 3, 1024⟩ } }

theorem witness_GuardAndLimpBeam_tables : Live retabled ∧ retabled.safe.limp = some aRecord
    ∧ retabled.safe.limpBasis ≠ ⟨retabled.pipe.disp.ramp, retabled.pipe.disp.nW, retabled.pipe.disp.split⟩
    ∧ retabled.limpScale (limpTables aRecord retabled.pipe.disp) = some 32768 :=
  ⟨⟨rfl, rfl⟩, rfl, fun h => absurd (congrArg LimpBasis.nW h) (by decide +kernel), scale_lemma _ _ _ rfl⟩

/-- The receivers on, lane `n` in state `st`, its link in stripe mode `mode` with block SEQ 7 expected. -/
def received (n st mode : Nat) (l : LaneSt) : State :=
  put (LINK_LANE_STATE.STATE n) st { on with daelo := { on.daelo with
    rxOn := true, lanes := on.daelo.lanes.set n l, links := on.daelo.links.set (n / 2) { LinkSt.init with mode := mode, expect := 7 } } }

theorem inSeq_lemma : InSeq (received 3 4 2 LaneSt.init) 3 263 where
  acts := ⟨⟨by decide +kernel, by decide +kernel⟩, by decide +kernel⟩
  rx := by decide +kernel
  inbox := by decide +kernel
  lanes := by decide +kernel
  lane := by decide +kernel
  data := by decide +kernel
  exits := by decide +kernel
  mode := by decide +kernel
  order := .inr (by decide +kernel)
  idle := fun m => by
    by_cases h : m < 4
    · exact (by decide +kernel : ∀ m, m < 4 → ((received 3 4 2 LaneSt.init).laneSt m).eiWait = none) m h
    · have hl : (received 3 4 2 LaneSt.init).daelo.lanes.length ≤ m := Nat.le_of_not_lt (h ·)
      rw [State.laneSt, List.getD_eq_getElem?_getD, List.getElem?_eq_none hl]
      rfl

/-- The last segment of a guard copy, with a tag. -/
def segment (tag : Nat) : List Byte := leBytes 1 tag ++ leBytes 2 1462 ++ List.replicate 57 9

/-- A stored layer of KIND 1 on link B, 640 lines of 8,192 bytes; and a block of its last line. -/
def videoCfg : LayerCfg := ⟨[0x23, 0, 0, 0, 0, 0x02800800, 0, 0, 0, 0x2000, 0], List.replicate 11 0⟩

/-- The same of KIND 0, with its T plane behind the Y plane. -/
def planarCfg : LayerCfg := ⟨[0x21, 0, 0, 0, 0, 0x02800800, 0, 0, 0x140000, 0x10000800, 0], List.replicate 11 0⟩

def video (first line off count : Nat) : List Byte := leBytes 1 first ++ leBytes 2 line ++ leBytes 2 off ++ leBytes 1 count ++ List.replicate 54 0xAB

theorem witness_BlocksInSequence : InSeq (received 3 4 2 LaneSt.init) 3 263 ∧ (u16 (pad60 (segment 1)) 1 < 1463 ∧ u8 (pad60 (segment 1)) 0 = 1)
    ∧ ((received 3 4 2 LaneSt.init).tickCount = 0 ∧ (received 3 4 2 LaneSt.init).daelo.pastDeadline = false) ∧ u8 (pad60 (segment 2)) 0 ≠ 1
    ∧ (let q := pad60 (video 0x80 639 8138 54);
        u8 q 0 / 8 % 4 = 0 ∧ u8 q 0 / 128 % 2 = 1 ∧ videoCfg.stored = true ∧ videoCfg.kind ≠ 0 ∧ videoFault videoCfg 0 1 0 (u16 q 1) (u16 q 3) (u8 q 5) = none
          ∧ layerStore + videoCfg.base 0 + u16 q 1 * videoCfg.yPitch + u16 q 3 + u8 q 5 ≤ layerStore + 0x600000)
    ∧ (let q := pad60 (video 0x48 319 0 54);
        u8 q 0 / 8 % 4 = 1 ∧ u8 q 0 / 64 % 2 = 1 ∧ u8 q 0 / 128 % 2 = 0 ∧ planarCfg.stored = true ∧ planarCfg.kind = 0
          ∧ videoFault planarCfg 0 1 1 (u16 q 1) (u16 q 3) (u8 q 5) = none
          ∧ layerStore + planarCfg.base 0 + (planarCfg.tOff + u16 q 1 * planarCfg.tPitch) + u16 q 3 + u8 q 5 ≤ layerStore + 0x600000)
    ∧ (put (bufFld 0 0) bufInUse (received 3 4 2 LaneSt.init)).buf 0 0 = bufInUse
    ∧ (received 3 4 2 LaneSt.init).buf 0 0 ≠ bufInUse ∧ (received 3 4 2 LaneSt.init).layer.bufs.length = 16
    ∧ videoFault videoCfg 0 1 0 640 0 54 = some (LAYER_STATUS.BAD_BLOCK 0) ∧ videoFault videoCfg 0 0 0 0 0 54 = some (LAYER_STATUS.WRONG_LINK 0) :=
  ⟨inSeq_lemma, by decide +kernel⟩

/-- A CUT list whose entry sets window 15 to rows 600 to 1,023, and a fragment that begins a packet of 57 bytes and more. -/
def cutList : List Byte := leBytes 3 0x8F0102 ++ leBytes 2 600 ++ leBytes 2 1023 ++ leBytes 2 0x7F00

theorem witness_BlocksInSequence_control : (let q := pad60 cutList
        u8 q 0 = 2 ∧ u8 q 1 = 1 ∧ u8 q 2 / 128 % 2 = 1 ∧ u8 q 2 % 16 = 15 ∧ cutEmpty (u16 q 3 % 1024) (u16 q 5 % 1024) (u8 q 7 % 128) (u8 q 8 % 128) = false)
    ∧ (received 3 4 2 LaneSt.init).safety = 0 ∧ (received 3 4 2 LaneSt.init).cutTie 15 = none
    ∧ (let q := pad60 [1, 1, 57]; u8 q 0 = 1 ∧ u8 q 1 = 1 ∧ 1 ≤ u8 q 2 ∧ u8 q 2 ≤ 57) ∧ ((received 3 4 2 LaneSt.init).linkSt (3 / 2)).asm = none
    ∧ (({ received 3 4 2 LaneSt.init with array := { on.array with cutSpi := [⟨15, 0, ⟨0, 0, ⟨⟨0, 0, 0, 0⟩, false⟩⟩, [.clear]⟩] } } : State).cutTie 15).isSome = true := by
  decide +kernel

/-- A packet in assembly of `n` bytes: a fragment continues it, ends it, or makes it too long; a COUNT of 58 and flags of 4. -/
def assembling (n : Nat) : State :=
  let s := received 3 4 2 LaneSt.init
  { s with daelo := { s.daelo with links := s.daelo.links.modify 1 fun l => { l with asm := some (List.replicate n 1) } } }

theorem witness_BlocksInSequence_fragments : ((assembling 2031).linkSt (3 / 2)).asm = some (List.replicate 2031 1)
    ∧ (List.replicate 2031 (1 : Byte) ++ ((pad60 [1, 0, 57]).drop 3).take 57).length ≤ 2088
    ∧ ((assembling 2032).linkSt (3 / 2)).asm = some (List.replicate 2032 1)
    ∧ 2088 < (List.replicate 2032 (1 : Byte) ++ ((pad60 [1, 2, 57]).drop 3).take 57).length
    ∧ ¬ (1 ≤ u8 (pad60 [1, 0, 58]) 2 ∧ u8 (pad60 [1, 0, 58]) 2 ≤ 57) ∧ 4 ≤ u8 (pad60 [1, 4, 57]) 1 ∧ (pad60 [1, 3, 57]).take 2 = [1, 3] := by decide +kernel

theorem witness_BlocksInSequence_assembly : InSeq (assembling 2031) 3 263 :=
  { inSeq_lemma with }

/-- The hypothesis on the state of a block out of sequence: in sequence but for its SEQ, 127 and 128 behind and beyond. -/
theorem witness_BlocksInSequence_order : InSeq { received 3 4 2 LaneSt.init with daelo := { (received 3 4 2 LaneSt.init).daelo with
        links := (received 3 4 2 LaneSt.init).daelo.links.modify 1 fun l => { l with adopt := true } } } 3 134
    ∧ ((received 3 4 2 LaneSt.init).linkSt 1).adopt = false ∧ ((received 3 4 2 LaneSt.init).linkSt 1).asm = none
    ∧ (134 % 256 + 256 - ((received 3 4 2 LaneSt.init).linkSt 1).expect) % 256 = 127 ∧ (135 % 256 + 256 - ((received 3 4 2 LaneSt.init).linkSt 1).expect) % 256 = 128 := by
  refine ⟨{ inSeq_lemma with order := .inl (by decide +kernel), mode := by decide +kernel, lanes := by decide +kernel }, by decide +kernel⟩

theorem witness_BlocksInSequence_pair : (let s := put LINK_STATUS.STATE_B 1 (received 3 4 0 LaneSt.init)
      Acts s ∧ s.daelo.rxOn = true ∧ s.daelo.inbox = [] ∧ 3 < 4 ∧ s.daelo.links.length = 2 ∧ s.lane 3 = laneData ∧ (s.laneSt 3).exits ≠ 1
        ∧ (s.linkSt 1).mode = 0 ∧ s.link 1 = linkUp ∧ (s.linkSt 1).waiting = none ∧ (s.linkSt 1).late = [] ∧ 7 % 2 = 3 % 2 ∧ 8 % 2 ≠ 3 % 2) :=
  ⟨⟨⟨by decide +kernel, by decide +kernel⟩, by decide +kernel⟩, by decide +kernel⟩

/-- A training whose request is answered or not, and that is done or not. -/
def trained (echoed done : Bool) : LaneSt :=
  { LaneSt.init with training := some ⟨9, 0, 0, 0, echoed, done, done, 4, 1, 1, 200, 0, 0, []⟩ }

/-- A PATTERN payload: subtype 1, request 8, taps, DONE_ACK. -/
def aPattern : List Byte := [1, 8, 1, 2, 3, 1]

theorem witness_LanesAndTraining : (let s := received 3 2 2 { LaneSt.init with hunt := 14 }
      Acts s ∧ s.daelo.rxOn = true ∧ s.daelo.inbox = [] ∧ 3 < 4 ∧ s.daelo.lanes.length = 4 ∧ s.daelo.links.length = 2 ∧ (s.linkSt (3 / 2)).waiting = none
        ∧ s.lane 3 = laneHunt ∧ (s.laneSt 3).hunt < 15 ∧ u8 aPattern 0 = 1)
    ∧ (received 3 1 2 LaneSt.init).lane 3 = laneSearch
    ∧ (let s := received 3 2 2 { LaneSt.init with hunt := 15, huntPat := true };
        15 ≤ (s.laneSt 3).hunt ∧ (s.laneSt 3).huntPat = true ∧ s.on (LINK_LANE_STATE.TRAINED 3) = false)
    ∧ (let s := received 3 3 2 (trained true true); s.lane 3 = laneTrain ∧ (s.laneSt 3).training = some ⟨9, 0, 0, 0, true, true, true, 4, 1, 1, 200, 0, 0, []⟩
        ∧ u8 (pad60 aPattern) 5 % 2 = 1)
    ∧ (let s := received 3 3 2 (trained false false); s.lane 3 = laneTrain ∧ (s.laneSt 3).training = some ⟨9, 0, 0, 0, false, false, false, 4, 1, 1, 200, 0, 0, []⟩
        ∧ u8 (pad60 aPattern) 1 ≠ 9 ∧ 0 < 1 ∧ 200 < 256 ∧ (s.linkSt 1).step = none)
    ∧ (returning true).daelo.rl.running = true := by
  repeat' apply And.intro
  all_goals decide +kernel

theorem witness_LanesAndTraining_losses : (received 3 4 2 LaneSt.init).lane 3 = laneData ∧ (slotView false []).defect = true
    ∧ ((received 3 4 2 LaneSt.init).laneSt 3).exits ≠ 1 ∧ ((received 3 4 2 LaneSt.init).laneSt 3).rd = false
    ∧ ((true :: [true, true, false]).take 16 |>.filter id).length < 4 ∧ 4 ≤ ((true :: [true, true, true]).take 16 |>.filter id).length
    ∧ (received 3 5 2 LaneSt.init).lane 3 = laneIdle ∧ u8 [6] 0 = 6
    ∧ (let s := put LINK_STATUS.STATE_B 1 (put (LINK_LANE_STATE.STATE 2) 4 (received 3 4 0 LaneSt.init));
        (s.linkSt 1).mode = 0 ∧ s.link 1 = linkUp ∧ s.lane 2 = laneData) := by decide +kernel

theorem witness_LanesAndTraining_blocks : InSeq (received 3 4 2 LaneSt.init) 3 263 ∧ 7 < u8 [8] 0 ∧ u8 [] 0 = 0 ∧ ((received 3 4 2 LaneSt.init).linkSt 1).waiting = none
    ∧ (received 3 4 2 LaneSt.init).rateReason 1 3 = some 0
    ∧ (let s := put (LINK_LANE_STATE.STATE 2) 4 (received 3 4 2 LaneSt.init); s.rateReason 1 1 = none ∧ s.restripeBad 1 0 = false)
    ∧ (let s := { received 3 4 2 LaneSt.init with daelo := { on.daelo with links := [LinkSt.init, { LinkSt.init with ack := some 1 }] } }; (s.linkSt 1).ack = some 1)
    ∧ ((received 3 4 2 LaneSt.init).linkSt 1).ack ≠ some 1 ∧ ((received 3 4 2 LaneSt.init).linkSt 1).step = none
    ∧ (received 3 4 2 LaneSt.init).restripeBad 1 2 = false ∧ (received 3 4 2 LaneSt.init).restripeBad 1 1 = true :=
  ⟨inSeq_lemma, by decide +kernel⟩

theorem witness_LanesAndTraining_steps : (let s := put (LINK_LANE_STATE.STATE 3) 3 (put (LINK_LANE_STATE.STATE 2) 2
        { on with daelo := { on.daelo with links := [LinkSt.init, { LinkSt.init with step := some (0, 1) }] } });
      Acts s ∧ s.daelo.inbox = [] ∧ s.daelo.lanes.length = 4 ∧ s.daelo.links.length = 2 ∧ (s.linkSt 1).step = some (0, 1) ∧ (s.linkSt 1).waiting = none
        ∧ s.lane 2 = laneHunt ∧ s.lane 3 = laneTrain)
    ∧ (let s := { on with daelo := { on.daelo with links := [LinkSt.init, { LinkSt.init with expect := 255, waiting := some ⟨3, 0x9C, 255, []⟩ }] } };
      Acts s ∧ (s.linkSt 1).mode = 0 ∧ 255 < 256 ∧ (s.linkSt 1).waiting = some ⟨2 * 1 + 255 % 2, 0x9C, 255, []⟩ ∧ (s.linkSt 1).adopt = false
        ∧ (s.linkSt 1).expect = 255) := by
  repeat' apply And.intro
  all_goals decide +kernel

theorem witness_ReturnBlocks : (let r (q : RlSt) : State := { on with daelo := { on.daelo with rl := q } }
      let q : RlSt := { on.daelo.rl with running := true, count := 1023 }
      (r q).inReset = false ∧ (r q).testing = false ∧ (r q).daelo.rl.running = true ∧ (r q).daelo.rl.count < 1024 ∧ (r q).sleeping = false ∧ (r q).daelo.rl.tick = none
        ∧ (r { q with tick := some [1] }).daelo.rl.tick = some [1] ∧ (r { q with loss := [[1], [2]] }).daelo.rl.loss = [1] :: [[2]]
        ∧ (r { q with train := [.bytes [1]] }).daelo.rl.train = .bytes [1] :: [] ∧ (r { q with train := [.tapReq] }).daelo.rl.train = .tapReq :: []
        ∧ (r { q with ctl := [.notice [1]] }).daelo.rl.ctl = .notice [1] :: [] ∧ (r { q with ctl := [.reply 1 [1] false] }).daelo.rl.ctl = .reply 1 [1] false :: []
        ∧ (r { q with ctl := [.reply 1 (List.replicate 58 1) true] }).daelo.rl.ctl = .reply 1 (List.replicate 58 1) true :: [])
    ∧ on.daelo.rl.running = false := by decide +kernel

/-- An entry handshake of handle 5, whose other block is READY. -/
def entering (target ready : Nat) : State :=
  let s := put PIPE_FILL_STATUS.BEAM_VALID 1 (busy on)
  { s with power := { s.power with hs := some ⟨5, target, 0, 0, 0, 0, (blocksOf target).filter (· != ready)⟩ } }

theorem witness_PowerStates : Live (entering 1 7) ∧ (entering 1 7).power.hs = some ⟨5, 1, 0, 0, 0, 0, [14]⟩ ∧ 7 ∈ blocksOf 1 ∧ 14 ∈ blocksOf 1
    ∧ (entering 1 7).refuses 5 7 = false ∧ (entering 1 7).delays 7 true = false ∧ (entering 1 7).layer.comp = none ∧ (entering 1 7).cask.heldSyms = []
    ∧ (put CAL_STATUS.PHASE 1 (entering 1 14)).refuses 5 14 = true ∧ 8 ∈ blocksOf 2 ∧ (entering 2 8).refuses 5 8 = false ∧ (entering 2 8).delays 8 true = true
    ∧ (entering 2 8).delays 8 false = false ∧ (entering 3 8).refuses 5 8 = false ∧ (entering 3 8).delays 8 false = false
    ∧ (entering 1 7).safety = 0 ∧ (entering 1 7).safe.release = [] ∧ (entering 1 7).testing = false ∧ (entering 1 7).releaseNow = none
    ∧ 18 ∈ blocksOf 2 ∧ (entering 2 18).refuses 5 18 = false ∧ (entering 2 18).delays 18 false = false ∧  (entering 1 7).boot.stage = 11 ∧ (entering 1 7).on PIPE_FILL_STATUS.BEAM_VALID = true :=
  ⟨⟨by decide +kernel, by decide +kernel⟩, by decide +kernel⟩

theorem witness_PowerStates_wakes : (asleep 2 0 none).power.asleep = some (0, 0) ∧ (asleep 2 0 none).power.wakeStage = none
    ∧ (let s := put POWER_WAKE.MASK 0x88 (put POWER_WAKE_MS.MS 1 (asleep 2 0 none)); bitN (s.rd POWER_WAKE.MASK) 7 = true ∧ bitN (s.rd POWER_WAKE.MASK) 3 = true
        ∧ s.rd POWER_WAKE_MS.MS ≠ 0 ∧ bitN (s.rd POWER_WAKE.MASK) 0 = false)
    ∧ (asleep 3 0 (some 1)).power.wakeStage = some 1 ∧ ((asleep 2 0 (some 2)).power.wakeStage = some 2 ∧ (asleep 2 0 (some 2)).powerState ≠ 3)
    ∧ (asleep 3 0 (some 2)).powerState = 3 ∧ ((asleep 2 0 (some 3)).power.wakeStage = some 3 ∧ bitN 0 27 = false)
    ∧ (bitN (2 ^ 27) 27 = true ∧ bitN ((put MEM_RET_MASK.BANKS (2 ^ 27) (asleep 2 (2 ^ 27) (some 3))).rd MEM_RET_MASK.BANKS) 27 = true)
    ∧ (asleep 2 (2 ^ 27) (some 4)).power.wakeStage = some 4 ∧ (asleep 2 (2 ^ 27) (some 4)).power.asleep = some (2 ^ 27, 0) := by decide +kernel

/-- The LED supply runs. -/
def supplied : State := { on with power := { on.power with led := 2 } }

/-- Bank 27 is held by requester 7, with another request waiting. -/
def granted (still waited : Nat) : State :=
  { on with arb := { on.arb with grants := [(27, ⟨7, 0, 7, some 1, still⟩)], xacts := [⟨6, 0, 27 * 1048576, false, 8, true, waited, false, 0⟩] } }

theorem witness_SuppliesAndClocks : Live supplied ∧ supplied.testing = false ∧ supplied.refRuns = true ∧ supplied.power.led ≠ 0 ∧ supplied.power.ov = false ∧ supplied.power.vbatStop = false
    ∧ supplied.power.vbatHigh = false ∧ supplied.safe.release = [] ∧ supplied.power.led = 2 ∧ supplied.power.shut = none ∧ supplied.cellar.run = none
    ∧ supplied.safe.sealing = [] ∧ supplied.cellar.digestWrite = []
    ∧ (granted 16 0).arb.grantOf 27 = some ⟨7, 0, 7, some 1, 16⟩ ∧ max 16 ((put MEM_CTRL.HOLD_TO 16 (granted 16 0)).rd MEM_CTRL.HOLD_TO) ≤ 16
    ∧ (∀ g, (granted 15 0).arb.grantOf 27 = some g → g.req ≠ 7 ∨ g.port ≠ 0 ∨ g.still < max 16 ((granted 15 0).rd MEM_CTRL.HOLD_TO))
    ∧ (let s := put MEM_CTRL.STARVE 1 (granted 16 257); ∃ x ∈ s.arb.xacts, x.req = 6 ∧ x.port = 0 ∧ x.bank = 27 ∧ x.starved = false
        ∧ 256 * max 1 (s.rd MEM_CTRL.STARVE) < x.waited)
    ∧ (let s := put MEM_CTRL.STARVE 1 (granted 16 256); ∀ x ∈ s.arb.xacts, x.starved = true ∨ x.waited ≤ 256 * max 1 (s.rd MEM_CTRL.STARVE)) := by
  have h : ∀ g, (granted 15 0).arb.grantOf 27 = some g → g.req ≠ 7 ∨ g.port ≠ 0 ∨ g.still < max 16 ((granted 15 0).rd MEM_CTRL.HOLD_TO) := by
    intro g h
    obtain rfl : (⟨7, 0, 7, some 1, 15⟩ : Grant) = g := Option.some.inj h
    exact .inr (.inr (by decide +kernel))
  repeat' apply And.intro
  all_goals first | exact h | decide +kernel

/-- VSYS falls to level 2 with no write, with a store before its commit and with one that copies back. -/
theorem witness_SuppliesAndClocks_vsys : supplied.safe.log = []
    ∧ ∀ c : Bool, (storing c).cellar.run = some ⟨5, .store 4 0 (List.replicate 256 7) none, 0, 1, 0, 0, c⟩
      ∧ (CellarRun.mk 5 (.store 4 0 (List.replicate 256 7) none) 0 1 0 0 c).committed = c ∧ (storing c).cellar.waiting = []
      ∧ (storing c).safe.sealing = [] ∧ (storing c).cellar.digestWrite = [] ∧ (storing c).safe.log = [] := by decide +kernel

/-- Two requests at a free bank, the first before the second. -/
theorem witness_SuppliesAndClocks_arbiter : (let a : ArbSt := { on.arb with xacts := [⟨5, 0, 27 * 1048576, false, 8, true, 0, false, 0⟩, ⟨7, 0, 27 * 1048576, false, 8, true, 0, false, 0⟩] }
      let x : Xact := ⟨7, 0, 27 * 1048576, false, 8, true, 0, false, 0⟩
      a.grantOf 27 = none ∧ x ∈ a.requests 27 ∧ ∀ y ∈ a.requests 27, y = x ∨ a.before on.arbCfg 27 x y = true)
    ∧ (let s := { on with mem := { on.mem with reload := [21, 25] } }; (∃ b ∈ s.mem.reload, b ≠ 25) ∧ 25 ∈ s.mem.reload) := by decide +kernel

/-- Row 639 of the last slot shows 65 emitters lit. -/
def bright : State :=
  { slotted with pipe := { slotted.pipe with disp := { slotted.pipe.disp with ramp := List.replicate 8 0, nW := 3 } },
                 array := { slotted.array with codes := (List.range 65).map fun x => (2 * (2048 * 639 + x), 1) } }

theorem witness_Headroom : Live bright ∧ bright.testing = false ∧ 639 ≤ 639 ∧ bright.slotOf (639 % 8) = true ∧ 639 % 8 ∈ bright.array.armed ∧ bright.powerState = 0
    ∧ 64 < (((List.range 65).map fun x => (x, false)).filter (bright.openable 639)).length ∧ bright.power.drop = 0
    ∧ min 500 (bright.rd POWER_VLED_TRIM.TRIM) < 500 ∧ min 500 ((put POWER_VLED_TRIM.TRIM 511 bright).rd POWER_VLED_TRIM.TRIM) = 500
    ∧ (let s := { bright with now := 10000000000 }; s.power.lastHeadroom + 10000000000 ≤ s.now) ∧ bright.now < bright.power.lastHeadroom + 10000000000 :=
  ⟨⟨by decide +kernel, by decide +kernel⟩, by decide +kernel⟩

/-- An array sensor at SHUT for the second time. -/
def warming : State := { on with therm := { on.therm with high := on.therm.high.set 15 1 } }

theorem witness_Temperatures : Live on ∧ on.testing = false ∧ on.therm.failed = [] ∧ on.therm.hold = none ∧ (let v : List Int := List.replicate 24 (-960); v.length = 24 ∧ ∀ x ∈ v, -960 ≤ x ∧ x ≤ 3200)
    ∧ (let v : List Int := List.replicate 24 400; (∀ i, i < 24 → on.therm.low.getD i 0 < 19)
        ∧ ∀ i, i < 24 → (on.judgeShut (v.map some) v).getD i 0 < 2)
    ∧ (let v : List Int := (List.replicate 24 400).set 15 2400; 1 ≤ warming.therm.high.getD 15 0 ∧ (warming.thresholds false).2.2 ≤ v.getD 15 0
        ∧ (∀ j, 16 ≤ j → j < 24 → (warming.judgeShut (v.map some) v).getD j 0 < 2) ∧ warming.safety = 0 ∧ warming.safe.release = [] ∧ warming.releaseNow = none ∧ warming.power.shut = none) := by
  refine ⟨on_live, by decide +kernel, by decide +kernel, by decide +kernel, by decide +kernel, by decide +kernel, ?_⟩
  refine ⟨by decide +kernel, by decide +kernel, fun j _ hj => ?_, by decide +kernel⟩
  exact (by decide +kernel : ∀ j, j < 24 → 16 ≤ j → (warming.judgeShut (((List.replicate 24 (400 : Int)).set 15 2400).map some) ((List.replicate 24 (400 : Int)).set 15 2400)).getD j 0 < 2) j hj ‹_›

theorem witness_Temperatures_ntc : (let s := put THERM_CTRL.NTC_EN 3 (put (THERM_NTC_CFG.BETA 1) 3950 on);
      on.therm.ntc.length = 2 ∧ on.therm.ntcFail.length = 2 ∧ bitN (s.rd THERM_CTRL.NTC_EN) 1 = true ∧ s.therm.ntcFail.getD 1 false = false
        ∧ s.rd (THERM_NTC_CFG.BETA 1) ≠ 0 ∧ s.therm.ntcWarn.getD 1 false = false)
    ∧ (49 < 50 ∧ 2000000 < 2000001 ∧ 50 ≤ 10000 ∧ 10000 ≤ 2000000) := by decide +kernel

/-- A follower of member 3 of 4, at 120 Hz, with an edge a frame ago. -/
def following (sync e : Nat) : State :=
  put GROUP_STATUS.SYNC sync (put GROUP_CFG.ROLE 2 (put GROUP_CFG.COUNT 4 (put GROUP_CFG.MEMBER 3 { on with
    now := 10000000, tick := { on.tick with src := 2, tickAt := some (10000000 - e) }, group := { on.group with lastEdge := some (10000000 - 8333333), interval := 8333333 } })))

theorem witness_GroupFollowing : Live (following 1 0) ∧ (following 1 0).role = 2 ∧ (following 1 0).group.conflict = false ∧ (following 1 0).rd GROUP_STATUS.SYNC ≠ 4
    ∧ (following 1 0).edgeValid = true ∧ (following 1 0).tick.src = 2 ∧ (phaseErr (following 1 20000).nearTick 10000000).natAbs ≤ 20000
    ∧ 20000 < (phaseErr (following 1 20100).nearTick 10000000).natAbs ∧ (phaseErr (following 1 1000000).nearTick 10000000).natAbs ≤ 1000000
    ∧ 1000000 < (phaseErr (following 1 1000100).nearTick 10000000).natAbs ∧ ({ following 1 0 with now := 11000000 } : State).edgeValid = false
    ∧ (let s := following 4 0; s.rd GROUP_STATUS.SYNC = 4 ∧ s.edgeValid = true ∧ s.group.valid = 0)
    ∧ (let s := { following 4 0 with now := 11000000 }; s.edgeValid = false ∧ s.rd GROUP_STATUS.SYNC = 4)
    ∧ (let s := { following 4 0 with group := { (following 4 0).group with valid := 1 } }; 1 ≤ s.group.valid) ∧ on.role ≠ 2
    ∧ (following 1 0).group.interval ≠ 0 ∧ (following 1 0).group.missedEdges < 2
    ∧ (let s := { following 1 0 with group := { (following 1 0).group with missedEdges := 2 } }; 2 ≤ s.group.missedEdges) ∧ on.group.interval = 0 :=
  ⟨⟨by decide +kernel, by decide +kernel⟩, by decide +kernel⟩

/-- A member in an exchange in which member 0 sent a word. -/
def exchanged (role : Nat) (w : BitVec 64) (g : GroupSt) : State :=
  put GROUP_STATUS.SYNC 1 (put GROUP_CFG.ROLE role (put GROUP_CFG.COUNT 4 (put GROUP_CFG.MEMBER 3
    (put (GROUP_WORD_LO.WORD 0) (w.toNat % 2 ^ 32) (put (GROUP_WORD_HI.WORD 0) (w.toNat / 2 ^ 32) (put PIPE_FILL_STATUS.BEAM_VALID 1 { on with group := { g with got := [true, false, false, true] } }))))))

theorem witness_GroupExchange : Live (exchanged 2 0 on.group) ∧ (exchanged 2 0 on.group).exchanging = true ∧ (exchanged 2 0 on.group).group.got.length = 4
    ∧ (exchanged 2 0 on.group).member < 4 ∧ 0 < (exchanged 2 0 on.group).members ∧ 0 ≠ (exchanged 2 0 on.group).member ∧ slotWord (List.replicate 82 true) = none
    ∧ (bitN (2 ^ 36) 37 = false ∧ bitN (2 ^ 37) 37 = true ∧ (exchanged 1 0 on.group).leads = true)
    ∧ ((exchanged 2 0 on.group).role = 2 ∧ bitN (2 ^ 37 + 2 ^ 38) 37 = true ∧ bitN (2 ^ 37 + 2 ^ 38) 38 = true) :=
  ⟨⟨by decide +kernel, by decide +kernel⟩, by decide +kernel⟩

/-- A dissent: the seal of member 0 has differed before; a member in LIMP that raises GROUP. -/
def dissenting (action : Nat) : State :=
  put GROUP_SAFE_CFG.DISSENT_ACTION action (exchanged 2 (2 ^ 37 + 1) { on.group with sealDiff := [1, 0, 0, 0], compatDiff := [0, 0, 0, 0] })

def pulling : State := put GROUP_SAFE_CFG.FOLLOW 1 (exchanged 2 (2 ^ 36 + 2 ^ 34) on.group)

theorem witness_GroupExchange_end : (let s := exchanged 2 (exchanged 2 0 on.group).stateWord { on.group with misses := [0, 2, 0, 0] };
      s.rd GROUP_SAFE_CFG.DISSENT_ACTION ≤ 2 ∧ s.members ≤ 4 ∧ s.on GROUP_SAFE_CFG.FOLLOW = false ∧ s.rd GROUP_SAFE_CFG.DISSENT_ACTION = 0
        ∧ (∃ m ∈ s.others, m < 4 ∧ s.group.got.getD m false = false ∧ s.group.depart.getD m false = false ∧ 2 ≤ s.group.misses.getD m 0))
    ∧ (let s := dissenting 1; s.rd GROUP_SAFE_CFG.DISSENT_ACTION = 1 ∧ 0 ∈ s.others ∧ s.heard 0 = true ∧ s.sealDiffers 0 = true ∧ 1 ≤ s.group.sealDiff.getD 0 0
        ∧ s.safety = 0 ∧ s.safe.release = [] ∧ s.releaseNow = none ∧ s.on PIPE_FILL_STATUS.BEAM_VALID = true ∧ s.exchanging = true)
    ∧ (let s := dissenting 2; s.rd GROUP_SAFE_CFG.DISSENT_ACTION = 2 ∧ s.role = 2 ∧ bitN (s.wordOf 0) 37 = true)
    ∧ (let s := pulling; s.on GROUP_SAFE_CFG.FOLLOW = true ∧ 0 ∈ s.others ∧ s.heard 0 = true ∧ bitN (s.wordOf 0) 36 = true ∧ bits (s.wordOf 0) 34 2 = 1
        ∧ s.safety = 0 ∧ s.members ≤ 4)
    ∧ (on.group.conflict = false ∧ ({ on.group with conflict := true } : GroupSt).conflict = true) := by decide +kernel

/-- A chain frame of 64 satellites is due, compensated by an NTC that is disabled. -/
def chained : State := put SAT_CTRL.TSRC 0 (put SAT_CFG.TCOMP 1 (put SAT_CFG.LEN 64 { on with sat := { on.sat with due := true, image := [(63, 5)] } }))

theorem witness_SatelliteFrames : Live chained ∧ chained.sat.due = true ∧ chained.rd SAT_CFG.LEN = 64 ∧ (chained.on SAT_CFG.TCOMP && !chained.satBlank && chained.tsrcBad) = true
    ∧ (put SAT_CTRL.LIMP_BLANK 1 (put SAFE_STATUS.STATE 1 chained)).satBlank = true ∧ chained.satBlank = false ∧ (put SAT_CFG.TCOMP 0 chained).on SAT_CFG.TCOMP = false
    ∧ on.sat.due = false ∧ on.on SAT_STATUS.SENDING = false ∧ (put SAT_STATUS.SENDING 1 on).on SAT_STATUS.SENDING = true := ⟨⟨by decide +kernel, by decide +kernel⟩, by decide +kernel⟩

theorem witness_EveryReset : on.resets (.railFault 2) = true ∧ on.resets (.resetPin true true) = true ∧ on.resets .clockLoss = true
    ∧ (let s := { on with boot := { on.boot with window := some (false, 0) } }; s.resets (.resetDeviceStart 0) = true)
    ∧ (let s := { on with boot := { on.boot with stage := 10 } }; s.resets .bootTimeout = true)
    ∧ (asleep 2 0 (some 1)).resets .wakeStageTimeout = true ∧ on.resets (.railFault 0) = true := by decide +kernel

theorem canonical_lemma : Canonical on where
  regs := by decide +kernel
  sram := by decide +kernel
  cellar := by decide +kernel
  wear := by decide +kernel
  errs := by decide +kernel
  codes := by decide +kernel
  image := by decide +kernel

/-- A reset window is open; no symbol is being loaded. -/
def windowed (cold : Bool) (d : Nat) : State := { on with mem := empty.mem, boot := { on.boot with window := some (cold, d) } }

theorem witness_Resets : Canonical on ∧ on.boot.causeAt.map (·.1) ≠ some on.cycle ∧ on.inReset = false ∧ on.sleeping = false ∧ State.reset.inReset = true
    ∧ (asleep 2 0 none).sleeping = true ∧ (windowed true 15).boot.window = some (true, 15) ∧ on.boot.window = none ∧ on.cellar.run = none
    ∧ (let s := { on with boot := { on.boot with stage := 3 } }; 3 ≤ s.boot.stage ∧ s.boot.stage ≤ 10 ∧ s.boot.held = false)
    ∧ 10 < on.boot.stage ∧ Canonical (windowed false 0) ∧ (windowed false 0).boot.window = some (false, 0) ∧ (windowed false 0).boot.causeAt.map (·.1) ≠ some (windowed false 0).cycle
    ∧ (windowed false 0).symLoading = false ∧ 22 ∈ warmBanks ∧ bitN (2 ^ 27) 22 = false ∧ bitN (2 ^ 27) 27 = true ∧ bitN 0 27 = false := by
  have h : Canonical (windowed false 0) := { canonical_lemma with sram := by decide +kernel }
  refine ⟨canonical_lemma, ?_⟩
  repeat' apply And.intro
  all_goals first | exact h | decide +kernel

/-- In the core cycle of a JTAG_RESET from boot stage 9, with a reset window open before; and a second loss of VAON. -/
def tied : State := run .jtagReset { on with boot := { on.boot with stage := 9, window := some (true, 3) } }

theorem witness_Resets_tie : tied.boot.causeAt = some (tied.cycle, 9, 0) ∧ tied.inReset = true ∧ tied.boot.before.clock = true
    ∧ 3 ≤ tied.boot.before.stage ∧ tied.boot.before.stage ≤ 10 ∧ tied.boot.window = none ∧ tied.boot.before.window = some (true, 3)
    ∧ (run .jtagReset on).power.step = none ∧ (stepping 2 false).power.step ≠ none
    ∧ ({ State.reset with boot := { State.reset.boot with vaonLost := true } } : State).inReset = true := by decide +kernel

/-- A boot in a stage, warm, with the image of the firmware kept. -/
def booting (stage : Nat) : State := { on with boot := { on.boot with stage := stage, cold := false, kept := [27], fw := some ⟨256, 0, 1, 0, 0, 0⟩ } }

theorem witness_Boot : (let s := { State.reset with boot := { State.reset.boot with cold := true, resetN := true, testEn := false, vaonLost := false } };
      s.boot.stage = 0 ∧ s.boot.cold = true ∧ s.boot.resetN = true ∧ s.boot.testEn = false ∧ s.boot.vaonLost = false)
    ∧ (let s := { State.reset with boot := { State.reset.boot with cold := true, resetN := true, testEn := false, vaonLost := true } }; s.boot.vaonLost = true)
    ∧ ((booting 1).boot.stage = 1 ∧ (booting 10).boot.stage = 10 ∧ (booting 6).boot.held = false ∧ (booting 6).boot.fails = [] ∧ (booting 6).fwKept = true)
    ∧ (let s := { on with boot := { on.boot with stage := 6, held := false } }; s.boot.stage = 6 ∧ s.fwKept = false ∧ ∀ j, j < 2 → s.imgGood j = false)
    ∧ ((booting 3).boot.stage = 3 ∧ (booting 3).boot.held = false) ∧ 10 < on.boot.stage := by decide +kernel

end Sys2Proof.Tests
end

section
/-!
PROOFS. The time base at the register port (R52).
-/
namespace Sys2Proof.Machine

/-- A register without a parity error that waits to be detected passes the check. -/
theorem checkParity_sound {s : State} (h : Sound s) (a : Nat) : s.checkParity a = s := by
  unfold State.checkParity
  by_cases hu : a ∈ s.since.upset
  · simp [h a hu]
  · simp [hu]

/-- A register without a K field is read as it stands, by every path. -/
theorem portRead_open {a : Nat} (h : kReg a = false) (s : State) (src : Source) :
    s.portRead src a = (s.view a, (s.readEffects a).checkParity a) := by
  unfold State.portRead State.hidden
  simp [h]

theorem view_tbShadow (s : State) : s.view 0x2034 = s.tick.tbShadow := by
  have hr : (regFields 0x2034).isNone = false := by decide
  have ho : s.openRead 0x2034 = false := rfl
  unfold State.view
  rw [hr, ho]
  rfl

theorem view_tstampShadow (s : State) : s.view 0x203C = s.tick.tstampShadow := by
  have hr : (regFields 0x203C).isNone = false := by decide
  have ho : s.openRead 0x203C = false := rfl
  unfold State.view
  rw [hr, ho]
  rfl

/-- The tick generator with the high word of the time base, or of the tick's stamp, copied into its shadow. -/
def TickSt.copied (k : TickSt) (stamp : Bool) : TickSt :=
  if stamp then { k with tstampShadow := BitVec.ofNat 32 (k.tstamp.toNat / 2 ^ 32) }
  else { k with tbShadow := BitVec.ofNat 32 (k.tb.toNat / 2 ^ 32) }

/-- TIME_BASE_READ_LO takes the shadow of the word that it names, and leaves everything else. -/
theorem doTimeBaseReadLo_eq {s : State} (h : Sound s) (src : Source) (stamp : Bool) :
    doTimeBaseReadLo src stamp s = { s with tick := s.tick.copied stamp } := by
  unfold doTimeBaseReadLo State.readAt
  cases stamp
  · rw [portRead_open (by decide)]
    exact checkParity_sound (s := { s with tick := s.tick.copied false }) h _
  · rw [portRead_open (by decide)]
    exact checkParity_sound (s := { s with tick := s.tick.copied true }) h _

theorem exec_timeBaseReadLo {s : State} (ho : Open s) (hs : Sound s) (src : Source) (stamp : Bool) :
    exec (.timeBaseReadLo src stamp) s = .next (after s { s with tick := s.tick.copied stamp }) := by
  rw [exec_access ho (f := doTimeBaseReadLo src stamp) rfl, doTimeBaseReadLo_eq hs]

end Sys2Proof.Machine

namespace Sys2Proof.Proofs
open Sys2Proof.Machine

/-- Settles O30: a read of a low word changes only its shadow, which is what the high word reads as. -/
theorem timeBaseRead : Obligations.TimeBaseRead := by
  unfold Obligations.TimeBaseRead
  intro src s ho hs
  have frame (k : TickSt) : Frame s (after s { s with tick := k }) [.tick] [] :=
    ((Frame.refl s [.tick] []).setTick k (by decide)).after s
  refine ⟨⟨_, exec_timeBaseReadLo ho hs src false, ?_, after_tick _ _, frame _⟩,
    ⟨_, exec_timeBaseReadLo ho hs src true, ?_, after_tick _ _, frame _⟩, ?_, ?_⟩
  · rw [view_tbShadow, after_tick]; rfl
  · rw [view_tstampShadow, after_tick]; rfl
  · rw [portRead_open (by decide), view_tbShadow]
  · rw [portRead_open (by decide), view_tstampShadow]

end Sys2Proof.Proofs
end

section
/-!
PROOFS. TICK_COUNT (R54): a tick counts it once, every other stage of the tick leaves it, and every reset clears it.
-/
namespace Sys2Proof.Machine

/-! ## Operations that leave TICK_COUNT -/

/-- States with the same registers have the same count. -/
theorem tickCount_congr {s t : State} (h : t.regs = s.regs) : t.tickCount = s.tickCount := State.rd_congr h _

theorem wr_tickCount (s : State) (f : Fld) (x : Nat) (h : f.addr ≠ 0x2020) : (s.wr f x).tickCount = s.tickCount := by
  simp only [State.tickCount, State.rd]
  rw [State.reg_wr_ne]
  exact fun e => h e.symm

theorem setIf_tickCount (s : State) (b : Bool) (f : Fld) (h : f.addr ≠ 0x2020) : (s.setIf b f).tickCount = s.tickCount := by
  unfold State.setIf
  split
  · exact wr_tickCount s f 1 h
  · rfl

theorem ite_tickCount (c : Prop) [Decidable c] (t u : State) :
    (if c then t else u).tickCount = if c then t.tickCount else u.tickCount := by
  split <;> rfl

/-- The address of a register of a row that begins above TICK_COUNT. -/
theorem row_ne {b m : Nat} (h : 0x2020 < b) : b + m ≠ 0x2020 := by omega

/-- Where no field of TICK_COUNT is among those that may change, the count stands. -/
theorem Frame.tickCount {s t : State} {ps : List Part} {fs : List Fld} (h : Frame s t ps fs) (hf : ∀ f ∈ fs, f.addr ≠ 0x2020) :
    t.tickCount = s.tickCount :=
  h.fields TICK_COUNT.COUNT fun f hm => by
    have := hf f hm
    simp [Fld.apart, TICK_COUNT.COUNT, this]

theorem foldl_tickCount {α : Type} (f : State → α → State) (hf : ∀ t a, (f t a).tickCount = t.tickCount) (l : List α) (s : State) :
    (l.foldl f s).tickCount = s.tickCount := by
  induction l generalizing s with
  | nil => rfl
  | cons a l ih => exact (ih _).trans (hf s a)

theorem finish_tickCount (s : State) (h st : Nat) (r : List Byte) : (s.finish h st r).tickCount = s.tickCount :=
  (finish_frame s h st r).tickCount (by decide)

theorem scanStep_tickCount (s : State) : s.scanStep.tickCount = s.tickCount :=
  ((Frame.refl s [.test] scanFlds).scanStep (by decide) fun _ h => h).tickCount (by decide)

/-- What stays within the parts and fields of an entry to a safe state leaves the count. -/
theorem safe_tickCount {s t : State} (h : ∀ ps fs, TakesSafe s ps fs → Frame s t ps fs) : t.tickCount = s.tickCount := by
  refine (h _ _ (TakesSafe.self s [])).tickCount ?_
  unfold State.scanShown
  cases s.test.scan.isSome <;> decide

theorem ledStart_tickCount (s : State) : s.ledStart.tickCount = s.tickCount := by
  unfold State.ledStart
  split <;> rfl

theorem ledOff_tickCount (s : State) : s.ledOff.tickCount = s.tickCount :=
  safe_tickCount fun _ _ k => (Frame.refl s _ _).ledOff (k.parts _ (by decide)) (k.fields _ (by decide))

theorem lightLimp_tickCount (s : State) : s.lightLimp.tickCount = s.tickCount :=
  safe_tickCount fun _ _ k => (Frame.refl s _ _).lightLimp k

/-! ## Causes that arise at the sweep of parity -/

theorem cutsOff_tickCount (s : State) : s.cutsOff.tickCount = s.tickCount :=
  safe_tickCount fun _ _ k => (Frame.refl s _ _).cutsOff k

theorem releaseBack_tickCount (s : State) (r : Released) : (s.releaseBack r).tickCount = s.tickCount := by
  have given (t : State) (x : SafeSt) (y : DaeloSt) : ({ t with safe := x, daelo := y } : State).tickCount = t.tickCount := rfl
  unfold State.releaseBack
  dsimp only
  rw [cutsOff_tickCount]
  split
  · rw [ledOff_tickCount, given]
    iterate 7 rw [wr_tickCount _ _ _ (by decide)]
  · rw [given]
    iterate 7 rw [wr_tickCount _ _ _ (by decide)]

theorem recomplete_tickCount (s : State) (h st : Nat) (r : List Byte) : (s.recomplete h st r).tickCount = s.tickCount := rfl

theorem releaseLoses_tickCount (s : State) (m : Nat) : (s.releaseLoses m).tickCount = s.tickCount := by
  unfold State.releaseLoses
  split
  · rfl
  · exact (foldl_tickCount _ (fun t h => recomplete_tickCount t h _ _) _ _).trans (releaseBack_tickCount s _)

theorem releaseRefused_tickCount (s : State) (b c : Nat) : (s.releaseRefused b c).tickCount = s.tickCount :=
  safe_tickCount fun _ _ k => (Frame.refl s _ _).releaseRefused b c k

theorem hsEnd_tickCount (s : State) (st m : Nat) : (s.hsEnd st m).tickCount = s.tickCount :=
  safe_tickCount fun _ _ k => (Frame.refl s _ _).hsEnd st m k

theorem react_tickCount (s : State) (m : Nat) : (s.react m).tickCount = s.tickCount :=
  safe_tickCount fun _ _ k => (Frame.refl s _ _).react m k

theorem raise_tickCount (s : State) (m : Nat) : (s.raise m).tickCount = s.tickCount := by
  have latch : ((s.releaseLoses m).wr SAFE_CAUSE.LATCHED (Nat.lor ((s.releaseLoses m).rd SAFE_CAUSE.LATCHED) m)).tickCount
      = s.tickCount := (wr_tickCount _ _ _ (by decide)).trans (releaseLoses_tickCount s m)
  unfold State.raise
  dsimp only
  rw [react_tickCount]
  simp only [ite_tickCount, ite_self, hsEnd_tickCount, releaseRefused_tickCount, latch]

theorem reportParity_tickCount (s : State) (a : Nat) : (s.reportParity a).tickCount = s.tickCount := by
  have counted : (({ s with since := { s.since with reported := a :: s.since.reported } } : State).inc SYS_PARITY_CNT.COUNT).tickCount
      = s.tickCount := wr_tickCount _ _ _ (by decide)
  have named (t : State) (x : Nat) (b : Bool) : ((t.wr SYS_PARITY_ADDR.ADDR x).wrB SYS_PARITY_ADDR.SAFETY b).tickCount
      = t.tickCount := (wr_tickCount _ _ _ (by decide)).trans (wr_tickCount _ _ _ (by decide))
  have set (t : State) : (t.sets SYS_STATUS.PARITY_ERR).tickCount = t.tickCount := wr_tickCount _ _ _ (by decide)
  unfold State.reportParity
  dsimp only
  simp only [ite_tickCount, ite_self, raise_tickCount, set, named, counted]

theorem sweepParity_tickCount (s : State) : s.sweepParity.tickCount = s.tickCount := by
  refine foldl_tickCount _ (fun t a => ?_) _ _
  unfold State.checkParity
  split
  · exact reportParity_tickCount t a
  · rfl

/-! ## The stages of a tick -/

/-- The search for S_LIMP stays unevaluated: it is abstracted before the definition meets its arguments. -/
theorem limpTabulate_tickCount (s : State) (r : List Byte) : (s.limpTabulate r).tickCount = s.tickCount := by
  obtain ⟨limpScale, hL⟩ : ∃ f, f = State.limpScale := ⟨_, rfl⟩
  suffices h : ∀ tabulate, tabulate = State.limpTabulate → (tabulate s r).tickCount = s.tickCount from h _ rfl
  delta State.limpTabulate
  rw [← hL]
  rintro _ rfl
  dsimp only
  rw [wr_tickCount _ _ _ (by decide)]
  cases limpScale s (limpTables r s.pipe.disp) <;> rfl

theorem limpInstall_tickCount (s : State) : s.limpInstall.tickCount = s.tickCount := by
  have judged (t : State) (b : BootSt) : ({ t with boot := b } : State).tickCount = t.tickCount := rfl
  have held (t : State) (q : SafeSt) : ({ t with safe := q } : State).tickCount = t.tickCount := rfl
  unfold State.limpInstall
  split
  · rfl
  · rw [lightLimp_tickCount, State.sets, wr_tickCount _ _ _ (by decide), judged, limpTabulate_tickCount, held]

theorem latchTemps_tickCount (s : State) : s.latchTemps.tickCount = s.tickCount := by
  unfold State.latchTemps
  dsimp only
  have shown (t : State) (m : Int) (x : Nat) (b : Bool) : (((t.wrI PIPE_TCOMP_STATUS.MEAN m).wr PIPE_TCOMP_STATUS.SUBST x).setIf b
      PIPE_STATUS.TCOMP_SUBST).tickCount = t.tickCount := by
    rw [setIf_tickCount _ _ _ (by decide), wr_tickCount _ _ _ (by decide)]
    exact wr_tickCount _ _ _ (by decide)
  split
  · rw [foldl_tickCount, shown]
    intro t b
    rw [wr_tickCount _ _ _ (row_ne (by decide)), wr_tickCount _ _ _ (row_ne (by decide))]
  · exact shown s _ _ _

theorem sampleRate_tickCount (s : State) : s.sampleRate.tickCount = s.tickCount := by
  unfold State.sampleRate
  dsimp only
  split <;> rfl

theorem takeSettings_tickCount (s : State) : s.takeSettings.tickCount = s.tickCount := by
  unfold State.takeSettings
  split
  · rfl
  · refine (setIf_tickCount s.latchTemps.sampleRate _ _ (by decide)).trans ?_
    rw [sampleRate_tickCount, latchTemps_tickCount]

theorem applyRate_tickCount (s : State) : s.applyRate.tickCount = s.tickCount :=
  setIf_tickCount _ _ _ (by decide)

theorem latchDisplay_tickCount (s : State) : s.latchDisplay.tickCount = s.tickCount := by
  refine (wr_tickCount _ _ _ (by decide)).trans ?_
  refine (applyRate_tickCount _).trans ((takeSettings_tickCount _).trans ?_)
  split <;> rfl

theorem fsGo_tickCount (s : State) (st : Nat) : (s.fsGo st).tickCount = s.tickCount := by
  have h := wr_tickCount (s.setFs fun f => { f with st := st, lockCnt := if st = 2 then f.lockCnt else 0 })
    TICK_STATUS.FSYNC_STATE st (by decide)
  unfold State.fsGo
  dsimp only
  split
  · exact h
  · exact (wr_tickCount _ _ _ (by decide)).trans h

theorem freeFrame_tickCount (s : State) : s.freeFrame.tickCount = s.tickCount := tickCount_congr rfl
theorem frameOf_tickCount (s : State) (n : Nat) : (s.frameOf n).tickCount = s.tickCount := tickCount_congr rfl
theorem setFs_tickCount (s : State) (f : FsyncSt → FsyncSt) : (s.setFs f).tickCount = s.tickCount := tickCount_congr rfl

theorem fsyncFrame_tickCount (s : State) : s.fsyncFrame.tickCount = s.tickCount := by
  unfold State.fsyncFrame
  dsimp only
  simp only [ite_tickCount, ite_self, freeFrame_tickCount, frameOf_tickCount, setFs_tickCount, fsGo_tickCount]

theorem holdFrame_tickCount (s : State) (n : Nat) : (s.holdFrame n).tickCount = s.tickCount := wr_tickCount _ _ _ (by decide)

theorem followFrame_tickCount (s : State) : s.followFrame.tickCount = s.tickCount := by
  have grouped (g : GroupSt) : ({ s with group := g } : State).tickCount = s.tickCount := rfl
  unfold State.followFrame
  dsimp only
  split
  · simp only [ite_tickCount, ite_self, frameOf_tickCount, holdFrame_tickCount, grouped]
  · simp only [ite_tickCount, ite_self, frameOf_tickCount, freeFrame_tickCount, grouped]

theorem unfollow_tickCount (s : State) (src : Nat) : (s.unfollow src).tickCount = s.tickCount := by
  unfold State.unfollow
  split
  · rfl
  · exact wr_tickCount _ _ _ (by decide)

theorem nextFrame_tickCount (s : State) : s.nextFrame.tickCount = s.tickCount := by
  have start (k : TickSt) (b : Bool) : (({ s with tick := k } : State).setIf b TICK_STATUS.RATE_REJECT).tickCount = s.tickCount :=
    setIf_tickCount _ _ _ (by decide)
  have stop (t : State) : ((t.setFs fun _ => FsyncSt.init).fsGo 0).tickCount = t.tickCount := fsGo_tickCount _ _
  unfold State.nextFrame
  dsimp only
  simp only [ite_tickCount, ite_self, fsyncFrame_tickCount, followFrame_tickCount, freeFrame_tickCount, unfollow_tickCount, stop, start]

/-! ### The swap of the buffers -/

theorem memDrop_tickCount (s : State) (r p : Nat) : (s.memDrop r p).tickCount = s.tickCount := tickCount_congr rfl
theorem memOp_tickCount (s : State) (r p a n : Nat) (w : Bool) : (s.memOp r p a n w).tickCount = s.tickCount := tickCount_congr rfl
theorem sramWrite_tickCount (s : State) (a : Nat) (bs : List Byte) : (s.sramWrite a bs).tickCount = s.tickCount := tickCount_congr rfl
theorem modBuf_tickCount (s : State) (n b : Nat) (f : BufRec → BufRec) : (s.modBuf n b f).tickCount = s.tickCount :=
  tickCount_congr rfl

theorem bufFld_addr (n b : Nat) : (bufFld n b).addr ≠ 0x2020 := by
  unfold bufFld
  split <;> exact row_ne (by decide)

theorem bufFree_tickCount (s : State) (n b : Nat) : (s.bufFree n b).tickCount = s.tickCount := by
  unfold State.bufFree
  dsimp only
  split
  · rfl
  · rw [wr_tickCount _ _ _ (bufFld_addr n b), modBuf_tickCount]

theorem releaseBufs_tickCount (s : State) : s.releaseBufs.tickCount = s.tickCount := by
  refine foldl_tickCount _ (fun t i => ?_) _ _
  dsimp only
  split
  · rw [bufFree_tickCount, modBuf_tickCount]
  · rfl

theorem compositionOver_tickCount (s : State) (c : Composition) : (s.compositionOver c).tickCount = s.tickCount := by
  have ended (l : LayerSt) : ({ s with layer := l } : State).tickCount = s.tickCount := tickCount_congr rfl
  unfold State.compositionOver
  rw [wr_tickCount _ _ _ (by decide), memDrop_tickCount, memDrop_tickCount, releaseBufs_tickCount, ended]

theorem abandon_tickCount (s : State) : s.abandon.tickCount = s.tickCount := by
  unfold State.abandon
  split
  · exact tickCount_congr rfl
  · exact compositionOver_tickCount s _

theorem symRest_tickCount (s : State) (r : HeldSymbol) : (s.symRest r).tickCount = s.tickCount := by
  unfold State.symRest State.putSymEntry
  dsimp only
  simp only [ite_tickCount, ite_self, finish_tickCount, sramWrite_tickCount, memOp_tickCount, scanStep_tickCount]

theorem symRelease_tickCount (s : State) : s.symRelease.tickCount = s.tickCount :=
  (foldl_tickCount _ symRest_tickCount _ _).trans (tickCount_congr rfl)

theorem abandonComp_tickCount (s : State) : s.abandonComp.tickCount = s.tickCount :=
  (symRelease_tickCount _).trans (abandon_tickCount s)

theorem swapBuffers_tickCount (s : State) : s.swapBuffers.tickCount = s.tickCount := by
  have swapped (l : LayerSt) (p : PipeSt) : ({ s with layer := l, pipe := p } : State).tickCount = s.tickCount := tickCount_congr rfl
  unfold State.swapBuffers
  split
  · rw [wr_tickCount _ _ _ (by decide), wr_tickCount _ _ _ (by decide), swapped]
  · rw [setIf_tickCount _ _ _ (by decide), abandonComp_tickCount]

/-! ### The layers -/

theorem endFill_tickCount (s : State) : s.endFill.tickCount = s.tickCount := by
  unfold State.endFill
  split
  · exact tickCount_congr rfl
  · rfl

theorem floorFlags_tickCount (s : State) : s.floorFlags.tickCount = s.tickCount := by
  unfold State.floorFlags
  dsimp only
  rw [setIf_tickCount _ _ _ (by decide), setIf_tickCount _ _ _ (by decide)]

theorem bufDrop_tickCount (s : State) (n b : Nat) : (s.bufDrop n b).tickCount = s.tickCount := by
  unfold State.bufDrop
  split
  · exact modBuf_tickCount s n b _
  · exact wr_tickCount s _ _ (bufFld_addr n b)

theorem latchLayer_tickCount (s : State) (n : Nat) : (s.latchLayer n).tickCount = s.tickCount := by
  have latched (t : State) (l : LayerSt) : ({ t with layer := l } : State).tickCount = t.tickCount := tickCount_congr rfl
  unfold State.latchLayer
  dsimp only
  rw [State.wrB, wr_tickCount _ _ _ (row_ne (by decide)), latched]
  split
  · rfl
  · rw [bufDrop_tickCount, bufDrop_tickCount]

theorem showPend_tickCount (s : State) : s.showPend.tickCount = s.tickCount :=
  foldl_tickCount _ (fun _ _ => wr_tickCount _ _ _ (row_ne (by decide))) _ _

theorem pend_tickCount (s : State) (h : Nat) : (s.pend h).tickCount = s.tickCount := tickCount_congr rfl

theorem commitNow_tickCount (s : State) (h mask : Nat) (beam : Option Nat) : (s.commitNow h mask beam).tickCount = s.tickCount := by
  have shown (k : Nat) : ((layersOf mask).foldl (fun (t : State) n => t.wr (LAYER_CTRL.BEAM n) k) s).tickCount = s.tickCount :=
    foldl_tickCount _ (fun _ _ => wr_tickCount _ _ _ (row_ne (by decide))) _ _
  have pended (t : State) (l : LayerSt) : (({ t with layer := l } : State).showPend.pend h).tickCount = t.tickCount := by
    rw [pend_tickCount, showPend_tickCount]
    exact tickCount_congr rfl
  unfold State.commitNow
  cases beam <;> dsimp only <;> (repeat' split) <;> simp only [finish_tickCount, pended, shown]

theorem commitRetry_tickCount (s : State) : s.commitRetry.tickCount = s.tickCount := by
  refine (foldl_tickCount _ (fun t e => ?_) _ _).trans (tickCount_congr rfl)
  dsimp only
  split
  · exact commitNow_tickCount t _ _ _
  · exact tickCount_congr rfl

theorem layersTick_tickCount (s : State) : s.layersTick.tickCount = s.tickCount := by
  have latched (t : State) (l : LayerSt) : ({ t with layer := l } : State).tickCount = t.tickCount := tickCount_congr rfl
  unfold State.layersTick
  dsimp only
  rw [foldl_tickCount _ (fun t n => setIf_tickCount t _ _ (row_ne (by decide))), commitRetry_tickCount,
    foldl_tickCount _ (fun t c => finish_tickCount t _ _ _), showPend_tickCount, latched, foldl_tickCount _ latchLayer_tickCount]

theorem wrB_tickCount (s : State) (f : Fld) (b : Bool) (h : f.addr ≠ 0x2020) : (s.wrB f b).tickCount = s.tickCount :=
  wr_tickCount s f _ h

/-- A bit of a word of which every bit is a field of its own. -/
theorem wr_bit_tickCount (s : State) (a k x : Nat) (h : a ≠ 0x2020) : (s.wr ⟨a, k, 1⟩ x).tickCount = s.tickCount :=
  wr_tickCount s _ x h

/-! ### Operating point, monitors and signatures -/

theorem opReached_tickCount (s : State) : s.opReached.tickCount = s.tickCount :=
  (foldl_tickCount _ (fun t h => finish_tickCount t h _ _) _ _).trans (tickCount_congr rfl)

theorem opLower_tickCount (s : State) (p : Nat) : (s.opLower p).tickCount = s.tickCount := by
  unfold State.opLower State.sets
  rw [wr_tickCount _ _ _ (by decide), wr_tickCount _ _ _ (by decide)]
  exact tickCount_congr rfl

theorem opRaise_tickCount (s : State) (p : Nat) : (s.opRaise p).tickCount = s.tickCount :=
  (wr_tickCount _ _ _ (by decide)).trans (tickCount_congr rfl)

theorem opTick_tickCount (s : State) (auto : Nat) : (s.opTick auto).tickCount = s.tickCount := by
  have powered (t : State) (p : PowerSt) : ({ t with power := p } : State).tickCount = t.tickCount := tickCount_congr rfl
  unfold State.opTick
  dsimp only
  simp only [ite_tickCount, ite_self, opReached_tickCount, opLower_tickCount, opRaise_tickCount, powered]

theorem setMon_tickCount (s : State) (m : Nat) (c : MonSt) : (s.setMon m c).tickCount = s.tickCount := tickCount_congr rfl
theorem monRestart_tickCount (s : State) (m : Nat) : (s.monRestart m).tickCount = s.tickCount := tickCount_congr rfl
theorem monCopy_tickCount (s : State) (m : Nat) : (s.monCopy m).tickCount = s.tickCount := tickCount_congr rfl

theorem monTick1_tickCount (s : State) (b : Bool) (m : Nat) : (s.monTick1 b m).tickCount = s.tickCount := by
  have marked (t : State) : (t.wr ⟨0xF000, m, 1⟩ 1).tickCount = t.tickCount := wr_bit_tickCount _ _ _ _ (by decide)
  unfold State.monTick1
  dsimp only
  simp only [ite_tickCount, ite_self, marked, monRestart_tickCount, monCopy_tickCount, setMon_tickCount]

theorem gatherComposed_tickCount (s : State) : s.gatherComposed.tickCount = s.tickCount := by
  refine foldl_tickCount _ (fun t m => ?_) _ _
  dsimp only
  split
  · exact setMon_tickCount _ _ _
  · rfl

theorem monTick_tickCount (s : State) (b : Bool) : (s.monTick b).tickCount = s.tickCount := by
  refine (foldl_tickCount _ (fun t m => monTick1_tickCount t b m) _ _).trans ?_
  split
  · exact gatherComposed_tickCount s
  · rfl

theorem sigCompare_tickCount (s : State) (k : Nat) : (s.sigCompare k).tickCount = s.tickCount := by
  have marked (t : State) : (t.wr ⟨0xF008, k, 1⟩ 1).tickCount = t.tickCount := wr_bit_tickCount _ _ _ _ (by decide)
  have set (t : State) : (t.sets MON_STATUS.SIG_MISS).tickCount = t.tickCount := wr_tickCount _ _ _ (by decide)
  have compared (t : State) : (t.inc (MON_SIG_CNT.COMPARED k)).tickCount = t.tickCount := wr_tickCount _ _ _ (row_ne (by decide))
  have missed (t : State) : (t.inc (MON_SIG_CNT.MISS k)).tickCount = t.tickCount := wr_tickCount _ _ _ (row_ne (by decide))
  unfold State.sigCompare
  dsimp only
  simp only [ite_tickCount, ite_self, missed, set, marked, compared]

theorem sigStore_tickCount (s : State) (k v : Nat) : (s.sigStore k v).tickCount = s.tickCount := by
  unfold State.sigStore
  rw [sigCompare_tickCount, wr_tickCount _ _ _ (row_ne (by decide))]
  exact tickCount_congr rfl

theorem sigTick_tickCount (s : State) (b : Bool) : (s.sigTick b).tickCount = s.tickCount := by
  refine foldl_tickCount _ (fun t k => ?_) _ _
  simp only [ite_tickCount, ite_self, sigStore_tickCount, sigCompare_tickCount]

theorem fixLeads_tickCount (s : State) : s.fixLeads.tickCount = s.tickCount := by
  have fixed (k : TickSt) (d : DaeloSt) : ({ s with tick := k, daelo := d } : State).tickCount = s.tickCount := tickCount_congr rfl
  unfold State.fixLeads
  rw [wr_tickCount _ _ _ (by decide), fixed]

/-! ### Commands that take effect at a tick -/

theorem sigLatch_tickCount (s : State) (k : Nat) (en check : Bool) (point x0 y0 x1 y1 expect : Nat) :
    (s.sigLatch k en check point x0 y0 x1 y1 expect).tickCount = s.tickCount := by
  have tested (t : State) (x : TestSt) : ({ t with test := x } : State).tickCount = t.tickCount := tickCount_congr rfl
  unfold State.sigLatch
  dsimp only
  rw [tested, State.wrB, wr_bit_tickCount _ _ _ _ (by decide)]
  unfold State.wrB
  iterate 8 rw [wr_tickCount _ _ _ (row_ne (by decide))]

theorem monLatch_tickCount (s : State) (m : Nat) (en log2 : Bool) (source shift x0 y0 x1 y1 frames : Nat) :
    (s.monLatch m en log2 source shift x0 y0 x1 y1 frames).tickCount = s.tickCount := by
  unfold State.monLatch State.wrB
  dsimp only
  rw [wr_bit_tickCount _ _ _ _ (by decide), wr_bit_tickCount _ _ _ _ (by decide), monRestart_tickCount, setMon_tickCount]

theorem groupLatch_tickCount (s : State) (role member count : Nat) : (s.groupLatch role member count).tickCount = s.tickCount := by
  have grouped (t : State) (g : GroupSt) : ({ t with group := g } : State).tickCount = t.tickCount := tickCount_congr rfl
  have named : (((s.wr GROUP_CFG.ROLE role).wr GROUP_CFG.MEMBER member).wr GROUP_CFG.COUNT count).tickCount = s.tickCount := by
    iterate 3 rw [wr_tickCount _ _ _ (by decide)]
  unfold State.groupLatch
  dsimp only
  split
  · rw [grouped, named]
  · rw [wr_tickCount _ _ _ (by decide), grouped, named]

theorem satLatch_tickCount (s : State) (len timing : Nat) (en tcomp : Bool) : (s.satLatch len timing en tcomp).tickCount = s.tickCount := by
  unfold State.satLatch State.wrB
  iterate 4 rw [wr_tickCount _ _ _ (by decide)]

theorem satPut_tickCount (s : State) (n : Nat) (ws : List (BitVec 48)) : (s.satPut n ws).tickCount = s.tickCount :=
  (wr_tickCount _ _ _ (by decide)).trans (tickCount_congr rfl)

theorem gainFld_addr (t c : Nat) : (gainFld t c).addr ≠ 0x2020 := by
  unfold gainFld
  split <;> exact row_ne (by decide)

theorem trimFld_addr (b c : Nat) : (trimFld b c).addr ≠ 0x2020 := by
  unfold trimFld
  split <;> exact row_ne (by decide)

theorem fresh_tickCount (s : State) : s.fresh.2.tickCount = s.tickCount := tickCount_congr rfl

theorem calWrite_tickCount (s : State) (strips colours frames : Nat) (gains trims : List (Nat × Nat × Nat)) :
    (s.calWrite strips colours frames gains trims).1.tickCount = s.tickCount := by
  unfold State.calWrite
  dsimp only
  rw [foldl_tickCount _ (fun t g => wr_tickCount t _ _ (trimFld_addr _ _)), foldl_tickCount _ (fun t g => wr_tickCount t _ _ (gainFld_addr _ _)),
    fresh_tickCount]

theorem calRestore_tickCount (s : State) (h colours strips : Nat) : (s.calRestore h colours strips).tickCount = s.tickCount := by
  unfold State.calRestore
  dsimp only
  rw [finish_tickCount, calWrite_tickCount]

theorem latchCmd_tickCount (s : State) (h : Nat) (c : Cmd) : (s.latchCmd h c).tickCount = s.tickCount := by
  unfold State.latchCmd
  split <;> simp only [finish_tickCount, sigLatch_tickCount, monLatch_tickCount, groupLatch_tickCount, satLatch_tickCount,
    satPut_tickCount, calRestore_tickCount]

theorem latchCmds_tickCount (s : State) : s.latchCmds.tickCount = s.tickCount :=
  (foldl_tickCount _ (fun t (e : Nat × Cmd) => latchCmd_tickCount t e.1 e.2) _ _).trans (tickCount_congr rfl)

/-! ### Calibration -/

theorem calLast_tickCount (s : State) (r : CalRun) : (s.calLast r).tickCount = s.tickCount := by
  unfold State.calLast
  rw [wr_tickCount _ _ _ (by decide), wr_tickCount _ _ _ (by decide)]

/-- What stops a run, however it ends. -/
theorem calStopped_tickCount (s : State) (c : CalSt) :
    ((({ s with cal := c } : State).wr CAL_STATUS.PHASE 0).wr CAL_STATUS.AUTO_RUN 0).tickCount = s.tickCount := by
  rw [wr_tickCount _ _ _ (by decide), wr_tickCount _ _ _ (by decide)]
  exact tickCount_congr rfl

theorem calEnd_tickCount (s : State) (bit : Fld) (st : Nat) (h : bit.addr ≠ 0x2020) : (s.calEnd bit st).tickCount = s.tickCount := by
  unfold State.calEnd
  split
  · rfl
  · rw [finish_tickCount, calLast_tickCount, State.sets, wr_tickCount _ _ _ h, calStopped_tickCount]

theorem calApply_tickCount (s : State) (r : CalRun) : (s.calApply r).tickCount = s.tickCount := by
  unfold State.calApply
  dsimp only
  rw [finish_tickCount, calLast_tickCount, State.sets, wr_tickCount _ _ _ (by decide), calStopped_tickCount, State.sets,
    wr_tickCount _ _ _ (by decide), State.wrI, wr_tickCount _ _ _ (by decide), calWrite_tickCount]

theorem calFrame_tickCount (s : State) (r : CalRun) : (s.calFrame r).tickCount = s.tickCount := by
  have going (c : CalSt) : ({ s with cal := c } : State).tickCount = s.tickCount := tickCount_congr rfl
  unfold State.calFrame
  dsimp only
  split
  · rw [wr_tickCount _ _ _ (by decide), going]
  · split
    · rw [calEnd_tickCount _ _ _ (by decide), going]
    · exact going _

theorem calStart_tickCount (s : State) (h colours strips maxFrames wait : Nat) :
    (s.calStart h colours strips maxFrames wait).tickCount = s.tickCount := by
  unfold State.calStart
  rw [wrB_tickCount _ _ _ (by decide), wr_tickCount _ _ _ (by decide)]
  exact tickCount_congr rfl

theorem calDraw_tickCount (s : State) : s.calDraw.tickCount = s.tickCount := tickCount_congr rfl

theorem calTick_tickCount (s : State) (b : Bool) : (s.calTick b).tickCount = s.tickCount := by
  have drawn := calDraw_tickCount s
  have waits (t : State) (c : CalSt) : ({ t with cal := c } : State).tickCount = t.tickCount := tickCount_congr rfl
  unfold State.calTick
  generalize s.calDraw = t at drawn
  dsimp only
  split
  · simp only [ite_tickCount, ite_self, calStart_tickCount, drawn]
  · have ended (u : State) : (u.calEnd CAL_STATUS.INTERRUPTED stInterrupted).tickCount = u.tickCount := calEnd_tickCount _ _ _ (by decide)
    simp only [ite_tickCount, ite_self, ended, calApply_tickCount, calFrame_tickCount, waits, drawn]

/-! ### The end of a tick -/

theorem tickPulses_tickCount (s : State) : s.tickPulses.tickCount = s.tickCount := tickCount_congr rfl

theorem satTick_tickCount (s : State) : s.satTick.tickCount = s.tickCount := by
  have sensed (t : State) (x : SatSt) : ({ t with sat := x } : State).tickCount = t.tickCount := tickCount_congr rfl
  unfold State.satTick
  dsimp only
  split
  · rw [State.inc, State.incBy, wr_tickCount _ _ _ (by decide), State.sets, wr_tickCount _ _ _ (by decide), sensed]
  · exact tickCount_congr rfl

theorem fencesTick_tickCount (s : State) (ready : List Nat) : (s.fencesTick ready).tickCount = s.tickCount := tickCount_congr rfl
theorem shedPhases_tickCount (s : State) : s.shedPhases.tickCount = s.tickCount := tickCount_congr rfl
theorem pushTick_tickCount (s : State) : s.pushTick.tickCount = s.tickCount := tickCount_congr rfl
theorem openFrame_tickCount (s : State) : s.openFrame.tickCount = s.tickCount := tickCount_congr rfl

theorem showTarget_tickCount (s : State) : s.showTarget.tickCount = s.tickCount := by
  have risen (t : State) (p : PowerSt) : ({ t with power := p } : State).tickCount = t.tickCount := tickCount_congr rfl
  unfold State.showTarget
  dsimp only
  rw [risen, wr_tickCount _ _ _ (by decide)]

theorem limpTarget_tickCount (s : State) : s.limpTarget.tickCount = s.tickCount := by
  have set (p : PowerSt) : ({ s with power := p } : State).tickCount = s.tickCount := tickCount_congr rfl
  unfold State.limpTarget
  split
  · dsimp only
    rw [showTarget_tickCount, set]
  · rfl

theorem copyGuard_tickCount (s : State) : s.copyGuard.tickCount = s.tickCount := by
  unfold State.copyGuard
  rw [memOp_tickCount, memOp_tickCount, sramWrite_tickCount, scanStep_tickCount]

theorem afterTick_tickCount (s : State) (ready : List Nat) (shown changed : Bool) :
    (s.afterTick ready shown changed).tickCount = s.tickCount := by
  unfold State.afterTick
  simp only [openFrame_tickCount, copyGuard_tickCount, pushTick_tickCount, shedPhases_tickCount, limpTarget_tickCount, fencesTick_tickCount,
    satTick_tickCount, tickPulses_tickCount, calTick_tickCount, latchCmds_tickCount, fixLeads_tickCount, sigTick_tickCount,
    monTick_tickCount, opTick_tickCount]

/-! ### The tick counts -/

theorem tickCounted_tickCount (s : State) : s.tickCounted.tickCount = (s.tickCount + 1) % 2 ^ 32 := State.rd_wr _ _ _ (by decide)

theorem cycleBegin_tickCount (s : State) : s.cycleBegin.tickCount = s.tickCount := tickCount_congr rfl

theorem doTick_tickCount {s : State} (h : s.ticking = true) : (doTick s).tickCount = (s.tickCount + 1) % 2 ^ 32 := by
  unfold doTick
  simp only [h, Bool.not_true, Bool.false_eq_true, if_false]
  rw [sweepParity_tickCount, afterTick_tickCount, State.sets, wr_tickCount _ _ _ (by decide), layersTick_tickCount, floorFlags_tickCount,
    endFill_tickCount, swapBuffers_tickCount, nextFrame_tickCount, latchDisplay_tickCount, limpInstall_tickCount, tickCounted_tickCount,
    cycleBegin_tickCount]

theorem doTick_of_sleeping {s : State} (h : s.sleeping = true) : doTick s = s := by
  unfold doTick State.ticking
  simp only [h, Bool.not_true, Bool.and_false, Bool.not_false, if_true]

theorem exec_tick (s : State) : exec .tick s = .next (after s (doTick s)) := rfl

/-! ## Resets

A reset keeps only always-on fields: TICK_COUNT has none, so no entry of it is left, and what a reset writes are other registers. -/

/-- No register of the sparse file is TICK_COUNT, which so reads its Reset entry. -/
def State.CountCleared (s : State) : Prop := ∀ e ∈ s.regs, e.1 ≠ 0x2020

theorem State.CountCleared.rd {s : State} (h : s.CountCleared) : s.rd TICK_COUNT.COUNT = 0 := by
  have absent : s.reg 0x2020 = regReset 0x2020 := SMap.get_absent regReset s.regs 0x2020 h
  unfold State.rd
  rw [show TICK_COUNT.COUNT.addr = 0x2020 from rfl, absent]
  decide +kernel

theorem State.CountCleared.congr {s t : State} (h : s.CountCleared) (e : t.regs = s.regs) : t.CountCleared := by
  unfold State.CountCleared
  rw [e]
  exact h

theorem State.CountCleared.wr {s : State} (h : s.CountCleared) (f : Fld) (x : Nat) (hf : f.addr ≠ 0x2020) : (s.wr f x).CountCleared := by
  intro e he
  have he : e ∈ SMap.put regReset s.regs f.addr (fput (s.reg f.addr) f.lo f.w x) := he
  simp only [SMap.put, List.mem_append, List.mem_filter] at he
  obtain (⟨he, -⟩ | he) | ⟨he, -⟩ := he
  · exact h e he
  · split at he
    · exact absurd he List.not_mem_nil
    · rw [List.mem_singleton.1 he]
      exact hf
  · exact h e he

theorem State.CountCleared.setIf {s : State} (h : s.CountCleared) (b : Bool) (f : Fld) (hf : f.addr ≠ 0x2020) : (s.setIf b f).CountCleared := by
  unfold State.setIf
  split
  · exact h.wr f 1 hf
  · exact h

theorem keepEntry_key {e r : Nat × Word} (h : keepEntry e = some r) : r.1 = e.1 := by
  unfold keepEntry at h
  dsimp only at h
  split at h
  · cases h
  · cases h
    rfl

theorem dropEntry_key {e r : Nat × Word} (h : dropEntry e = some r) : r.1 = e.1 := by
  unfold dropEntry at h
  dsimp only at h
  split at h
  · cases h
  · cases h
    rfl

/-- No bit of TICK_COUNT is of the always-on domain. -/
theorem keepEntry_tickCount (v : Word) : keepEntry (0x2020, v) = none := by
  have mask : BitVec.ofNat 32 (pMask ((regFields 0x2020).getD [])) = 0#32 := by decide +kernel
  have kept : v &&& 0#32 ||| regReset 0x2020 &&& ~~~0#32 = regReset 0x2020 := by
    rw [BitVec.and_zero, BitVec.zero_or, BitVec.not_zero, BitVec.and_allOnes]
  unfold keepEntry
  simp only [mask]
  exact if_pos kept

theorem State.CountCleared.resetCore (s : State) : s.resetCore.CountCleared := by
  intro r hr
  obtain ⟨⟨k, v⟩, -, hk⟩ := List.mem_filterMap.1 (show r ∈ s.regs.filterMap keepEntry from hr)
  rw [keepEntry_key hk]
  rintro rfl
  rw [keepEntry_tickCount] at hk
  cases hk

theorem loseBanks_regs (s : State) (bs : List Nat) : (s.loseBanks bs).regs = s.regs := by
  unfold State.loseBanks
  induction bs generalizing s with
  | nil => rfl
  | cons b bs ih => exact ih _

theorem State.CountCleared.bootCause {s : State} (h : s.CountCleared) (c d : Nat) (cold : Bool) : (s.bootCause c d cold).CountCleared :=
  State.CountCleared.wr (.congr ((h.wr SYS_BOOT_CAUSE.CAUSE _ (by decide)).wr SYS_BOOT_CAUSE.DETAIL _ (by decide)) rfl) _ _ (by decide)

theorem State.CountCleared.coldReset (s : State) (c d : Nat) : (s.coldReset c d).CountCleared :=
  ((State.CountCleared.congr (.resetCore s) (loseBanks_regs _ _)).bootCause c d true).wr _ _ (by decide)

theorem State.CountCleared.loseVaon {s : State} (h : s.CountCleared) : s.loseVaon.CountCleared := by
  have kept (k : TickSt) (b : BootSt) (p : PowerSt) :
      ({ s with regs := s.regs.filterMap dropEntry, tick := k, boot := b, power := p } : State).CountCleared := by
    intro r hr
    obtain ⟨e, he, hk⟩ := List.mem_filterMap.1 (show r ∈ s.regs.filterMap dropEntry from hr)
    rw [dropEntry_key hk]
    exact h e he
  exact (((kept _ _ _).wr _ _ (by decide)).wr POWER_TIME.QUALITY 2 (by decide)).wr SYS_BOOT_CAUSE.VAON_LOST 1 (by decide)

theorem State.CountCleared.powerReset (s : State) (vaon : Bool) : (s.powerReset vaon).CountCleared := by
  unfold State.powerReset
  dsimp only
  split
  · exact (State.CountCleared.coldReset s 0 0).loseVaon
  · exact .coldReset s 0 0

theorem State.CountCleared.retentionCheck {s : State} (h : s.CountCleared) (lost : Nat) : (s.retentionCheck lost).CountCleared :=
  ((State.CountCleared.congr h (loseBanks_regs _ _)).wr _ _ (by decide)).setIf _ _ (by decide)

theorem State.CountCleared.warmRecord {s : State} (h : s.CountCleared) : s.warmRecord.CountCleared :=
  (((State.CountCleared.congr (t := s.fresh.2) h rfl).bootCause 6 0 false).wr SYS_BOOT_HOLD.COUNT _ (by decide)).wr
    SYS_BOOT_CAUSE.HOLD_RC _ (by decide)

theorem State.CountCleared.stage3 {s : State} (h : s.CountCleared) : s.stage3.CountCleared :=
  State.CountCleared.wr (.congr h rfl) POWER_STATUS.OP 1 (by decide)

theorem State.CountCleared.warmReset (s : State) (lost : Nat) : (s.warmReset lost).CountCleared := by
  have checked : ((s.retain (bankMask warmBanks)).resetCore.retentionCheck lost).CountCleared := (State.CountCleared.resetCore _).retentionCheck lost
  unfold State.warmReset
  dsimp only
  split
  · exact .coldReset _ 6 0
  · exact State.CountCleared.stage3 (.congr checked.warmRecord rfl)

theorem State.CountCleared.resetDevice {s : State} (lost : Nat) (h : s.boot.window.isSome = true) : (doResetDeviceStart lost s).CountCleared := by
  unfold doResetDeviceStart
  split
  · next hw => simp [hw] at h
  · exact .coldReset s 7 _
  · exact .warmReset s lost

theorem State.CountCleared.bootTimeout {s : State} (h1 : 3 ≤ s.boot.stage) (h2 : s.boot.stage ≤ 10) (h3 : s.boot.held = false) :
    (doBootTimeout s).CountCleared := by
  have hr : s.inReset = false := by
    unfold State.inReset
    simp only [beq_eq_false_iff_ne]
    omega
  have ht : timedStage s.boot.stage = true := by simp [timedStage, h1, h2]
  unfold doBootTimeout
  simp only [hr, ht, h3, Bool.false_eq_true, if_false, Bool.not_false, Bool.and_self, if_true]
  exact .coldReset _ 8 _

theorem State.CountCleared.wakeTimeout {s : State} (h1 : s.power.asleep.isSome = true) (h2 : s.power.wakeStage.isSome = true) :
    (doWakeStageTimeout s).CountCleared := by
  obtain ⟨a, ha⟩ := Option.isSome_iff_exists.1 h1
  obtain ⟨k, hk⟩ := Option.isSome_iff_exists.1 h2
  unfold doWakeStageTimeout
  rw [ha, hk]
  exact .coldReset s 5 k

theorem State.CountCleared.resetPin {s : State} {n e : Bool} (h : (!n || e) = true) : (doResetPin n e s).CountCleared := by
  unfold doResetPin
  rw [if_pos h]
  exact .congr (.coldReset s 1 0) rfl

theorem State.CountCleared.clockLoss {s : State} (h1 : s.inReset = false) (h2 : s.sleeping = false) : (doClockLoss s).CountCleared := by
  unfold doClockLoss
  simp only [h1, h2, Bool.false_eq_true, if_false]
  exact .coldReset s 4 0

theorem State.CountCleared.railFault {s : State} {r : Nat} (h : (r != 0 || s.power.step.isNone) = true) : (doRailFault r s).CountCleared := by
  unfold doRailFault
  rw [if_neg]
  · exact .coldReset s 3 r
  · rintro ⟨rfl, hs⟩
    simp only [bne_self_eq_false, Bool.false_or, Option.isNone_iff_eq_none] at h
    rw [h] at hs
    cases hs

/-- Every instruction that resets a state ends in one that has no entry of TICK_COUNT. -/
theorem exec_of_resets {i : Instr} {s : State} (h : s.resets i = true) : ∃ t, exec i s = .next (after s t) ∧ t.CountCleared := by
  unfold State.resets at h
  split at h
  · exact ⟨_, rfl, .powerReset _ _⟩
  · exact ⟨_, rfl, .coldReset _ 2 0⟩
  · exact ⟨_, rfl, .powerReset _ _⟩
  · exact ⟨_, rfl, .coldReset _ 9 0⟩
  · exact ⟨_, rfl, .railFault h⟩
  · exact ⟨_, rfl, .resetPin h⟩
  · simp only [Bool.and_eq_true, Bool.not_eq_true'] at h
    obtain ⟨live, awake⟩ := h
    exact ⟨_, rfl, .clockLoss live awake⟩
  · exact ⟨_, rfl, .resetDevice _ h⟩
  · simp only [Bool.and_eq_true, decide_eq_true_eq, Bool.not_eq_true'] at h
    obtain ⟨⟨begun, timed⟩, free⟩ := h
    exact ⟨_, rfl, .bootTimeout begun timed free⟩
  · simp only [Bool.and_eq_true] at h
    obtain ⟨asleep, waking⟩ := h
    exact ⟨_, rfl, .wakeTimeout asleep waking⟩
  · cases h

end Sys2Proof.Machine

namespace Sys2Proof.Proofs
open Sys2Proof.Machine

/-- Settles O38: no reset leaves an entry of TICK_COUNT, a tick writes it once, plus 1, and no other stage of the tick writes it, and in
sleep a tick has no effect. -/
theorem tickCount : Obligations.TickCount := by
  unfold Obligations.TickCount
  refine ⟨fun i s h => ?_, fun s h => ⟨_, exec_tick s, ?_⟩, fun s h => ⟨_, exec_tick s, ?_, ?_⟩⟩
  · obtain ⟨t, ht, cleared⟩ := exec_of_resets h
    exact ⟨_, ht, (after_rd s t _).trans cleared.rd⟩
  · exact (after_rd s _ _).trans (doTick_tickCount h)
  · rw [doTick_of_sleeping h]
    exact after_rd s s _
  · rw [doTick_of_sleeping h]
    exact (Frame.refl s [] []).after s

end Sys2Proof.Proofs
end

section
/-!
PROOFS. The FSYNC tracker (R44 to R47): what an edge and a missed window do in each of its states.
-/
namespace Sys2Proof.Machine

/-! ## What every event of the tracker leaves alone -/

/-- The fields that show the tracker after an edge or the first missed window. -/
def fsFlds : List Fld := [TICK_STATUS.FSYNC_STATE, TICK_STATUS.FSYNC_LOCK, TICK_FSYNC_ERR.ERR]

/-- From `s` to `t` only the tracker changed, and fields of `fs`. -/
structure Tracks (s t : State) (fs : List Fld) : Prop where
  rest : ∀ f : FsyncSt, { t.tick with fs := f } = { s.tick with fs := f }
  frame : Frame s t [.tick] fs

theorem Tracks.refl (s : State) (fs : List Fld) : Tracks s s fs := ⟨fun _ => rfl, .refl _ _ _⟩

theorem Tracks.setFs {s t : State} {fs : List Fld} (h : Tracks s t fs) (f : FsyncSt → FsyncSt) : Tracks s (t.setFs f) fs :=
  ⟨h.rest, h.frame.setTick _ (by decide)⟩

theorem Tracks.wr {s t : State} {fs : List Fld} (h : Tracks s t fs) (f : Fld) (x : Nat) (hf : f ∈ fs) (hw : f.fits = true) :
    Tracks s (t.wr f x) fs :=
  ⟨h.rest, h.frame.wr f x hf hw⟩

theorem Tracks.setIf {s t : State} {fs : List Fld} (h : Tracks s t fs) (b : Bool) (f : Fld) (hf : f ∈ fs) (hw : f.fits = true) :
    Tracks s (t.setIf b f) fs := by
  unfold State.setIf
  split
  · exact h.wr f 1 hf hw
  · exact h

theorem Tracks.fsGo {s t : State} (h : Tracks s t fsFlds) (st : Nat) : Tracks s (t.fsGo st) fsFlds := by
  unfold State.fsGo
  have h1 := (h.setFs fun f => { f with st := st, lockCnt := if st = 2 then f.lockCnt else 0 }).wr
    TICK_STATUS.FSYNC_STATE st (by decide) rfl
  by_cases hs : st = 2
  · rw [if_pos hs]; exact h1
  · rw [if_neg hs]; exact h1.wr TICK_STATUS.FSYNC_LOCK 0 (by decide) rfl

theorem Tracks.fsLock {s t : State} (h : Tracks s t fsFlds) (e : Int) : Tracks s (t.fsLock e) fsFlds := by
  unfold State.fsLock
  split
  · exact (h.setFs _).wr _ _ (by decide) rfl
  · split
    · exact h.setFs _
    · exact (h.setFs _).setIf _ _ (by decide) rfl

/-- A valid edge has been measured: its error stands, and it counts. -/
def State.fsSeen (s : State) (e : Int) : State :=
  (s.setFs fun f => { f with err := e, fresh := true, valid := f.valid + 1 }).wrI TICK_FSYNC_ERR.ERR e

theorem Tracks.fsSeen (s : State) (e : Int) : Tracks s (s.fsSeen e) fsFlds :=
  ((Tracks.refl s fsFlds).setFs _).wr _ _ (by decide) rfl

/-- What a valid edge does once it has been measured (R45). -/
theorem fsEdgeValid_eq (s : State) (e : Int) : s.fsEdgeValid e =
    if s.tick.fs.st = 1 then
      (if 2 ≤ s.tick.fs.valid + 1 ∧ s.tick.fs.stretch = 0 then (s.fsSeen e).setFs fun f => { f with stretch := 1 } else s.fsSeen e)
    else if s.tick.fs.st = 2 then
      (if 1000000 < e.natAbs then ((s.fsSeen e).fsGo 1).setFs fun f => { f with valid := 0, stretch := 0 } else (s.fsSeen e).fsLock e)
    else if s.tick.fs.st = 3 then
      (if s.tick.fs.misses < 3 then
        (if e.natAbs * 10 ≤ s.tick.frameLen then (((s.fsSeen e).fsGo 2).setFs fun f => { f with misses := 0 }).fsLock e
         else s.fsSeen e)
       else if 2 ≤ s.tick.fs.valid + 1 then
        ((s.fsSeen e).fsGo 1).setFs fun f => { f with valid := 0, stretch := 0, misses := 0 }
       else s.fsSeen e)
    else s.fsSeen e := rfl

theorem Tracks.ite {s t u : State} {fs : List Fld} (c : Prop) [Decidable c] (ht : Tracks s t fs) (hu : Tracks s u fs) :
    Tracks s (if c then t else u) fs := by
  split
  · exact ht
  · exact hu

theorem Tracks.fsEdgeValid (s : State) (e : Int) : Tracks s (s.fsEdgeValid e) fsFlds := by
  have h := Tracks.fsSeen s e
  rw [fsEdgeValid_eq]
  have first := Tracks.ite (2 ≤ s.tick.fs.valid + 1 ∧ s.tick.fs.stretch = 0) (h.setFs fun f => { f with stretch := 1 }) h
  have locked := Tracks.ite (1000000 < e.natAbs) ((h.fsGo 1).setFs fun f => { f with valid := 0, stretch := 0 }) (h.fsLock e)
  have near := Tracks.ite (e.natAbs * 10 ≤ s.tick.frameLen) (((h.fsGo 2).setFs fun f => { f with misses := 0 }).fsLock e) h
  have lost := Tracks.ite (2 ≤ s.tick.fs.valid + 1) ((h.fsGo 1).setFs fun f => { f with valid := 0, stretch := 0, misses := 0 }) h
  exact .ite _ first (.ite _ locked (.ite _ (.ite _ near lost) h))

/-! ## Its state and lock as shown -/

@[simp] theorem setFs_fs (s : State) (f : FsyncSt → FsyncSt) : (s.setFs f).tick.fs = f s.tick.fs := rfl
@[simp] theorem setFs_rd (s : State) (f : FsyncSt → FsyncSt) (g : Fld) : (s.setFs f).rd g = s.rd g := rfl

@[simp] theorem fsGo_fs (s : State) (st : Nat) :
    (s.fsGo st).tick.fs = { s.tick.fs with st := st, lockCnt := if st = 2 then s.tick.fs.lockCnt else 0 } := by
  unfold State.fsGo
  dsimp only
  split <;> rfl

theorem fsGo_state (s : State) (st : Nat) : (s.fsGo st).rd TICK_STATUS.FSYNC_STATE = st % 4 := by
  unfold State.fsGo
  dsimp only
  split
  · exact State.rd_wr _ _ _ rfl
  · rw [State.rd_wr_apart _ _ _ _ rfl rfl]
    exact State.rd_wr _ _ _ rfl

/-- Leaving LOCKED clears FSYNC_LOCK (R47). -/
theorem fsGo_lock (s : State) {st : Nat} (h : st ≠ 2) : (s.fsGo st).rd TICK_STATUS.FSYNC_LOCK = 0 := by
  unfold State.fsGo
  dsimp only
  rw [if_neg h]
  exact State.rd_wr _ _ _ rfl

/-- The lock count is all that the lock indication changes of the tracker (R47). -/
@[simp] theorem fsLock_fs (s : State) (e : Int) : (s.fsLock e).tick.fs
    = { s.tick.fs with lockCnt := if 5000 < e.natAbs then 0 else s.tick.fs.lockCnt + 1 } := by
  unfold State.fsLock
  split
  · rw [if_pos (by omega)]; rfl
  · split
    · rfl
    · exact congrArg TickSt.fs (State.setIf_tick _ _ _)

theorem fsLock_rd (s : State) (e : Int) {g : Fld} (h : TICK_STATUS.FSYNC_LOCK.apart g = true) : (s.fsLock e).rd g = s.rd g := by
  unfold State.fsLock State.setIf
  dsimp only
  split
  · exact State.rd_wr_apart _ _ _ _ rfl h
  · split
    · rfl
    · split
      · exact State.rd_wr_apart _ _ _ _ rfl h
      · rfl

theorem fsLock_clears (s : State) {e : Int} (h : 20000 < e.natAbs) : (s.fsLock e).rd TICK_STATUS.FSYNC_LOCK = 0 := by
  unfold State.fsLock
  rw [if_pos h]
  exact State.rd_wr _ _ _ rfl

theorem fsLock_sets (s : State) {e : Int} (h : e.natAbs ≤ 5000) (hc : 4 ≤ s.tick.fs.lockCnt + 1) :
    (s.fsLock e).rd TICK_STATUS.FSYNC_LOCK = 1 := by
  unfold State.fsLock State.setIf
  rw [if_neg (by omega), if_neg (by omega)]
  dsimp only
  rw [if_pos (by simpa using hc)]
  exact State.rd_wr _ _ _ rfl

theorem fsGo_rd (s : State) (st : Nat) {g : Fld} (h : TICK_STATUS.FSYNC_STATE.apart g = true)
    (h' : TICK_STATUS.FSYNC_LOCK.apart g = true) : (s.fsGo st).rd g = s.rd g := by
  unfold State.fsGo
  dsimp only
  split
  · exact State.rd_wr_apart _ _ _ _ rfl h
  · rw [State.rd_wr_apart _ _ _ _ rfl h']
    exact State.rd_wr_apart _ _ _ _ rfl h

/-! ## A valid edge in each state (R45) -/

/-- A coded number fits its field. -/
theorem codeI_lt (w : Nat) (v : Int) : codeI w v < 2 ^ w := by
  unfold codeI
  have hp : (0 : Int) < (2 ^ w : Nat) := by exact_mod_cast Nat.two_pow_pos w
  generalize clampI (-(2 ^ (w - 1) : Nat)) ((2 ^ (w - 1) : Nat) - 1) v = x
  have h0 := Int.emod_nonneg x (Int.ne_of_gt hp)
  have h1 := Int.emod_lt_of_pos x hp
  omega

@[simp] theorem fsSeen_fs (s : State) (e : Int) :
    (s.fsSeen e).tick.fs = { s.tick.fs with err := e, fresh := true, valid := s.tick.fs.valid + 1 } := rfl

theorem fsSeen_err (s : State) (e : Int) : (s.fsSeen e).rd TICK_FSYNC_ERR.ERR = codeI 32 e := by
  have h : (s.fsSeen e).rd TICK_FSYNC_ERR.ERR = codeI 32 e % 2 ^ 32 := State.rd_wr _ _ _ rfl
  rw [h, Nat.mod_eq_of_lt (codeI_lt 32 e)]

theorem fsEdgeValid_search {s : State} (h : s.tick.fs.st = 1) (e : Int) : s.fsEdgeValid e
    = if 2 ≤ s.tick.fs.valid + 1 ∧ s.tick.fs.stretch = 0 then (s.fsSeen e).setFs fun f => { f with stretch := 1 } else s.fsSeen e := by
  rw [fsEdgeValid_eq, if_pos h]

theorem fsEdgeValid_locked {s : State} (h : s.tick.fs.st = 2) (e : Int) : s.fsEdgeValid e
    = if 1000000 < e.natAbs then ((s.fsSeen e).fsGo 1).setFs fun f => { f with valid := 0, stretch := 0 } else (s.fsSeen e).fsLock e := by
  rw [fsEdgeValid_eq, if_neg (by omega), if_pos h]

theorem fsEdgeValid_holdover {s : State} (h : s.tick.fs.st = 3) (hm : s.tick.fs.misses < 3) {e : Int}
    (he : e.natAbs * 10 ≤ s.tick.frameLen) :
    s.fsEdgeValid e = (((s.fsSeen e).fsGo 2).setFs fun f => { f with misses := 0 }).fsLock e := by
  rw [fsEdgeValid_eq, if_neg (by omega), if_neg (by omega), if_pos h, if_pos hm, if_pos he]

theorem fsEdgeValid_lost {s : State} (h : s.tick.fs.st = 3) (hm : s.tick.fs.misses = 3) (hv : 1 ≤ s.tick.fs.valid) (e : Int) :
    s.fsEdgeValid e = ((s.fsSeen e).fsGo 1).setFs fun f => { f with valid := 0, stretch := 0, misses := 0 } := by
  rw [fsEdgeValid_eq, if_neg (by omega), if_neg (by omega), if_pos h, if_neg (by omega), if_pos (by omega)]

/-- The error of a valid edge stands, in the tracker and in its register, whatever the edge does. -/
theorem fsEdgeValid_err (s : State) (e : Int) :
    (s.fsEdgeValid e).tick.fs.err = e ∧ (s.fsEdgeValid e).rd TICK_FSYNC_ERR.ERR = codeI 32 e := by
  have h := fsSeen_err s e
  rw [fsEdgeValid_eq]
  repeat' split
  all_goals
    refine ⟨by simp, ?_⟩
    simpa only [setFs_rd, fsGo_rd _ _ (g := TICK_FSYNC_ERR.ERR) rfl rfl, fsLock_rd _ _ (g := TICK_FSYNC_ERR.ERR) rfl] using h

/-! ## The events -/

/-- An edge that is not valid only restarts the count of consecutive valid ones, and after FSYNC_LOST not even that. -/
theorem doFsyncEdge_invalid {s : State} (hs : s.tick.src = 1) (hv : s.fsValid = false) : doFsyncEdge s
    = s.setFs fun f => { f with valid := if f.lost then f.valid else 0, lastEdge := some s.now } := by
  unfold doFsyncEdge
  simp only [hs, hv, ne_eq, not_true_eq_false, if_false, Bool.false_eq_true]
  rfl

theorem doFsyncEdge_valid {s : State} (hs : s.tick.src = 1) (hv : s.fsValid = true) : doFsyncEdge s
    = (s.fsEdgeValid ((s.now : Int) - s.nearTick)).setFs fun f =>
        { f with interval := s.now - s.tick.fs.lastEdge.getD s.now, lastEdge := some s.now } := by
  unfold doFsyncEdge
  simp only [hs, hv, ne_eq, not_true_eq_false, if_false, if_true]
  rfl

theorem doFsyncWindowMiss_locked {s : State} (hs : s.tick.src = 1) (h : s.tick.fs.st = 2) :
    doFsyncWindowMiss s = (s.fsGo 3).setFs fun f => { f with misses := 1, valid := 0 } := by
  unfold doFsyncWindowMiss
  rw [if_neg (by simp [hs]), if_pos h]

theorem doFsyncWindowMiss_holdover {s : State} (hs : s.tick.src = 1) (h : s.tick.fs.st = 3) : doFsyncWindowMiss s
    = (s.setFs fun f => { f with misses := min 3 (s.tick.fs.misses + 1), valid := if s.tick.fs.misses < 3 then 0 else f.valid }).setIf
        (min 3 (s.tick.fs.misses + 1) == 3 && s.tick.fs.misses == 2) TICK_STATUS.FSYNC_LOST := by
  unfold doFsyncWindowMiss
  rw [if_neg (by simp [hs]), if_neg (by omega), if_pos h]

end Sys2Proof.Machine

namespace Sys2Proof.Proofs
open Sys2Proof.Machine

section
variable {s : State} (hs : s.tick.src = 1)
include hs

/-- The clause of an edge that is not valid. -/
theorem fsyncEdge_invalid (hl : Live s) (hv : s.fsValid = false) : ∃ t, exec .fsyncEdge s = .next t
    ∧ t.tick = { s.tick with fs := { s.tick.fs with
        valid := if s.tick.fs.st = 3 ∧ s.tick.fs.misses = 3 then s.tick.fs.valid else 0, lastEdge := some s.now } }
    ∧ Frame s t [.tick] [] := by
  refine ⟨_, exec_live hl rfl, ?_, ?_⟩ <;> rw [doFsyncEdge_invalid hs hv]
  · rw [after_tick]
    simp only [State.setFs, FsyncSt.lost, Bool.and_eq_true, beq_iff_eq]
  · exact ((Frame.refl s [.tick] []).setTick _ (by decide)).after s

/-- The clause of a missed window in LOCKED. -/
theorem fsyncWindowMiss_locked (hl : Live s) (h : s.tick.fs.st = 2) : ∃ t, exec .fsyncWindowMiss s = .next t
    ∧ t.tick.fs.st = 3 ∧ t.tick.fs.misses = 1 ∧ t.rd TICK_STATUS.FSYNC_STATE = 3 ∧ t.rd TICK_STATUS.FSYNC_LOCK = 0
    ∧ Frame s t [.tick] fsFlds := by
  refine ⟨_, exec_live hl rfl, ?_⟩
  rw [doFsyncWindowMiss_locked hs h, after_tick, after_rd, after_rd]
  exact ⟨by simp, rfl, fsGo_state s 3, fsGo_lock s (by decide), (((Tracks.refl s fsFlds).fsGo 3).setFs _).frame.after s⟩

/-- The clause of a missed window in HOLDOVER. -/
theorem fsyncWindowMiss_holdover (hl : Live s) (h : s.tick.fs.st = 3) : ∃ t, exec .fsyncWindowMiss s = .next t
    ∧ t.tick.fs.st = 3 ∧ t.tick.fs.misses = min 3 (s.tick.fs.misses + 1)
    ∧ (s.tick.fs.misses = 2 → t.rd TICK_STATUS.FSYNC_LOST = 1) ∧ Frame s t [.tick] [TICK_STATUS.FSYNC_LOST] := by
  refine ⟨_, exec_live hl rfl, ?_⟩
  rw [doFsyncWindowMiss_holdover hs h, after_tick, after_rd, State.setIf_tick]
  refine ⟨h, rfl, fun hm => ?_, (((Tracks.refl s [_]).setFs _).setIf _ _ (by simp) rfl).frame.after s⟩
  simp only [hm, State.setIf]
  exact State.rd_wr _ _ _ rfl

end

/-- Settles O44: by the state of the tracker, each of which has its equation for an edge and for a missed window. -/
theorem fsyncTracks : Obligations.FsyncTracks := by
  unfold Obligations.FsyncTracks
  intro s hl hs f e fsFlds'
  refine ⟨fsyncEdge_invalid hs hl, fun hv => ?_, fsyncWindowMiss_locked hs hl, fsyncWindowMiss_holdover hs hl⟩
  refine ⟨_, exec_live hl rfl, ?_⟩
  rw [doFsyncEdge_valid hs hv, after_tick]
  simp only [after_rd, setFs_rd, setFs_fs]
  obtain ⟨herr, hshown⟩ := fsEdgeValid_err s e
  have hk := Tracks.fsEdgeValid s e
  refine ⟨hshown, trivial, rfl, herr, ?locked_far, ?locked, ?search, ?holdover, ?lost, hk.rest f, (hk.setFs _).frame.after s⟩
  case locked_far =>
    intro hf he
    rw [fsEdgeValid_locked hf, if_pos he]
    exact ⟨by simp, fsGo_state _ 1, fsGo_lock _ (by decide)⟩
  case locked =>
    intro hf he
    rw [fsEdgeValid_locked hf, if_neg (by omega), fsLock_fs, fsSeen_fs]
    dsimp only
    refine ⟨hf, fun h => ⟨fsLock_clears _ h, ?_⟩, fun h => ⟨?_, fun hc => fsLock_sets _ h hc⟩⟩
    · rw [if_pos (by omega)]
    · rw [if_neg (by omega)]
  case search =>
    intro hf
    rw [fsEdgeValid_search hf]
    split
    · exact ⟨hf, rfl, fun _ _ => rfl⟩
    · rename_i hn
      exact ⟨hf, rfl, fun hv hst => absurd ⟨Nat.succ_le_succ hv, hst⟩ hn⟩
  case holdover =>
    intro hf hm he
    rw [fsEdgeValid_holdover hf hm he, fsLock_rd _ _ rfl, setFs_rd, fsGo_state]
    exact ⟨by simp, rfl⟩
  case lost =>
    intro hf hm hv
    rw [fsEdgeValid_lost hf hm hv]
    exact ⟨by simp, fsGo_state _ 1⟩

end Sys2Proof.Proofs
end

section
/-!
PROOFS. The hand-over of the LED supply's target (R378, R382), and the state that refutes `PredictionPasses`.
-/
namespace Sys2Proof.Machine

/-- The hand-over begins a rise where the supply runs and its target goes up (R382). -/
theorem doVledTargetHandover_rising (s : State) : (doVledTargetHandover s).power.rising
    = (s.power.rising || (s.power.led == 2 && s.rd POWER_VLED_STATUS.TARGET < s.power.tgtNext)) := rfl

/-- A running device whose LED supply runs, with 2,600 mV for the coming frame and a lower target shown. -/
def belowTarget : State :=
  { State.reset with
    boot := { BootSt.init with stage := 11 }
    power := { PowerSt.init with led := 2, tgtNext := 2600 } }

theorem belowTarget_live : Live belowTarget := ⟨rfl, rfl⟩

theorem belowTarget_rises : (doVledTargetHandover belowTarget).power.rising = true := by
  rw [doVledTargetHandover_rising]
  decide

end Sys2Proof.Machine

namespace Sys2Proof.Proofs
open Sys2Proof.Machine

/-- Refutes O40: the hand-over clause has of the LED supply only the two targets change, but from `belowTarget`, where the
target shown is below the coming frame's, the hand-over also begins a rise (R382). -/
theorem not_predictionPasses : ¬ Obligations.PredictionPasses := by
  unfold Obligations.PredictionPasses
  rintro ⟨-, -, -, -, handover⟩
  obtain ⟨t, ht, hpower, -⟩ := handover belowTarget belowTarget_live (by decide)
  rw [exec_live belowTarget_live rfl] at ht
  cases ht
  have hr := belowTarget_rises
  rw [after_power] at hpower
  rw [hpower] at hr
  exact Bool.false_ne_true hr

end Sys2Proof.Proofs
end

section
/-!
PROOFS. The state that refutes `TickBeginsFrame`.
-/
namespace Sys2Proof.Machine


/-- A calibration run in its last phase with a new gain for a strip that the array does not have: where the gain of strip
4,080 would stand, `LINK_CTRL` does. No fit leaves such a gain (R414), but the state can hold it. -/
def strayGain : State :=
  { State.reset with
    boot := { BootSt.init with stage := 11 }
    cal := { CalSt.init with run := some ⟨0, 1, 1, 8, 0, 8, [], [], [(4080, 0, 1)], []⟩ } }.wr CAL_STATUS.PHASE 3

/-- The lower half of `LINK_CTRL`. -/
def linkCtrlLow : Fld := gainFld 4080 0

/-- The tick applies the run (R417), and so writes `LINK_CTRL`. -/
theorem strayGain_written : (doTick strayGain).rd linkCtrlLow ≠ strayGain.rd linkCtrlLow := by decide +kernel

end Sys2Proof.Machine

namespace Sys2Proof.Proofs
open Sys2Proof.Machine

/-- Refutes O39: the clause of the device's own source has no field of the LINK block change, for every state and so for
`strayGain` too, whose tick applies a calibration run with a gain for a strip beyond the array. The statement has no premise
that a run's gains are for strips 0 to 7 and its trims for banks 0 to 7. -/
theorem not_tickBeginsFrame : ¬ Obligations.TickBeginsFrame := by
  unfold Obligations.TickBeginsFrame
  rintro ⟨own, -, -, -⟩
  have sound : Sound strayGain := fun a ha => absurd ha List.not_mem_nil
  obtain ⟨t, ht, -, -, -, -, -, -, -, -, -, -, -, -, -, -, -, -, -, -, -, -, -, -, fields⟩ :=
    own strayGain (by decide +kernel) (by decide +kernel) sound
  rw [exec_tick] at ht
  obtain rfl := Host.Outcome.next.inj ht
  have kept := fields linkCtrlLow (.inr (.inl (by decide)))
  rw [after_rd] at kept
  exact strayGain_written kept

end Sys2Proof.Proofs
end

section
/-!
PROOFS. The state that refutes `IdleStep`.
-/
namespace Sys2Proof.Machine

/-- A SHUTDOWN whose plan is the SAFE_PATH test alone, at the end of that test: an agreed request of SB is held, the device is
in NORMAL, and its boot has found no limp beam (R233, R421). -/
def heldRequest : State :=
  (({ State.reset with
      boot := { BootSt.init with stage := 11, limpJudged := true }
      power := { PowerSt.init with shut := some ⟨0, false, 1, false, 0, 0, 2 ^ 10, none⟩ }
      safe := { SafeSt.init with running := true, path := some (40, cause 1) } }.wr BIST_STATUS.RUN 1).wr BIST_PROG.CURRENT 10).wr
    BIST_PROG.ACTIVE 1

/-- The request enters DARK for want of a beam, which latches NO_LIMP_BEAM beside SB_REQ (R233). -/
theorem heldRequest_latches : (idle heldRequest).rd SAFE_CAUSE.LATCHED = cause 1 + cause 14 := by decide +kernel

end Sys2Proof.Machine

namespace Sys2Proof.Proofs
open Sys2Proof.Machine

/-- Refutes O2: the last clause has the held causes alone join those latched, but from `heldRequest` the request enters DARK
for want of a limp beam, and NO_LIMP_BEAM is latched with it (R233). -/
theorem not_idleStep : ¬ Obligations.IdleStep := by
  unfold Obligations.IdleStep
  intro h
  obtain ⟨t, ht, -, -, -, -, -, -, hpath⟩ := h heldRequest rfl
  cases ht
  obtain ⟨-, hlatched⟩ := hpath 40 (cause 1) rfl (by decide) (by decide +kernel) (fun r hr => by cases hr)
  have hl := hlatched (by decide)
  rw [heldRequest_latches] at hl
  revert hl
  decide +kernel

end Sys2Proof.Proofs
end
